-- ==== Sys2Proof/Word.lean ====
section
/-! DEFINITION. The byte, the unit of every layout of the MT-204 (chapter "Record and Frame Layouts"). -/

namespace Sys2Proof

/-- One byte of a frame, a journal slot or a notice. Bit 0 is the least significant bit. -/
abbrev Byte := BitVec 8

end Sys2Proof
end

