-- ==== Sys2Proof/Syntax.lean ====
section
/-! DEFINITION. The commands of the MT-204: one constructor per row of spec/opcode_table.json.
The part fetches no program. A row is a frame of the panel link, an edge on a pin, an expiry of one of
the part's own timers, a completion of a flash operation, or an event on the party line. An operand
carries what the world outside the model measured or sent (log entry 3). -/

namespace Sys2Proof

/-- What follows the command byte of a panel-link frame: the length byte and the payload, as far as
whole bytes of them were clocked in (R183, R194). -/
abbrev Tail := List Byte

/-- The three ways in which an EXH measurement, and with it its pair, is completed (R34, R35, R36). -/
inductive ExhEnd where
  /-- at the gate end, with the count N_s -/
  | gate (count : Nat)
  /-- at the closing edge of the period extension, with the period P_s in microseconds -/
  | period (us : Nat)
  /-- with no oscillation, the period timer at 65 535 -/
  | timeout
deriving DecidableEq, Repr

/-- What comes with a main-domain reset: the rail input's level as it ends (R89), and the changes of the holdover door
view while it is in progress, in order, `true` for OPEN (R127). -/
structure ResetInputs where
  railTrip : Bool
  doorViews : List Bool
deriving DecidableEq, Repr

/-- The commands, in the order of spec/opcode_table.json. -/
inductive Instr where
  /-- MAIN_RESET (R1): main power-on or RESET_N -/
  | mainReset (inputs : ResetInputs)
  /-- HOST_RESET (R26): the main-domain reset that a taken RESET leads to -/
  | hostReset (inputs : ResetInputs)
  /-- MAIN_SUPPLY_FAIL (R122) -/
  | mainSupplyFail
  /-- HOLDOVER_SUPPLY_LOSS (R122) -/
  | holdoverSupplyLoss
  /-- HOLDOVER_POWER_ON (R125) -/
  | holdoverPowerOn
  /-- SETUP (R185) -/
  | setup (tail : Tail)
  /-- START (R4) -/
  | start (tail : Tail)
  /-- PAUSE (R15) -/
  | pause (tail : Tail)
  /-- CONTINUE (R16) -/
  | continueCycle (tail : Tail)
  /-- CANCEL (R17) -/
  | cancel (tail : Tail)
  /-- CONFIRM_RESUME (R23) -/
  | confirmResume (tail : Tail)
  /-- DECLINE_RESUME (R23) -/
  | declineResume (tail : Tail)
  /-- FORCE_RESUME (R25) -/
  | forceResume (tail : Tail)
  /-- READ_STATUS (R187) -/
  | readStatus (tail : Tail)
  /-- READ_PLAN (R188) -/
  | readPlan (tail : Tail)
  /-- READ_PEERS (R188) -/
  | readPeers (tail : Tail)
  /-- READ_RECORD (R189) -/
  | readRecord (tail : Tail)
  /-- READ_COUNTERS (R188) -/
  | readCounters (tail : Tail)
  /-- READ_IDENT (R189) -/
  | readIdent (tail : Tail)
  /-- RESET_ENABLE (R190) -/
  | resetEnable (tail : Tail)
  /-- RESET (R190) -/
  | reset (tail : Tail)
  /-- EMPTY_FRAME (R183): a frame of `count` whole bytes that carries no command -/
  | emptyFrame (count : Nat)
  /-- UNKNOWN_COMMAND (R184): a frame whose command byte `code` names no command -/
  | unknownCommand (code : Byte) (tail : Tail)
  /-- SEQUENCER_SECOND (R6) -/
  | sequencerSecond
  /-- GUARD_BURST_TIMER_EXPIRY (R13): the sequencer second at which the burst timer reaches 0 -/
  | guardBurstTimerExpiry
  /-- PROGRESS_TIMER_EXPIRY (R18): the sequencer second at which the progress timer reaches 20 -/
  | progressTimerExpiry
  /-- SENSOR_FAULT_COUNT_EXPIRY (R11): the sequencer second at which the fault count reaches 30 -/
  | sensorFaultCountExpiry
  /-- AIRFLOW_HOLD_SET (R79): the sequencer second at which the low run reaches 5 -/
  | airflowHoldSet
  /-- AIRFLOW_HOLD_CLEAR (R79): the sequencer second at which the good run reaches 5 -/
  | airflowHoldClear
  /-- AIRFLOW_FAULT (R80): the sequencer second at which the cumulative hold count reaches 600 -/
  | airflowFault
  /-- MAKE_PLAN (R134): the end of the EXH measurement that the planner waits for -/
  | makePlan (exhEnd : ExhEnd)
  /-- REF_GATE_END (R32), with the gate count N_ref -/
  | refGateEnd (count : Nat)
  /-- SENSOR_GATE_END (R34), with the gate count N_s -/
  | sensorGateEnd (count : Nat)
  /-- PERIOD_END (R35), with the period P_s in microseconds -/
  | periodEnd (us : Nat)
  /-- PERIOD_TIMEOUT (R36) -/
  | periodTimeout
  /-- STRAP_REF_GATE_END (R41), with the gate count N_ref -/
  | strapRefGateEnd (count : Nat)
  /-- STRAP_GATE_END (R42), with the gate count N_s -/
  | strapGateEnd (count : Nat)
  /-- ZERO_CROSS_EDGE (R85); `us` is the time on the 1 µs timebase since the missing-crossing timer was
  last counted (log entry 4) -/
  | zeroCrossEdge (us : Nat)
  /-- PERIOD_BOUNDARY (R67): the crossing that begins modulation position 0; `us` as for an edge -/
  | periodBoundary (us : Nat)
  /-- START_WINDOW_END (R75) -/
  | startWindowEnd
  /-- COAST_TIMEOUT (R74) -/
  | coastTimeout
  /-- DOOR_OPENED (R78) -/
  | doorOpened
  /-- DOOR_CLOSED (R78) -/
  | doorClosed
  /-- RAIL_DROP_TIMEOUT (R81) -/
  | railDropTimeout
  /-- MISSING_CROSSING_TIMEOUT (R88) -/
  | missingCrossingTimeout
  /-- RAIL_TRIP (R89) -/
  | railTrip
  /-- RAIL_HEALTHY (R89) -/
  | railHealthy
  /-- CLASSIFY_BLOCK (R86): the crossing that completes a block of 16 half-periods; `us` as for an edge -/
  | classifyBlock (us : Nat)
  /-- RETURN_COMPLETE (R92): the crossing that brings the return count to 8; `us` as for an edge -/
  | returnComplete (us : Nat)
  /-- RETURN_TIMEOUT (R92): the crossing that brings the return crossing count to 64; `us` as for an edge -/
  | returnTimeout (us : Nat)
  /-- HOLDOVER_SECOND (R123) -/
  | holdoverSecond
  /-- CRYSTAL_STOP (R124) -/
  | crystalStop
  /-- DOOR_VIEW_CHANGE (R126): three agreeing samples, at the open level when `isOpen` -/
  | doorViewChange (isOpen : Bool)
  /-- PROGRAM_BEGIN (R103) -/
  | programBegin
  /-- PROGRAM_COMPLETE (R104); `agrees`: the slot reads back as the 64 bytes meant -/
  | programComplete (agrees : Bool)
  /-- ERASE_BEGIN (R108) -/
  | eraseBegin
  /-- ERASE_COMPLETE (R108); `blank`: every slot of the sector reads back BLANK -/
  | eraseComplete (blank : Bool)
  /-- SUSPEND_REQUEST (R109) -/
  | suspendRequest
  /-- SUSPEND_EFFECT (R109) -/
  | suspendEffect
  /-- SCAN_COMPLETE (R117) -/
  | scanComplete
  /-- CHARACTER_RECEIVED (R160): the data byte, the address flag, and whether the stop bit reads one; `none` for a fall of
  the line that is over at the middle of the start bit and begins no character (R152) -/
  | characterReceived (data : Option Byte) (flag : Bool) (stopOk : Bool)
  /-- LINE_IDLE (R160) -/
  | lineIdle
  /-- FRAME_BEGIN (R155) -/
  | frameBegin
  /-- COLLISION (R156): the value read back differs from the bit sent -/
  | collision
  /-- BACKOFF_EXPIRY (R156) -/
  | backoffExpiry
  /-- NOTICE_SENT (R155) -/
  | noticeSent
  /-- STUCK_LOW (R159) -/
  | stuckLow
  /-- NOTICE_TIMER_EXPIRY (R173) -/
  | noticeTimerExpiry
  /-- SETTLE_EXPIRY (R175) -/
  | settleExpiry
  /-- LISTEN_IN_EXPIRY (R180) -/
  | listenInExpiry
  /-- PEER_AGE_OUT (R172): the entry of station `id` -/
  | peerAgeOut (id : Nat)
  /-- AIRFLOW_PULSE (R79) -/
  | airflowPulse
deriving DecidableEq, Repr

end Sys2Proof
end

