-- ==== Sys2Proof/WellFormed.lean ====
section
/-! DEFINITION. Which commands the world outside can form: the operand ranges of the manual. -/

namespace Sys2Proof

/-- A gate count fits the 20-bit counter (R29). -/
def countOk (n : Nat) : Bool := n ≤ 1048575

/-- A period is 1..65 535 microseconds (R35). -/
def periodOk (us : Nat) : Bool := 1 ≤ us && us ≤ 65535

/-- The operands of an EXH completion are a count or a period the converter can form. -/
def ExhEnd.wf : ExhEnd → Bool
  | .gate n => countOk n
  | .period us => periodOk us
  | .timeout => true

/-- The command codes of R194. -/
def commandCodes : List Byte :=
  [0x01, 0x02, 0x03, 0x04, 0x05, 0x06, 0x07, 0x08, 0x10, 0x11, 0x12, 0x13, 0x14, 0x15, 0x20, 0x21]

/-- A byte that is neither a command code nor the fill value (R183, R184, R194). -/
def isUnknownCode (code : Byte) : Bool := !(commandCodes.contains code) && code != 0xFF

/-- A Peer Table entry bears a station id of 1..31 (R171). -/
def stationIdOk (id : Nat) : Bool := 1 ≤ id && id ≤ 31

/-- Successive changes of the door view lead to different views (R126). -/
def viewsOk : List Bool → Bool
  | a :: b :: rest => a != b && viewsOk (b :: rest)
  | _ => true

/-- The operands of a command are within the ranges of the manual. -/
def Instr.wf : Instr → Bool
  | .mainReset inputs => viewsOk inputs.doorViews
  | .hostReset inputs => viewsOk inputs.doorViews
  | .mainSupplyFail => true
  | .holdoverSupplyLoss => true
  | .holdoverPowerOn => true
  | .setup _ => true
  | .start _ => true
  | .pause _ => true
  | .continueCycle _ => true
  | .cancel _ => true
  | .confirmResume _ => true
  | .declineResume _ => true
  | .forceResume _ => true
  | .readStatus _ => true
  | .readPlan _ => true
  | .readPeers _ => true
  | .readRecord _ => true
  | .readCounters _ => true
  | .readIdent _ => true
  | .resetEnable _ => true
  | .reset _ => true
  | .emptyFrame _ => true
  | .unknownCommand code _ => isUnknownCode code
  | .sequencerSecond => true
  | .guardBurstTimerExpiry => true
  | .progressTimerExpiry => true
  | .sensorFaultCountExpiry => true
  | .airflowHoldSet => true
  | .airflowHoldClear => true
  | .airflowFault => true
  | .makePlan e => e.wf
  | .refGateEnd n => countOk n
  | .sensorGateEnd n => countOk n
  | .periodEnd us => periodOk us
  | .periodTimeout => true
  | .strapRefGateEnd n => countOk n
  | .strapGateEnd n => countOk n
  | .zeroCrossEdge _ => true
  | .periodBoundary _ => true
  | .startWindowEnd => true
  | .coastTimeout => true
  | .doorOpened => true
  | .doorClosed => true
  | .railDropTimeout => true
  | .missingCrossingTimeout => true
  | .railTrip => true
  | .railHealthy => true
  | .classifyBlock _ => true
  | .returnComplete _ => true
  | .returnTimeout _ => true
  | .holdoverSecond => true
  | .crystalStop => true
  | .doorViewChange _ => true
  | .programBegin => true
  | .programComplete _ => true
  | .eraseBegin => true
  | .eraseComplete _ => true
  | .suspendRequest => true
  | .suspendEffect => true
  | .scanComplete => true
  | .characterReceived _ _ _ => true
  | .lineIdle => true
  | .frameBegin => true
  | .collision => true
  | .backoffExpiry => true
  | .noticeSent => true
  | .stuckLow => true
  | .noticeTimerExpiry => true
  | .settleExpiry => true
  | .listenInExpiry => true
  | .peerAgeOut id => stationIdOk id
  | .airflowPulse => true

end Sys2Proof
end

