-- ==== Sys2Proof/Decode.lean ====
section
/-! DEFINITION. The table's words, and the frames of the panel link.
spec/opcode_table.json gives no row any bits, so no word spells a command. The one encoding the manual
gives a command from outside is the panel-link frame of R183, R184 and R194. -/

namespace Sys2Proof

/-- The command that a word spells by the table's bits: none, since no row of the table gives bits. -/
def decodeTableWord (_nbits _w : Nat) : Option Instr := none

/-- The command that a panel-link frame of whole bytes carries (R183, R184, R194): a frame without a whole
byte, or whose first byte is the fill value, is empty; a code that names no command is unknown. -/
def commandOfFrame : List Byte → Instr
  | [] => .emptyFrame 0
  | code :: tail =>
    if code = 0xFF then .emptyFrame (tail.length + 1)
    else if code = 0x01 then .setup tail
    else if code = 0x02 then .start tail
    else if code = 0x03 then .pause tail
    else if code = 0x04 then .continueCycle tail
    else if code = 0x05 then .cancel tail
    else if code = 0x06 then .confirmResume tail
    else if code = 0x07 then .declineResume tail
    else if code = 0x08 then .forceResume tail
    else if code = 0x10 then .readStatus tail
    else if code = 0x11 then .readPlan tail
    else if code = 0x12 then .readPeers tail
    else if code = 0x13 then .readRecord tail
    else if code = 0x14 then .readCounters tail
    else if code = 0x15 then .readIdent tail
    else if code = 0x20 then .resetEnable tail
    else if code = 0x21 then .reset tail
    else .unknownCommand code tail

/-- The frame that carries a command, where the command is one of the host's (R194); an empty frame is
written with the fill value in every byte. -/
def frameOfCommand : Instr → Option (List Byte)
  | .setup t => some (0x01 :: t)
  | .start t => some (0x02 :: t)
  | .pause t => some (0x03 :: t)
  | .continueCycle t => some (0x04 :: t)
  | .cancel t => some (0x05 :: t)
  | .confirmResume t => some (0x06 :: t)
  | .declineResume t => some (0x07 :: t)
  | .forceResume t => some (0x08 :: t)
  | .readStatus t => some (0x10 :: t)
  | .readPlan t => some (0x11 :: t)
  | .readPeers t => some (0x12 :: t)
  | .readRecord t => some (0x13 :: t)
  | .readCounters t => some (0x14 :: t)
  | .readIdent t => some (0x15 :: t)
  | .resetEnable t => some (0x20 :: t)
  | .reset t => some (0x21 :: t)
  | .emptyFrame n => some (List.replicate n 0xFF)
  | .unknownCommand code t => some (code :: t)
  | _ => none

end Sys2Proof
end

