-- ==== Sys2Proof/Config.lean ====
section
/-! DEFINITION. The free values: what the manual leaves open and the machine nevertheless goes on after.
Each is a constant without a body, applied to the free-value counter of State (log entries 5, 6, 7, 32 and 42). -/

namespace Sys2Proof

/-- Which of two events of one instant is taken first, where the rule that owns the state gives an outcome
for either order (R59, R80) or the manual names no order (R11, R18). Log entry 5. -/
opaque Config.orderChoice : Nat → Bool

/-- What a flash operation that a main-domain reset or a failing supply cut off leaves of slot `slot`:
read modulo 3 as blank, kept or garbage (R113). Log entry 6. -/
opaque Config.tornSlot : Nat → Nat → Nat

/-- The bytes that a cut-off or failed flash operation leaves in a slot (R105, R108, R113). Log entry 7. -/
opaque Config.garbageByte : Nat → Nat → Byte

/-- A cycle of the 32 768 Hz crystal arrives when the next one is due: the crystal may stop and start again at
any time (R124). Log entry 32. -/
opaque Config.crystalCycle : Nat → Bool

/-- Another station, or a failure of the wire, holds the party line low through this microsecond (R151). Log
entry 42. -/
opaque Config.lineLow : Nat → Bool

end Sys2Proof
end

