-- ==== Sys2Proof/Machine/State.lean ====
section
/-! DEFINITION. The state of the MT-204: the eleven blocks of chapter "Block overview", the Station
Settings, the flash, the two supplies, and the queue of waiting commands. Times are in microseconds
of the 1 µs timebase; a timer is `none` while it is stopped and `some t` with `t` still to run.
What a block computes afresh whenever it is read (wants, hold-off reasons, the unit state, the
door watch, held units, ATTN) is no field; it stands in Machine/Flags.lean. -/

namespace Sys2Proof.Machine

/-- The cycle states of R1. -/
inductive CycleState where
  | config | idle | heat | extend | cool | guard | paused | loss | holdoverWait | planning | planReady
  | done | abandoned
deriving DecidableEq, Repr

/-- The phases of the Cycle Record (R5); `before` of R5 takes the first five. -/
inductive Phase where
  | none | heat | extend | cool | guard | paused | ended
deriving DecidableEq, Repr

/-- The guard burst state (R5, R13). -/
inductive Burst where
  | rest | tumble
deriving DecidableEq, Repr

/-- The record kinds (R18, R192). -/
inductive RecordKind where
  | start | progress | phase | loss | resume | finish
deriving DecidableEq, Repr

/-- The end reasons (R17, R192). -/
inductive EndReason where
  | none | complete | cancelled | doorEnd | declined | hostReset | abandoned
deriving DecidableEq, Repr

/-- The ready reason held in PLAN_READY (R22). -/
inductive ReadyReason where
  | none | doorOpen | confirm
deriving DecidableEq, Repr

/-- The reason flags of the Cycle Record (R5). -/
structure Reasons where
  heatLimit : Bool
  sensorFault : Bool
  airflowFault : Bool
  cancelled : Bool
  doorEnd : Bool
  journalFault : Bool
deriving DecidableEq, Repr

/-- No reason flag. -/
def Reasons.clear : Reasons := ⟨false, false, false, false, false, false⟩

/-- The Cycle Record (R5). -/
structure CycleRecord where
  cycleId : Nat
  phase : Phase
  before : Phase
  burst : Burst
  burstTimer : Nat
  heated : Nat
  phaseElapsed : Nat
  tDry : Nat
  extTotal : Nat
  extDone : Nat
  coolElapsed : Nat
  guardRemaining : Nat
  reasons : Reasons
deriving DecidableEq, Repr

/-- The Cycle Record after a main reset (R5). DESIGN CHOICE: the cycle id reads 0 until the scan sets it (log entry
13). -/
def CycleRecord.reset : CycleRecord := ⟨0, .none, .none, .rest, 0, 0, 0, 0, 0, 0, 0, 0, .clear⟩

/-- The Cycle Descriptor (R2). -/
structure Descriptor where
  x : Nat
  minHeat : Nat
  maxHeat : Nat
  exhLimit : Nat
  coolTarget : Nat
  coolMin : Nat
  coolMax : Nat
  guardTotal : Nat
  guardRest : Nat
  guardTumble : Nat
  guardResumeMin : Nat
  stages : Nat
  dryRun : Nat
  dryHits : Nat
  wetThreshold : Nat
deriving DecidableEq, Repr

/-- The descriptor after a main reset: every field zero (R2). -/
def Descriptor.reset : Descriptor := ⟨0, 0, 0, 0, 0, 0, 0, 0, 0, 0, 0, 0, 0, 0, 0⟩

/-- The Station Settings (R185). -/
structure Settings where
  budget : Nat
  weight1 : Nat
  weight2 : Nat
  startUnits : Nat
  isolatedCap : Nat
  minHeard : Bool
  autoResume : Bool
  resumeWindow : Nat
  reheatRate : Nat
  reverseFitted : Bool
  modulus : Nat
  airflowMin : Nat
deriving DecidableEq, Repr

/-- The settings before SETUP: none given; every field reads 0 (log entry 8). -/
def Settings.reset : Settings := ⟨0, 0, 0, 0, 0, false, false, 0, 0, false, 0, 0⟩

/-- A journal record (R98): what stands in a slot but for the CRC-16. -/
structure Record where
  sequence : Nat
  stamp : Nat
  kind : RecordKind
  endReason : EndReason
  cyc : CycleRecord
  exh : Nat
  inl : Nat
  desc : Descriptor
deriving DecidableEq, Repr

/-! ## Cycle Sequencer (CSQ) -/

/-- The Cycle Sequencer (R1 to R27). -/
structure Sequencer where
  state : CycleState
  cyc : CycleRecord
  desc : Descriptor
  /-- microseconds of the sequencer second now running (R6) -/
  second : Nat
  progress : Nat
  faultCount : Nat
  fired : Bool
  mainsBack : Bool
  ready : ReadyReason
  endReason : EndReason
  /-- the END record requested at a host reset is not yet done (R26) -/
  endAwaited : Bool
deriving DecidableEq, Repr

/-- The sequencer after a main-domain reset (R1, R2, R5, R18). -/
def Sequencer.reset : Sequencer :=
  ⟨.config, .reset, .reset, 0, 0, 0, false, false, .none, .none, false⟩

/-! ## Sensing Converter (SCV) -/

/-- Where in a pair the converter measures (R29, R35, R40): a strap reference, a strap, a reference, a
sensor's gate, or a sensor's period extension. -/
inductive Measurement where
  | strapRef | strapGate | ref | gate | period
deriving DecidableEq, Repr

/-- A thermistor's fault flag (R38). -/
inductive ThermFault where
  | none | opened | short
deriving DecidableEq, Repr

/-- A sensor channel (R28). -/
inductive Channel where
  | moist | exh | inl
deriving DecidableEq, Repr

/-- The record of a sensor channel (R37). -/
structure ChannelRecord where
  periodMode : Bool
  count : Nat
  period : Nat
  ref : Nat
  oscillation : Bool
  w : Nat
  results : Nat
deriving DecidableEq, Repr

/-- A channel record after a main-domain reset (R45). -/
def ChannelRecord.reset : ChannelRecord := ⟨false, 0, 0, 0, true, 0, 0⟩

/-- The Sensing Converter (R28 to R45). -/
structure Converter where
  meas : Measurement
  /-- pair 1..4 of the round, or 1..4 of the strap phase in the order of R40 -/
  pair : Nat
  /-- attempt 1..3 of a strap pair (R41) -/
  attempt : Nat
  /-- the reference of the pair in progress was valid (R32, R41) -/
  refValid : Bool
  nRef : Nat
  /-- the gate count of a measurement that has gone into its period extension (R34) -/
  nSensor : Nat
  /-- timebase ticks of the gate in progress (R29) -/
  gateTimer : Nat
  /-- the period timer (R35) -/
  periodTimer : Nat
  moist : ChannelRecord
  exh : ChannelRecord
  inl : ChannelRecord
  refFault : Bool
  exhFault : ThermFault
  inlFault : ThermFault
  /-- levels of the strap pairs taken so far, in the order of R40; `none` is the level *none* -/
  passLevels : List (Option Nat)
  levelA : Option Nat
  levelB : Option Nat
  stationId : Nat
  strapFault : Bool
  strapDone : Bool
deriving DecidableEq, Repr

/-- The converter after a main-domain reset (R45). -/
def Converter.reset : Converter :=
  { meas := .strapRef, pair := 1, attempt := 1, refValid := false, nRef := 0, nSensor := 0,
    gateTimer := 0, periodTimer := 0, moist := .reset, exh := .reset, inl := .reset,
    refFault := false, exhFault := .none, inlFault := .none, passLevels := [], levelA := none,
    levelB := none, stationId := 0, strapFault := false, strapDone := false }

/-! ## Dryness Window (DWN) -/

/-- The dry-point verdict: which of the four conditions stood met (R56). -/
structure Verdict where
  full : Bool
  heat : Bool
  quiet : Bool
  hits : Bool
deriving DecidableEq, Repr

/-- *none met* (R55). -/
def Verdict.none : Verdict := ⟨false, false, false, false⟩

/-- The Dryness Window (R46 to R63). Fill count, hits and quiet are computed from the window (R54). -/
structure Dryness where
  exh : Nat
  inl : Nat
  resultSeen : Bool
  hitSeen : Bool
  /-- the samples, newest first; `true` is a hit -/
  window : List Bool
  verdict : Verdict
  reported : Bool
deriving DecidableEq, Repr

/-- The Dryness Window after a main-domain reset (R62). -/
def Dryness.reset : Dryness := ⟨0, 0, false, false, [], .none, false⟩

/-! ## Output Stage (OST) -/

/-- The state of a heater stage (R65). -/
inductive StageState where
  | off | heldOff | firing
deriving DecidableEq, Repr

/-- A heater stage (R65 to R67); `on` is its relay output. -/
structure Stage where
  state : StageState
  /-- FIRING is to be left at the next zero crossing: a reason has arisen since the previous one, or the stage
  has ceased to be asked for (R65, R66) -/
  leaves : Bool
  active : Nat
  pending : Nat
  on : Bool
deriving DecidableEq, Repr

/-- A heater stage after a main-domain reset (R83). -/
def Stage.reset : Stage := ⟨.off, false, 0, 0, false⟩

/-- The motor state (R74). -/
inductive MotorState where
  | stopped | starting | running
deriving DecidableEq, Repr

/-- The Output Stage (R64 to R83). Its cover and release requests are the step states of the Feeder
Share Unit, which counts them from the same cover (R69). -/
structure Output where
  stage1 : Stage
  stage2 : Stage
  position : Nat
  /-- a crossing has begun position 0 since SETUP or the return to PRESENT (R64) -/
  positioned : Bool
  tripped : Bool
  motor : MotorState
  /-- the run relay is closed; after a RAIL warning it outlives the motor state (R81) -/
  runRelay : Bool
  startWindow : Option Nat
  coast : Option Nat
  reverse : Bool
  /-- the run relay is to be opened at the next zero crossing (R76) -/
  stopDue : Bool
  /-- the drop timer of a RAIL warning (R81) -/
  dropTimer : Option Nat
  doorOpen : Bool
  airCount : Nat
  airLast : Nat
  lowRun : Nat
  goodRun : Nat
  airHold : Bool
  cumHold : Nat
  airReported : Bool
  /-- the motor was RUNNING at the latest expiry of the sequencer second and has stayed so (R79) -/
  airJudge : Bool
deriving DecidableEq, Repr

/-- The Output Stage after a main-domain reset (R83). -/
def Output.reset : Output :=
  { stage1 := .reset, stage2 := .reset, position := 0, positioned := false, tripped := false,
    motor := .stopped, runRelay := false, startWindow := none, coast := none, reverse := false,
    stopDue := false, dropTimer := none, doorOpen := true, airCount := 0, airLast := 0, lowRun := 0,
    goodRun := 0, airHold := false, cumHold := 0, airReported := false, airJudge := false }

/-! ## Mains Watch (MWT) -/

/-- The mains states (R84). -/
inductive MainsState where
  | measuring | present | lossWarning | returning | lineFault
deriving DecidableEq, Repr

/-- The line frequency class (R84). -/
inductive LineClass where
  | unknown | hz50 | hz60
deriving DecidableEq, Repr

/-- The Mains Watch (R84 to R95). -/
structure Mains where
  state : MainsState
  cls : LineClass
  lastHalf : Nat
  /-- a crossing has opened the measurement block (R86) -/
  blockOpen : Bool
  blockCount : Nat
  blockSum : Nat
  /-- an edge has been accepted since the main-domain reset (R85) -/
  seenEdge : Bool
  /-- microseconds since the latest accepted crossing (R85, R88) -/
  missing : Nat
  railTripped : Bool
  railHealthy : Nat
  warning : Bool
  causeCrossing : Bool
  causeRail : Bool
  returnCount : Nat
  returnCrossings : Nat
  rejected : Nat
deriving DecidableEq, Repr

/-- The Mains Watch after a main-domain reset (R95). -/
def Mains.reset : Mains :=
  ⟨.measuring, .unknown, 0, false, 0, 0, false, 0, false, 0, false, false, false, 0, 0, 0⟩

/-! ## Progress Journal (PJR) -/

/-- The sector states (R96); `unknown` until the scan (R121). -/
inductive SectorState where
  | unknown | erased | active | full | erasing | suspended | torn
deriving DecidableEq, Repr

/-- The pending record (R100). -/
structure PendingRecord where
  copy : Record
  urgent : Bool
  orderly : Bool
  /-- the orderly mark of this END was cleared by a loss warning (R112) -/
  hurried : Bool
  /-- this copy is the one being programmed (R103) -/
  inFlight : Bool
deriving DecidableEq, Repr

/-- The flash operation (R101); a program remembers the sector whose erase it halted. -/
inductive FlashOp where
  | ready
  | programming (sector slot : Nat) (halted : Option Nat)
  | erasing (sector : Nat)
  | suspending (sector : Nat)
  | suspended (sector : Nat)
deriving DecidableEq, Repr

/-- The journal counters (R120). -/
structure JournalCounters where
  written : Nat
  replaced : Nat
  verifyFailures : Nat
  abandoned : Nat
  dropped : Nat
  erases : Nat
  eraseFailures : Nat
  suspends : Nat
deriving DecidableEq, Repr

/-- The Progress Journal outside the flash (R96 to R121). -/
structure Journal where
  sector0 : SectorState
  sector1 : SectorState
  sector2 : SectorState
  sector3 : SectorState
  /-- the write pointer: a sector and a slot number 0..64 (R96) -/
  ptrSector : Nat
  ptrSlot : Nat
  nextSeq : Nat
  pend : Option PendingRecord
  op : FlashOp
  /-- the record whose 64 bytes the program in flight means to write (R103) -/
  prog : Option Record
  /-- the erase in progress is the second of its sector since it left the queue (R108) -/
  eraseAgain : Bool
  /-- microseconds since the latest resume of an erase; `none`: no spacing needed (R109, R121) -/
  sinceResume : Option Nat
  queue : List Nat
  lossMark : Bool
  consecutive : Nat
  fault : Bool
  newest : Option Record
  newestBad : Bool
  scanDone : Bool
  activeFound : Bool
  factoryGood : Bool
  serial : Nat
  product : Nat
  counters : JournalCounters
deriving DecidableEq, Repr

/-- The journal after a main-domain reset, before its scan (R121). -/
def Journal.reset : Journal :=
  { sector0 := .unknown, sector1 := .unknown, sector2 := .unknown, sector3 := .unknown,
    ptrSector := 0, ptrSlot := 0, nextSeq := 0, pend := none, op := .ready, prog := none,
    eraseAgain := false, sinceResume := none, queue := [], lossMark := false, consecutive := 0,
    fault := false, newest := none, newestBad := false, scanDone := false, activeFound := false,
    factoryGood := false, serial := 0, product := 0, counters := ⟨0, 0, 0, 0, 0, 0, 0, 0⟩ }

/-! ## Holdover Domain (HDM) -/

/-- The door view (R126). -/
inductive DoorView where
  | unknown | closed | opened
deriving DecidableEq, Repr

/-- The Holdover Domain (R122 to R131). -/
structure Holdover where
  /-- the supply stands above the retention level (R122) -/
  powered : Bool
  clock : Nat
  prescaler : Nat
  /-- the model's own: the fraction of a crystal cycle passed, in 15 625ths (log entry 9) -/
  crystalPhase : Nat
  /-- the crystal has not been taken to have stopped (R124) -/
  crystalRuns : Bool
  /-- the crystal monitor: microseconds without a crystal cycle (R124) -/
  crystalQuiet : Nat
  clockLost : Bool
  doorLatch : Bool
  view : DoorView
deriving DecidableEq, Repr

/-- The Holdover Domain after a holdover power-on (R125). -/
def Holdover.powerOn : Holdover := ⟨true, 0, 0, 0, true, 0, true, true, .unknown⟩

/-! ## Resume Planner (RPL) -/

/-- The plan state (R132). -/
inductive PlanState where
  | empty | making | made
deriving DecidableEq, Repr

/-- The plan's outcome (R132). -/
inductive PlanOutcome where
  | none | resumeHeat | resumeExtend | resumeCool | resumeGuard | resumePaused | endedDoor
  | abandonedWindow | abandonedClock
deriving DecidableEq, Repr

/-- The plan's disposition (R132). -/
inductive Disposition where
  | pending | executed | declined | abandoned | forced
deriving DecidableEq, Repr

/-- The Plan record (R132). -/
structure Plan where
  outcome : PlanOutcome
  unclean : Bool
  fallback : Bool
  tempUnknown : Bool
  disposition : Disposition
  /-- the path is BLINK; otherwise START_UP -/
  blink : Bool
  phaseAtLoss : Phase
  remembered : Phase
  sourceSeq : Nat
  /-- `none` is *unknown* -/
  outage : Option Nat
  waited : Nat
  tLoss : Nat
  tRet : Nat
  deltaT : Nat
  reheat : Nat
  newExt : Nat
  newGuard : Nat
deriving DecidableEq, Repr

/-- The Plan record after a main-domain reset (R150). -/
def Plan.reset : Plan :=
  ⟨.none, false, false, false, .pending, false, .none, .none, 0, none, 0, 0, 0, 0, 0, 0, 0⟩

/-- The Resume Planner (R132 to R150). -/
structure Planner where
  state : PlanState
  plan : Plan
  basis : Option Record
deriving DecidableEq, Repr

/-- The planner after a main-domain reset (R150). -/
def Planner.reset : Planner := ⟨.empty, .reset, none⟩

/-! ## Party Line Port (PLP) -/

/-- One of the three steps of the cover (R69, R167). -/
inductive CoverStep where
  | start | stage1 | stage2
deriving DecidableEq, Repr

/-- A notice as the Feeder Share Unit hands it (R153, R173). The last three fields are the unit's own
knowledge of which steps were pending when it was handed (R168); they are not sent. -/
structure Notice where
  farewell : Bool
  id : Nat
  held : Nat
  want : Nat
  key : Nat
  budget : Nat
  phase : Nat
  resume : Bool
  annStart : Bool
  annStage1 : Bool
  annStage2 : Bool
deriving DecidableEq, Repr

/-- The transmitter state (R154). -/
inductive TxState where
  | empty | pending | backoff | sending
deriving DecidableEq, Repr

/-- The receiver state (R160). -/
inductive RxState where
  | idle | receiving | discard
deriving DecidableEq, Repr

/-- The sampling of the line, 16 times in a bit time (R151), and the bits of a character read from it (R152). -/
structure LineReader where
  /-- the time since the latest sample, in 625ths of a sample's time -/
  phase : Nat
  /-- the latest sample and the one before it, high or low -/
  last : Bool
  before : Bool
  /-- samples since the fall that may begin a character, while its bits are being read -/
  place : Option Nat
  /-- the bits read of the latest character, its start bit first -/
  bits : List Bool
deriving DecidableEq, Repr

/-- The sampling after a main-domain reset, of a line that has been high (log entry 13). -/
def LineReader.reset : LineReader := ⟨0, true, true, none, []⟩

/-- The Party Line Port (R151 to R165). -/
structure Port where
  tx : TxState
  slot : Option Notice
  newer : Bool
  /-- the line copy (R155) -/
  line : Option Notice
  /-- the eight bytes of the echo copy, or empty (R162) -/
  echo : List Byte
  attempts : Nat
  backoff : Option Nat
  rx : RxState
  /-- the bytes of the frame being gathered, in order -/
  gathered : List Byte
  /-- the port's open-drain output pulls the line low (R151) -/
  drives : Bool
  /-- microseconds of the frame being sent, from the start bit of its first character (R152) -/
  sent : Nat
  /-- the line as last read: high, or low (R151) -/
  lineHigh : Bool
  reader : LineReader
  idleTimer : Nat
  stuckTimer : Nat
  fault : Bool
  consecutive : Nat
  /-- the backoff generator (R157) -/
  lfsr : BitVec 16
  collisions : Nat
  rxErrors : Nat
  txFailures : Nat
  clashes : Nat
deriving DecidableEq, Repr

/-- The port after a main-domain reset (R165). -/
def Port.reset : Port :=
  { tx := .empty, slot := none, newer := false, line := none, echo := [], attempts := 0,
    backoff := none, rx := .idle, gathered := [], drives := false, sent := 0, lineHigh := true,
    reader := LineReader.reset,
    idleTimer := 0, stuckTimer := 0, fault := false, consecutive := 0, lfsr := 1, collisions := 0,
    rxErrors := 0, txFailures := 0, clashes := 0 }

/-! ## Feeder Share Unit (FSU) -/

/-- The state of a step (R167). -/
inductive StepState where
  | free | pending | cover | release
deriving DecidableEq, Repr

/-- The cause of ISOLATED (R179). -/
inductive IsoCause where
  | txFail | lineFault | noId
deriving DecidableEq, Repr

/-- A Peer Table entry (R171); the age is in microseconds (R172). -/
structure Peer where
  id : Nat
  held : Nat
  want : Nat
  key : Nat
  budget : Nat
  phase : Nat
  resume : Bool
  age : Nat
deriving DecidableEq, Repr

/-- Which of the three steps are wanted (R167). -/
structure Wants where
  start : Bool
  stage1 : Bool
  stage2 : Bool
deriving DecidableEq, Repr

/-- No step is wanted. -/
def Wants.nothing : Wants := ⟨false, false, false⟩

/-- The Feeder Share Unit (R166 to R182). -/
structure Feeder where
  start : StepState
  stage1 : StepState
  stage2 : StepState
  /-- the want as the unit last took it from the sequencer (R167) -/
  want : Nat
  /-- the wanted steps as the unit last took them (R167) -/
  wants : Wants
  cls : Nat
  key : Nat
  settle : Option Nat
  listenIn : Option Nat
  notice : Option Nat
  /-- the Peer Table, in rising order of station id -/
  peers : List Peer
  effective : Nat
  mismatch : Bool
  isolated : Option IsoCause
  tableFull : Nat
  sheds : Nat
deriving DecidableEq, Repr

/-- The unit after a main-domain reset (R182). -/
def Feeder.reset : Feeder :=
  { start := .free, stage1 := .free, stage2 := .free, want := 0, wants := .nothing, cls := 2, key := 0, settle := none,
    listenIn := none, notice := none, peers := [], effective := 0, mismatch := false,
    isolated := none, tableFull := 0, sheds := 0 }

/-! ## Panel Link (PNL) -/

/-- The status codes of a response (R183). -/
inductive Status where
  | ok | clamped | busy | refusedState | alreadySet | doorOpen | badValue | badLength | unknown
deriving DecidableEq, Repr

/-- A response (R183). -/
structure Response where
  status : Status
  payload : List Byte
deriving DecidableEq, Repr

/-- The Panel Link (R183 to R191). -/
structure Panel where
  response : Option Response
  setupDone : Bool
  evPhase : Bool
  evPlan : Bool
  evFault : Bool
  evLine : Bool
  resetEnable : Bool
  resetPending : Bool
  /-- the bytes that the data output carried during the latest frame (R183, log entry 10) -/
  dataOut : List Byte
deriving DecidableEq, Repr

/-- The Panel Link after a main-domain reset (R191). -/
def Panel.reset : Panel := ⟨none, false, false, false, false, false, false, false, []⟩

/-! ## The whole part -/

/-- The state of the MT-204. -/
structure State where
  /-- the main supply stands; without it the main domain holds nothing (R122) -/
  mainPowered : Bool
  csq : Sequencer
  scv : Converter
  dwn : Dryness
  ost : Output
  mwt : Mains
  pjr : Journal
  hdm : Holdover
  rpl : Planner
  plp : Port
  fsu : Feeder
  pnl : Panel
  settings : Settings
  /-- the flash: four sectors of 4096 bytes from address 0, then the factory record of 256 bytes
  (R96, R119), in the canonical form of Machine/Ops.lean -/
  flash : List Host.Cell
  /-- the model's own: how many free values have been read (log entry 5) -/
  freeCount : Nat
  /-- the commands that wait, first in, first out -/
  pending : List Instr
deriving DecidableEq, Repr

/-- The part never stops with a fault: the manual gives every command an effect in every state, or the
event that it names cannot occur there and changes nothing (log entry 2). -/
inductive Fault where
deriving DecidableEq, Repr

/-- Why a command has no meaning. -/
inductive Refusal where
  /-- raised by an arm of `exec` for a command not modelled, by its mnemonic; safe: the machine stops.
  No arm raises it. -/
  | notModelled (mnemonic : String)
deriving DecidableEq, Repr

/-- The part right after its first main power-on: both supplies have risen together (R122), the holdover
power-on is complete and the main-domain reset has ended (R1, R125). CLOCK_LOST is set as the reset
ends, so the fault event stands (R131, R186). The flash lists nothing (log entry 11). -/
def State.reset : State :=
  { mainPowered := true, csq := .reset, scv := .reset, dwn := .reset, ost := .reset, mwt := .reset,
    pjr := .reset, hdm := .powerOn, rpl := .reset, plp := .reset, fsu := .reset,
    pnl := { Panel.reset with evFault := true }, settings := .reset, flash := [], freeCount := 0,
    pending := [] }

end Sys2Proof.Machine
end

