-- ==== Sys2Proof/Machine/Ops.lean ====
section
/-! DEFINITION. The operations that every block shares: replacing a block of the state, the flash, counters
that saturate, whole numbers as bytes, the two check values, the backoff generator, and free values. -/

namespace Sys2Proof.Machine

/-- What a command answers. -/
abbrev Result := Host.Outcome State Fault Refusal

/-! ## Replacing one block -/

/-- The state with the Cycle Sequencer replaced. -/
def State.setCsq (s : State) (x : Sequencer) : State := { s with csq := x }

/-- The state with the Sensing Converter replaced. -/
def State.setScv (s : State) (x : Converter) : State := { s with scv := x }

/-- The state with the Dryness Window replaced. -/
def State.setDwn (s : State) (x : Dryness) : State := { s with dwn := x }

/-- The state with the Output Stage replaced. -/
def State.setOst (s : State) (x : Output) : State := { s with ost := x }

/-- The state with the Mains Watch replaced. -/
def State.setMwt (s : State) (x : Mains) : State := { s with mwt := x }

/-- The state with the Progress Journal replaced. -/
def State.setPjr (s : State) (x : Journal) : State := { s with pjr := x }

/-- The state with the Holdover Domain replaced. -/
def State.setHdm (s : State) (x : Holdover) : State := { s with hdm := x }

/-- The state with the Resume Planner replaced. -/
def State.setRpl (s : State) (x : Planner) : State := { s with rpl := x }

/-- The state with the Party Line Port replaced. -/
def State.setPlp (s : State) (x : Port) : State := { s with plp := x }

/-- The state with the Feeder Share Unit replaced. -/
def State.setFsu (s : State) (x : Feeder) : State := { s with fsu := x }

/-- The state with the Panel Link replaced. -/
def State.setPnl (s : State) (x : Panel) : State := { s with pnl := x }

/-- The state with the Station Settings replaced. -/
def State.setSettings (s : State) (x : Settings) : State := { s with settings := x }

/-- The state with the flash replaced. -/
def State.setFlash (s : State) (x : List Host.Cell) : State := { s with flash := x }

/-- The state with the free-value counter replaced. -/
def State.setFreeCount (s : State) (x : Nat) : State := { s with freeCount := x }

/-! ## Numbers -/

/-- A counter that stops at its limit ("saturating"). -/
def satInc (limit n : Nat) : Nat := if n < limit then n + 1 else n

/-- A count held to the 20 bits of the gate counter, which saturates (R29). -/
def gateCount (n : Nat) : Nat := min n 1048575

/-- Division that rounds up, as the key's remaining minutes do (R170). -/
def ceilDiv (a b : Nat) : Nat := (a + (b - 1)) / b

/-- A number as one byte. -/
def byteOf (n : Nat) : Byte := BitVec.ofNat 8 n

/-- A flag at bit `i` of a byte. -/
def bitAt (b : Bool) (i : Nat) : Nat := if b then 2 ^ i else 0

/-- A number as `w` bytes, least significant byte first (chapter "Record and Frame Layouts"). -/
def leBytes : Nat → Nat → List Byte
  | 0, _ => []
  | w + 1, n => byteOf n :: leBytes w (n / 256)

/-- The number that bytes spell, least significant byte first. -/
def leNat : List Byte → Nat
  | [] => 0
  | b :: rest => b.toNat + 256 * leNat rest

/-- The field of `w` bytes at offset `off`. -/
def fieldAt (bs : List Byte) (off w : Nat) : Nat := leNat ((bs.drop off).take w)

/-! ## Check values -/

/-- One bit of the CRC-16: polynomial x¹⁶+x¹²+x⁵+1, most significant bit first (R97, R192). -/
def crc16Bit (c : BitVec 16) : BitVec 16 :=
  if c.getLsbD 15 then (c <<< 1) ^^^ 0x1021 else c <<< 1

/-- One byte of the CRC-16. -/
def crc16Byte (c : BitVec 16) (b : Byte) : BitVec 16 :=
  let c := c ^^^ ((b.setWidth 16) <<< 8)
  crc16Bit (crc16Bit (crc16Bit (crc16Bit (crc16Bit (crc16Bit (crc16Bit (crc16Bit c)))))))

/-- The CRC-16 of bytes in order, from an initial value of all ones, with no final inversion (R97, R192). -/
def crc16 (bs : List Byte) : BitVec 16 := bs.foldl crc16Byte 0xFFFF

/-- One bit of the CRC-8: polynomial x⁸+x²+x+1, most significant bit first (R153). -/
def crc8Bit (c : BitVec 8) : BitVec 8 :=
  if c.getLsbD 7 then (c <<< 1) ^^^ 0x07 else c <<< 1

/-- One byte of the CRC-8. -/
def crc8Byte (c : BitVec 8) (b : Byte) : BitVec 8 :=
  crc8Bit (crc8Bit (crc8Bit (crc8Bit (crc8Bit (crc8Bit (crc8Bit (crc8Bit (c ^^^ b))))))))

/-- The CRC-8 of bytes in order, from an initial value of 0, with no final inversion (R153). -/
def crc8 (bs : List Byte) : BitVec 8 := bs.foldl crc8Byte 0

/-! ## The backoff generator (R157) -/

/-- One step: the exclusive-or of bits 0, 2, 3 and 5 enters at bit 15 of the value shifted one place
towards bit 0. -/
def lfsrStep (v : BitVec 16) : BitVec 16 :=
  let new := ((v.getLsbD 0 ^^ v.getLsbD 2) ^^ v.getLsbD 3) ^^ v.getLsbD 5
  (v >>> 1) ||| (if new then 0x8000 else 0)

/-- The seed loaded at STRAP_DONE: the low 16 bits of the serial number exclusive-ored with the station
id times 2053, or 1 if that is 0. -/
def lfsrSeed (serial stationId : Nat) : BitVec 16 :=
  let v := BitVec.ofNat 16 serial ^^^ BitVec.ofNat 16 (stationId * 2053)
  if v = 0 then 1 else v

/-- Character times in microseconds: 11 bit times at 19 200 bit/s each (R151), rounded towards zero. -/
def charTimesUs (n : Nat) : Nat := n * 11000000 / 19200

/-- Microseconds of `n` half bit times at 19 200 bit/s (R151), rounded towards zero. -/
def halfBitsUs (n : Nat) : Nat := n * 625 / 24

/-- The bit of a frame that stands `us` microseconds after its first start bit began, counted from 0 (R151). -/
def bitIndex (us : Nat) : Nat := us * 12 / 625

/-- The time of a frame: 88 bits (R153), rounded towards zero. -/
def frameUs : Nat := 4583

/-- A backoff draw: the value mod 16, plus 1, times 2 character times. -/
def backoffDraw (v : BitVec 16) : Nat := charTimesUs ((v.toNat % 16 + 1) * 2)

/-- A jitter draw: the value mod 128, in milliseconds. -/
def jitterDraw (v : BitVec 16) : Nat := (v.toNat % 128) * 1000

/-- The line is idle once it has been high for 2 character times (R151). -/
def lineIdleUs : Nat := 1146

/-- The stuck-low timer's limit of 20 character times (R159). -/
def stuckLowUs : Nat := 11459

/-! ## The flash (R96, R119) -/

/-- What a byte of the flash that no entry lists reads as: the erased value (R97, log entry 11). -/
def erasedByte : Byte := 0xFF

/-- Read one byte. -/
def Memory.read : List Host.Cell → Nat → Byte
  | [], _ => erasedByte
  | (b, v) :: rest, a => if b = a then v else Memory.read rest a

/-- Write one byte, keeping the canonical form: a byte at the erased value is not listed. -/
def Memory.write : List Host.Cell → Nat → Byte → List Host.Cell
  | [], a, v => if v = erasedByte then [] else [(a, v)]
  | (b, w) :: rest, a, v =>
    if a < b then (if v = erasedByte then (b, w) :: rest else (a, v) :: (b, w) :: rest)
    else if a = b then (if v = erasedByte then rest else (a, v) :: rest)
    else (b, w) :: Memory.write rest a v

/-- The addresses of the entries that follow `lo` rise strictly, and no entry is at the erased value. -/
def Memory.wfFrom : Nat → List Host.Cell → Bool
  | _, [] => true
  | lo, (b, v) :: rest => lo ≤ b && v != erasedByte && Memory.wfFrom (b + 1) rest

/-- The canonical form: addresses strictly rising, no entry equal to what an unlisted address reads as. -/
def Memory.wf (m : List Host.Cell) : Bool := Memory.wfFrom 0 m

/-- Write bytes at consecutive addresses. -/
def Memory.writeBytes : List Host.Cell → Nat → List Byte → List Host.Cell
  | m, _, [] => m
  | m, a, v :: rest => Memory.writeBytes (Memory.write m a v) (a + 1) rest

/-- Read `n` bytes at consecutive addresses. -/
def Memory.bytes (m : List Host.Cell) (a : Nat) : Nat → List Byte
  | 0 => []
  | n + 1 => Memory.read m a :: Memory.bytes m (a + 1) n

/-- Erase `n` bytes from address `a`: they read as the erased value. -/
def Memory.erase (m : List Host.Cell) (a n : Nat) : List Host.Cell :=
  m.filter fun c => !(a ≤ c.1 && c.1 < a + n)

/-- The entries that stand in `n` bytes from address `a`. -/
def Memory.within (m : List Host.Cell) (a n : Nat) : List Host.Cell :=
  m.filter fun c => a ≤ c.1 && c.1 < a + n

/-- The address of a slot: sectors of 4096 bytes, slots of 64 (R96). -/
def slotBase (sector slot : Nat) : Nat := sector * 4096 + slot * 64

/-- The address of the factory record, beside the four ring sectors (R119). -/
def factoryBase : Nat := 16384

/-- The next sector in ring order: 0, 1, 2, 3, 0 (R96). -/
def nextSector (k : Nat) : Nat := (k + 1) % 4

/-! ## Free values -/

/-- Read a free order choice and advance the counter (log entry 5). -/
def takeChoice (s : State) : Bool × State :=
  (Config.orderChoice s.freeCount, s.setFreeCount (s.freeCount + 1))

/-! ## Events of the panel link (R186) -/

/-- Raise the phase-change event. -/
def raisePhase (s : State) : State := s.setPnl { s.pnl with evPhase := true }

/-- Raise the plan-ready event. -/
def raisePlan (s : State) : State := s.setPnl { s.pnl with evPlan := true }

/-- Raise the fault event. -/
def raiseFault (s : State) : State := s.setPnl { s.pnl with evFault := true }

/-- Raise the line-mode event. -/
def raiseLine (s : State) : State := s.setPnl { s.pnl with evLine := true }

end Sys2Proof.Machine
end

