-- ==== Sys2Proof/Machine/Layout.lean ====
section
/-! DEFINITION. The codes and byte layouts of chapter "Record and Frame Layouts" (R152, R192 to R194): the journal
record and its slot, the factory record, the notice and its characters, the Plan record, the Peer
Table dump, and the panel link's frames. -/

namespace Sys2Proof.Machine

/-! ## Codes -/

/-- The phase codes of a Cycle Record, a journal record or a Plan record (R193). -/
def phaseCode : Phase → Nat
  | .none => 0
  | .heat => 1
  | .extend => 2
  | .cool => 3
  | .guard => 4
  | .paused => 5
  | .ended => 6

/-- The phase of a code; a code beyond the table reads as NONE (log entry 12). -/
def phaseOfCode : Nat → Phase
  | 1 => .heat
  | 2 => .extend
  | 3 => .cool
  | 4 => .guard
  | 5 => .paused
  | 6 => .ended
  | _ => .none

/-- The cycle state codes of R193. -/
def cycleCode : CycleState → Nat
  | .config => 0
  | .idle => 1
  | .heat => 2
  | .extend => 3
  | .cool => 4
  | .guard => 5
  | .paused => 6
  | .loss => 7
  | .holdoverWait => 8
  | .planning => 9
  | .planReady => 10
  | .done => 11
  | .abandoned => 12

/-- The record kind codes of R192. -/
def kindCode : RecordKind → Nat
  | .start => 1
  | .progress => 2
  | .phase => 3
  | .loss => 4
  | .resume => 5
  | .finish => 6

/-- The record kind of a code; every other value fails the kind test of R97. -/
def kindOfCode : Nat → Option RecordKind
  | 1 => some .start
  | 2 => some .progress
  | 3 => some .phase
  | 4 => some .loss
  | 5 => some .resume
  | 6 => some .finish
  | _ => none

/-- The end reason codes of R192. -/
def endCode : EndReason → Nat
  | .none => 0
  | .complete => 1
  | .cancelled => 2
  | .doorEnd => 3
  | .declined => 4
  | .hostReset => 5
  | .abandoned => 6

/-- The end reason of a code; a code beyond the table reads as NONE (log entry 12). -/
def endOfCode : Nat → EndReason
  | 1 => .complete
  | 2 => .cancelled
  | 3 => .doorEnd
  | 4 => .declined
  | 5 => .hostReset
  | 6 => .abandoned
  | _ => .none

/-- The guard burst state's code (R192). -/
def burstCode : Burst → Nat
  | .rest => 0
  | .tumble => 1

/-- The guard burst state of a code; a code other than 1 reads as REST (log entry 12). -/
def burstOfCode : Nat → Burst
  | 1 => .tumble
  | _ => .rest

/-- The reason flags as a byte (R192). -/
def reasonsCode (r : Reasons) : Nat :=
  bitAt r.heatLimit 0 + bitAt r.sensorFault 1 + bitAt r.airflowFault 2 + bitAt r.cancelled 3
    + bitAt r.doorEnd 4 + bitAt r.journalFault 5

/-- The reason flags of a byte; its two unused bits are ignored. -/
def reasonsOfCode (n : Nat) : Reasons :=
  ⟨n.testBit 0, n.testBit 1, n.testBit 2, n.testBit 3, n.testBit 4, n.testBit 5⟩

/-- The status codes of R194. -/
def statusCode : Status → Nat
  | .ok => 0
  | .clamped => 1
  | .busy => 2
  | .refusedState => 3
  | .alreadySet => 4
  | .doorOpen => 5
  | .badValue => 6
  | .badLength => 7
  | .unknown => 8

/-! ## The journal record (R192) -/

/-- The Cycle Descriptor as journal bytes 34..56. -/
def descriptorBytes (d : Descriptor) : List Byte :=
  leBytes 1 d.x ++ (leBytes 2 d.minHeat ++ (leBytes 2 d.maxHeat ++ (leBytes 1 d.exhLimit
    ++ (leBytes 1 d.coolTarget ++ (leBytes 2 d.coolMin ++ (leBytes 2 d.coolMax
    ++ (leBytes 2 d.guardTotal ++ (leBytes 2 d.guardRest ++ (leBytes 1 d.guardTumble
    ++ (leBytes 2 d.guardResumeMin ++ (leBytes 1 d.stages ++ (leBytes 1 d.dryRun
    ++ (leBytes 1 d.dryHits ++ leBytes 2 d.wetThreshold)))))))))))))

/-- The descriptor that 23 bytes in the layout of journal bytes 34..56 carry. -/
def descriptorOfBytes (bs : List Byte) : Descriptor :=
  { x := fieldAt bs 0 1, minHeat := fieldAt bs 1 2, maxHeat := fieldAt bs 3 2,
    exhLimit := fieldAt bs 5 1, coolTarget := fieldAt bs 6 1, coolMin := fieldAt bs 7 2,
    coolMax := fieldAt bs 9 2, guardTotal := fieldAt bs 11 2, guardRest := fieldAt bs 13 2,
    guardTumble := fieldAt bs 15 1, guardResumeMin := fieldAt bs 16 2, stages := fieldAt bs 18 1,
    dryRun := fieldAt bs 19 1, dryHits := fieldAt bs 20 1, wetThreshold := fieldAt bs 21 2 }

/-- The Cycle Record from cycle id to guard_remaining_s, as journal bytes 10..30. -/
def cycleBytes (c : CycleRecord) : List Byte :=
  leBytes 2 c.cycleId ++ (leBytes 1 (phaseCode c.phase) ++ (leBytes 1 (phaseCode c.before)
    ++ (leBytes 1 (burstCode c.burst) ++ (leBytes 2 c.burstTimer ++ (leBytes 2 c.heated
    ++ (leBytes 2 c.phaseElapsed ++ (leBytes 2 c.tDry ++ (leBytes 2 c.extTotal
    ++ (leBytes 2 c.extDone ++ (leBytes 2 c.coolElapsed ++ leBytes 2 c.guardRemaining))))))))))

/-- The Cycle Record that 24 bytes in the layout of journal bytes 10..33 carry; the reason flags stand
in the last. -/
def cycleOfBytes (bs : List Byte) : CycleRecord :=
  { cycleId := fieldAt bs 0 2, phase := phaseOfCode (fieldAt bs 2 1),
    before := phaseOfCode (fieldAt bs 3 1), burst := burstOfCode (fieldAt bs 4 1),
    burstTimer := fieldAt bs 5 2, heated := fieldAt bs 7 2, phaseElapsed := fieldAt bs 9 2,
    tDry := fieldAt bs 11 2, extTotal := fieldAt bs 13 2, extDone := fieldAt bs 15 2,
    coolElapsed := fieldAt bs 17 2, guardRemaining := fieldAt bs 19 2,
    reasons := reasonsOfCode (fieldAt bs 23 1) }

/-- Bytes 0..61 of a journal record, which the CRC-16 covers. -/
def recordBody (r : Record) : List Byte :=
  leBytes 4 r.sequence ++ (leBytes 4 r.stamp ++ (leBytes 1 (kindCode r.kind)
    ++ (leBytes 1 (endCode r.endReason) ++ (cycleBytes r.cyc ++ (leBytes 1 r.exh
    ++ (leBytes 1 r.inl ++ (leBytes 1 (reasonsCode r.cyc.reasons) ++ (descriptorBytes r.desc
    ++ List.replicate 5 0))))))))

/-- The 64 bytes of a journal record in its slot, and of READ_RECORD. -/
def recordBytes (r : Record) : List Byte :=
  recordBody r ++ leBytes 2 (crc16 (recordBody r)).toNat

/-- What a slot is read as (R97). -/
inductive SlotRead where
  | blank
  | valid (r : Record)
  | bad
deriving DecidableEq, Repr

/-- The record that 64 bytes carry, when their kind field names a kind. -/
def recordOfBytes (bs : List Byte) : Option Record :=
  match kindOfCode (fieldAt bs 8 1) with
  | none => none
  | some kind =>
    some { sequence := fieldAt bs 0 4, stamp := fieldAt bs 4 4, kind := kind,
           endReason := endOfCode (fieldAt bs 9 1), cyc := cycleOfBytes (bs.drop 10),
           exh := fieldAt bs 31 1, inl := fieldAt bs 32 1, desc := descriptorOfBytes (bs.drop 34) }

/-- The kind of a slot that reads as 64 bytes, with its record when it is VALID (R97). -/
def readSlotBytes (bs : List Byte) : SlotRead :=
  if bs.all (· = 0xFF) then .blank
  else if leNat (bs.drop 62) = (crc16 (bs.take 62)).toNat then
    match recordOfBytes bs with
    | some r => .valid r
    | none => .bad
  else .bad

/-- Read one slot of the flash (R97). A slot with no entry is BLANK. -/
def readSlot (m : List Host.Cell) (sector slot : Nat) : SlotRead :=
  match Memory.within m (slotBase sector slot) 64 with
  | [] => .blank
  | cells => readSlotBytes (Memory.bytes cells (slotBase sector slot) 64)

/-- The factory record's serial number and product code, when its CRC-16 agrees (R119, R192). -/
def readFactory (m : List Host.Cell) : Option (Nat × Nat) :=
  let bs := Memory.bytes (Memory.within m factoryBase 256) factoryBase 256
  if leNat (bs.drop 254) = (crc16 (bs.take 254)).toNat then some (fieldAt bs 0 6, fieldAt bs 6 2)
  else none

/-! ## The notice (R152, R153, R193) -/

/-- The first seven data bytes of a notice. -/
def noticeBody (n : Notice) : List Byte :=
  [byteOf (n.id % 32 + bitAt (!n.farewell) 5 + bitAt n.farewell 6),
   byteOf (n.held % 64),
   byteOf (n.want % 64 + bitAt n.resume 6),
   byteOf (n.key % 256),
   byteOf (n.key / 256 % 128),
   byteOf (n.budget % 64),
   byteOf (n.phase % 16)]

/-- The eight data bytes of a notice; the port adds the CRC-8. -/
def noticeBytes (n : Notice) : List Byte := noticeBody n ++ [crc8 (noticeBody n)]

/-- The characters of a frame: each data byte with its address flag, set in the first alone (R152). -/
def frameCharacters : List Byte → List (Byte × Bool)
  | [] => []
  | b :: rest => (b, true) :: rest.map fun c => (c, false)

/-- The eleven bits of a character in the order sent: start bit, data least significant bit first, address
flag, stop bit (R152). -/
def characterBits (c : Byte × Bool) : List Bool :=
  false :: ((List.range 8).map fun i => c.1.getLsbD i) ++ [c.2, true]

/-- The bits of a frame in the order sent, without a gap between its characters (R152). -/
def frameBits (n : Notice) : List Bool := (frameCharacters (noticeBytes n)).flatMap characterBits

/-- How many bits directly before the stop bit of a character have its value, the start bit among them: the line has
stood at that level through them (R151, R152). -/
def heldBits (data : Byte) (flag stop : Bool) : Nat :=
  (((characterBits (data, flag)).take 10).reverse.takeWhile (· = stop)).length

/-- The notice that eight data bytes carry, if it passes the checks of R161 in their order: the CRC-8, the
kind, the sender id, and for a HEAT the budget. Unused bits are ignored on receipt. -/
def noticeOfBytes : List Byte → Option Notice
  | [b0, b1, b2, b3, b4, b5, b6, b7] =>
    if crc8 [b0, b1, b2, b3, b4, b5, b6] ≠ b7 then none
    else
      let heat := b0.getLsbD 5 && !(b0.getLsbD 6)
      let farewell := !(b0.getLsbD 5) && b0.getLsbD 6
      let id := b0.toNat % 32
      let budget := b5.toNat % 64
      if !(heat || farewell) then none
      else if id = 0 then none
      else if heat && budget = 0 then none
      else some
        { farewell := farewell, id := id, held := b1.toNat % 64, want := b2.toNat % 64,
          key := b3.toNat + 256 * (b4.toNat % 128), budget := budget, phase := b6.toNat % 16,
          resume := b2.getLsbD 6, annStart := false, annStage1 := false, annStage2 := false }
  | _ => none

/-! ## The panel link (R183, R184, R194) -/

/-- The bytes of a response frame: status code, payload length, payload. -/
def responseBytes (r : Response) : List Byte :=
  byteOf (statusCode r.status) :: byteOf r.payload.length :: r.payload

/-- The `n` bytes that the part shifts out in a frame: the response and then the fill value, or the idle
pattern while the buffer is empty (R184). -/
def clockOut (r : Option Response) (n : Nat) : List Byte :=
  match r with
  | none => List.replicate n 0xFF
  | some r => (responseBytes r ++ List.replicate n 0xFF).take n

/-- The codes of a plan's outcome. -/
def outcomeCode : PlanOutcome → Nat
  | .none => 0
  | .resumeHeat => 1
  | .resumeExtend => 2
  | .resumeCool => 3
  | .resumeGuard => 4
  | .resumePaused => 5
  | .endedDoor => 6
  | .abandonedWindow => 7
  | .abandonedClock => 8

/-- The codes of a plan's disposition. -/
def dispositionCode : Disposition → Nat
  | .pending => 0
  | .executed => 1
  | .declined => 2
  | .abandoned => 3
  | .forced => 4

/-- The Plan record as READ_PLAN returns it, 25 bytes. -/
def planBytes (p : Plan) : List Byte :=
  leBytes 1 (outcomeCode p.outcome)
    ++ leBytes 1 (bitAt p.unclean 0 + bitAt p.fallback 1 + bitAt p.tempUnknown 2
        + bitAt p.outage.isNone 3)
    ++ leBytes 1 (dispositionCode p.disposition) ++ leBytes 1 (bitAt p.blink 0)
    ++ leBytes 1 (phaseCode p.phaseAtLoss) ++ leBytes 1 (phaseCode p.remembered)
    ++ leBytes 4 p.sourceSeq ++ leBytes 4 (p.outage.getD 0) ++ leBytes 2 p.waited
    ++ leBytes 1 p.tLoss ++ leBytes 1 p.tRet ++ leBytes 1 p.deltaT ++ leBytes 2 p.reheat
    ++ leBytes 2 p.newExt ++ leBytes 2 p.newGuard

/-- One entry of the Peer Table dump, 8 bytes; the age is in whole seconds, 0..3 (R172, R188). -/
def peerBytes (p : Peer) : List Byte :=
  leBytes 1 p.id ++ leBytes 1 p.held ++ leBytes 1 p.want ++ leBytes 2 p.key ++ leBytes 1 p.budget
    ++ leBytes 1 (p.phase % 16 + bitAt p.resume 4) ++ leBytes 1 (min (p.age / 1000000) 3)

/-- The Peer Table dump: the count, then every entry in rising order of station id (R188). -/
def peersBytes (ps : List Peer) : List Byte :=
  leBytes 1 ps.length ++ (ps.map peerBytes).flatten

/-- A list of fields as a 2-byte mask: bit `i` is the `i`-th field (R194). -/
def maskNat : List Bool → Nat
  | [] => 0
  | b :: rest => bitAt b 0 + 2 * maskNat rest

end Sys2Proof.Machine
end

