-- ==== Sys2Proof/Machine/Operands.lean ====
section
/-! DEFINITION. The operands of the host's frames: the length check of R184, the Station Settings of SETUP
with their accepted values (R185, R194), and the Cycle Descriptor of START with its clamps (R2, R3). -/

namespace Sys2Proof.Machine

/-- The payload of a frame whose length byte equals the command's fixed payload length and whose whole
bytes after it are that many; otherwise the frame is answered BAD_LENGTH (R184). -/
def framePayload (len : Nat) : Tail → Option (List Byte)
  | [] => none
  | l :: payload => if l.toNat = len && payload.length = len then some payload else none

/-! ## SETUP -/

/-- The byte at an offset of a payload, as a number. -/
def byteAt (bs : List Byte) (off : Nat) : Nat := fieldAt bs off 1

/-- Which SETUP fields lie outside their accepted values, in the order of R194 (R185). -/
def setupFaults (bs : List Byte) : List Bool :=
  [!(1 ≤ byteAt bs 0 && byteAt bs 0 ≤ 63),
   !(1 ≤ byteAt bs 1 && byteAt bs 1 ≤ 31),
   !(byteAt bs 2 ≤ 31),
   !(byteAt bs 3 ≤ 15),
   !(byteAt bs 4 ≤ 31),
   !(byteAt bs 5 ≤ 1),
   !(byteAt bs 6 ≤ 1),
   !(60 ≤ fieldAt bs 7 2),
   !(byteAt bs 9 ≤ 15),
   !(byteAt bs 10 ≤ 1),
   !(byteAt bs 11 = 16 || byteAt bs 11 = 32 || byteAt bs 11 = 64),
   false]

/-- The Station Settings that a SETUP payload carries (R194). -/
def settingsOfBytes (bs : List Byte) : Settings :=
  { budget := byteAt bs 0, weight1 := byteAt bs 1, weight2 := byteAt bs 2, startUnits := byteAt bs 3,
    isolatedCap := byteAt bs 4, minHeard := byteAt bs 5 = 1, autoResume := byteAt bs 6 = 1,
    resumeWindow := fieldAt bs 7 2, reheatRate := byteAt bs 9, reverseFitted := byteAt bs 10 = 1,
    modulus := byteAt bs 11, airflowMin := byteAt bs 12 }

/-! ## START -/

/-- A field held to its range, and whether it was reported as clamped (R3). -/
def clampTo (lo hi v : Nat) : Nat × Bool :=
  if v < lo then (lo, true) else if hi < v then (hi, true) else (v, false)

/-- A field with a default: the all-ones value stores the default and is not reported (R3). -/
def clampDefault (ones dflt lo hi v : Nat) : Nat × Bool :=
  if v = ones then (dflt, false) else clampTo lo hi v

/-- The descriptor of START after the single-field clamps, then the two cross-field clamps, with the
reported fields in offset order (R2, R3). -/
def clampDescriptor (weight2 : Nat) (d : Descriptor) : Descriptor × List Bool :=
  let x := clampTo 0 63 d.x
  let minHeat := clampTo 60 600 d.minHeat
  let maxHeat := clampTo 600 7200 d.maxHeat
  let exhLimit := clampDefault 255 150 120 220 d.exhLimit
  let coolTarget := clampTo 40 160 d.coolTarget
  let coolMin := clampTo 60 1800 d.coolMin
  let coolMax := clampTo 120 3600 d.coolMax
  let guardTotal := clampTo 0 7200 d.guardTotal
  let guardRest := clampTo 30 600 d.guardRest
  let guardTumble := clampTo 5 60 d.guardTumble
  let guardResumeMin := clampTo 0 3600 d.guardResumeMin
  let stages := clampTo 1 2 d.stages
  let dryRun := clampDefault 255 20 8 32 d.dryRun
  let dryHits := clampDefault 255 2 0 8 d.dryHits
  let wetThreshold := clampDefault 65535 64 16 4096 d.wetThreshold
  let raised := coolMax.1 < coolMin.1
  let lowered := stages.1 = 2 && weight2 = 0
  ({ x := x.1, minHeat := minHeat.1, maxHeat := maxHeat.1, exhLimit := exhLimit.1,
     coolTarget := coolTarget.1, coolMin := coolMin.1,
     coolMax := if raised then coolMin.1 else coolMax.1, guardTotal := guardTotal.1,
     guardRest := guardRest.1, guardTumble := guardTumble.1, guardResumeMin := guardResumeMin.1,
     stages := if lowered then 1 else stages.1, dryRun := dryRun.1, dryHits := dryHits.1,
     wetThreshold := wetThreshold.1 },
   [x.2, minHeat.2, maxHeat.2, exhLimit.2, coolTarget.2, coolMin.2, coolMax.2 || raised,
    guardTotal.2, guardRest.2, guardTumble.2, guardResumeMin.2, stages.2 || lowered, dryRun.2,
    dryHits.2, wetThreshold.2])

end Sys2Proof.Machine
end

