-- ==== Sys2Proof/Machine/Flags.lean ====
section
/-! DEFINITION. What the blocks compute afresh from the state whenever it is read: the sensor fault condition, the
sequencer's wants, the hold-off reasons, the dryness counts, the unit state of the Feeder Share Unit,
its held units, the door watch, ATTN. None of these is a register; each is a function of registers. -/

namespace Sys2Proof.Machine

/-! ## Cycle Sequencer -/

/-- The sensor fault condition (R11). -/
def sensorFault (s : State) : Bool :=
  s.scv.refFault || s.scv.exhFault != .none || s.scv.inlFault != .none

/-- HEAT or EXTEND. -/
def CycleState.heats : CycleState → Bool
  | .heat | .extend => true
  | _ => false

/-- A running phase: HEAT, EXTEND, COOL or GUARD (chapter 1.1). -/
def CycleState.runs : CycleState → Bool
  | .heat | .extend | .cool | .guard => true
  | _ => false

/-- A cycle is active while its phase is HEAT, EXTEND, COOL, GUARD or PAUSED (R5). -/
def Phase.active : Phase → Bool
  | .heat | .extend | .cool | .guard | .paused => true
  | _ => false

/-- The motor request is RUN (R7); it is STOP from a taken RESET on (R26). -/
def motorRun (s : State) : Bool :=
  !s.pnl.resetPending &&
  match s.csq.state with
  | .heat | .extend | .cool => true
  | .guard => s.csq.cyc.burst = .tumble
  | _ => false

/-- A start is pending (R7): the request is RUN with the motor STOPPED, or STARTING with no early end of its
start window due. A start that is to end early is over, and a new one begins with the motor STOPPED again. -/
def startPending (s : State) : Bool :=
  motorRun s && (s.ost.motor = .stopped || s.ost.motor = .starting && !s.ost.stopDue)

/-- The motor start want (R7). -/
def startWant (s : State) : Nat := if startPending s then s.settings.startUnits else 0

/-- The conditions of the heater want hold (R8). -/
def heaterWanted (s : State) : Bool :=
  !s.pnl.resetPending && s.csq.state.heats && s.ost.motor = .running && !s.ost.doorOpen &&
  !s.ost.airHold && !s.ost.tripped && !sensorFault s

/-- The heater want (R8). -/
def heaterWant (s : State) : Nat :=
  if heaterWanted s then
    (if s.csq.desc.stages = 2 then s.settings.weight1 + s.settings.weight2 else s.settings.weight1)
  else 0

/-- The remaining seconds that go into the key (R8). -/
def remSeconds (s : State) : Nat :=
  match s.csq.state with
  | .heat => s.csq.desc.maxHeat - s.csq.cyc.heated
  | .extend => s.csq.cyc.extTotal - s.csq.cyc.extDone
  | _ => 0

/-! ## Dryness Window (R54) -/

/-- The fill count. -/
def fillCount (d : Dryness) : Nat := d.window.length

/-- Hits among the samples held. -/
def hitCount (d : Dryness) : Nat := d.window.countP id

/-- Consecutive non-hits from the newest sample back. -/
def quietCount (d : Dryness) : Nat := (d.window.takeWhile (!·)).length

/-! ## Output Stage -/

/-- Stage `k` is asked for (R65). -/
def askedFor (s : State) (k : Nat) : Bool := s.csq.state.heats && k ≤ s.csq.desc.stages

/-- The hold-off reasons (R65). -/
structure HoldOff where
  notHeld : Bool
  motor : Bool
  door : Bool
  airflow : Bool
  highLimit : Bool
  sensor : Bool
  mains : Bool
deriving DecidableEq, Repr

/-- Some reason stands. -/
def HoldOff.any (h : HoldOff) : Bool :=
  h.notHeld || h.motor || h.door || h.airflow || h.highLimit || h.sensor || h.mains

/-- The hold-off reasons of a stage whose step is in state `step` (R65, R69, R73). -/
def holdOff (s : State) (step : StepState) : HoldOff :=
  { notHeld := step != .cover, motor := s.ost.motor != .running, door := s.ost.doorOpen,
    airflow := s.ost.airHold, highLimit := s.ost.tripped, sensor := sensorFault s,
    mains := s.mwt.state != .present }

/-- The reasons as the status reports them: a stage that is not asked for carries none (R65). -/
def reasonsShown (s : State) (k : Nat) (step : StepState) : HoldOff :=
  if askedFor s k then holdOff s step else ⟨false, false, false, false, false, false, false⟩

/-- The nominal half-period of a class in microseconds (R84). -/
def nominalHalf : LineClass → Nat
  | .hz60 => 8333
  | _ => 10000

/-- The missing-crossing limit of a class (R84, R88). -/
def missingLimit : LineClass → Nat
  | .hz60 => 12500
  | _ => 15000

/-- A half-period lies in the return band of a class (R84). -/
def inBand : LineClass → Nat → Bool
  | .hz50, h => 9000 ≤ h && h ≤ 11000
  | .hz60, h => 7500 ≤ h && h ≤ 9166
  | .unknown, _ => false

/-! ## Feeder Share Unit -/

/-- The worth of a step (R167). -/
def worth (s : State) : CoverStep → Nat
  | .start => s.settings.startUnits
  | .stage1 => s.settings.weight1
  | .stage2 => s.settings.weight2

/-- A step is wanted (R167); a step of worth 0 never is. -/
def wanted (s : State) : CoverStep → Bool
  | .start => 0 < startWant s
  | .stage1 => 0 < heaterWant s
  | .stage2 =>
    0 < heaterWant s && heaterWant s = s.settings.weight1 + s.settings.weight2
      && 0 < s.settings.weight2

/-- The state of a step. -/
def stepOf (f : Feeder) : CoverStep → StepState
  | .start => f.start
  | .stage1 => f.stage1
  | .stage2 => f.stage2

/-- Units counted for a step when it satisfies a test. -/
def unitsIf (s : State) (p : StepState → Bool) (k : CoverStep) : Nat :=
  if p (stepOf s.fsu k) then worth s k else 0

/-- Held: the worths of the pending steps, the steps in the cover and those under release (R167). -/
def held (s : State) : Nat :=
  unitsIf s (· != .free) .start + unitsIf s (· != .free) .stage1 + unitsIf s (· != .free) .stage2

/-- Held less the steps under release, which the shedding test counts as gone (R177). -/
def heldKept (s : State) : Nat :=
  unitsIf s (fun x => x = .pending || x = .cover) .start
    + unitsIf s (fun x => x = .pending || x = .cover) .stage1
    + unitsIf s (fun x => x = .pending || x = .cover) .stage2

/-- The want: the sum of the wanted steps' worths (R167). -/
def wantUnits (s : State) : Nat :=
  (if wanted s .start then worth s .start else 0) + (if wanted s .stage1 then worth s .stage1 else 0)
    + (if wanted s .stage2 then worth s .stage2 else 0)

/-- The wanted steps at present (R167). -/
def wantsNow (s : State) : Wants := ⟨wanted s .start, wanted s .stage1, wanted s .stage2⟩

/-- A step is wanted that was not: its want has risen (R167). -/
def Wants.rises (old new : Wants) : Bool :=
  (new.start && !old.start) || (new.stage1 && !old.stage1) || (new.stage2 && !old.stage2)

/-- The unit states (R166). -/
inductive UnitState where
  | listenIn | quiet | intent | ready | holding
deriving DecidableEq, Repr

/-- LISTEN_IN, but for a loss warning: before SETUP, while the listen-in timer runs, and until STRAP_DONE
(R166, R180). -/
def listening (s : State) : Bool :=
  !s.pnl.setupDone || s.fsu.listenIn.isSome || !s.scv.strapDone

/-- The unit state (R166, R181). -/
def unitState (s : State) : UnitState :=
  if s.mwt.warning then .quiet
  else if listening s then .listenIn
  else if held s = 0 && s.fsu.want = 0 then .quiet
  else if held s < s.fsu.want then (if s.fsu.settle.isSome then .intent else .ready)
  else .holding

/-- The claim key (R170). -/
def claimKey (s : State) : Nat :=
  s.fsu.cls * 8192 + min (ceilDiv (remSeconds s) 60) 255 * 32 + s.scv.stationId

/-- The least of the own budget and every budget heard. -/
def leastBudget (own : Nat) (ps : List Peer) : Nat := ps.foldl (fun b p => min b p.budget) own

/-- The effective budget (R178). -/
def effectiveBudget (s : State) : Nat :=
  let b := if s.settings.minHeard then leastBudget s.settings.budget s.fsu.peers else s.settings.budget
  if s.fsu.isolated.isSome then min b s.settings.isolatedCap else b

/-- Some peer announces a budget below the own (R178). -/
def budgetMismatch (s : State) : Bool := s.fsu.peers.any fun p => p.budget < s.settings.budget

/-- Units held by every live peer (R176). -/
def committed (ps : List Peer) : Nat := (ps.map Peer.held).sum

/-- Units that better-placed live peers still wait for (R176). -/
def ahead (key : Nat) (ps : List Peer) : Nat :=
  (ps.map fun p => if p.key < key then p.want - p.held else 0).sum

/-- The unit may hand a notice: after SETUP, with no loss warning, and not as a station known to be of
id 0 (R173). -/
def mayHand (s : State) : Bool :=
  s.pnl.setupDone && !s.mwt.warning && !(s.scv.strapDone && s.scv.stationId = 0)

/-- The port takes a notice into its slot (R154). -/
def portTakes (s : State) : Bool :=
  s.scv.strapDone && 1 ≤ s.scv.stationId && s.scv.stationId ≤ 31 && s.pnl.setupDone && !s.mwt.warning

/-! ## Holdover Domain and Panel Link -/

/-- The door watch is ON (R127): the main domain is not running, or the sequencer is in LOSS or
HOLDOVER_WAIT. -/
def doorWatch (s : State) : Bool :=
  !s.mainPowered || s.csq.state = .loss || s.csq.state = .holdoverWait

/-- ATTN is driven active while at least one event flag is set (R186). -/
def attn (s : State) : Bool := s.pnl.evPhase || s.pnl.evPlan || s.pnl.evFault || s.pnl.evLine

end Sys2Proof.Machine
end

