-- ==== Sys2Proof/Machine/Reports.lean ====
section
/-! DEFINITION. The reports that reach the Cycle Sequencer and the Resume Planner from other blocks and the moves they
cause: a change of cycle state (R27), entry to PLANNING (R133), record done and mains back (R20),
JOURNAL_FAULT (R18). None of them requests a record. -/

namespace Sys2Proof.Machine

/-- Enter a cycle state; a change raises the phase-change event (R27), and the ready reason stands in
PLAN_READY alone (R22, R194). -/
def setCycle (s : State) (st : CycleState) : State :=
  if s.csq.state = st then s
  else raisePhase (s.setCsq { s.csq with state := st, ready := .none })

/-- The sequencer enters PLANNING: the planner discards its plan and waits for an EXH pair (R133). -/
def enterPlanning (s : State) (blink : Bool) : State :=
  (setCycle s .planning).setRpl
    { state := .making, plan := { Plan.reset with blink := blink }, basis := none }

/-- Record done in LOSS: PLANNING with the mains-back note, HOLDOVER_WAIT without it (R20). -/
def leaveLoss (s : State) : State :=
  if s.csq.mainsBack then enterPlanning s true else setCycle s .holdoverWait

/-- The journal reports *record done*: the END record of a host reset is no longer awaited (R26), and LOSS
is left (R20). From a taken RESET on the cycle state stays as it is (R26). -/
def recordDone (s : State) : State :=
  if s.csq.endAwaited then s.setCsq { s.csq with endAwaited := false }
  else if s.pnl.resetPending then s
  else if s.csq.state = .loss then leaveLoss s
  else s

/-- The Mains Watch reports *mains back* to the sequencer (R20, R93): the note in LOSS, PLANNING from
HOLDOVER_WAIT. -/
def mainsBackCycle (s : State) : State :=
  if s.csq.state = .loss then s.setCsq { s.csq with mainsBack := true }
  else if s.csq.state = .holdoverWait && !s.pnl.resetPending then enterPlanning s true
  else s

/-- Set reason flags of the Cycle Record. -/
def setReasons (s : State) (f : Reasons → Reasons) : State :=
  s.setCsq { s.csq with cyc := { s.csq.cyc with reasons := f s.csq.cyc.reasons } }

/-- The journal reports JOURNAL_FAULT: the sequencer sets its flag and raises the fault event (R18, R27); it
acts on no fault report from a taken RESET on (R26). -/
def journalFaultReport (s : State) : State :=
  if s.pnl.resetPending then s
  else raiseFault (setReasons s fun r => { r with journalFault := true })

end Sys2Proof.Machine
end

