-- ==== Sys2Proof/Machine/Journal.lean ====
section
/-! DEFINITION. The Progress Journal (R96 to R121): the ring and its write pointer, the pending record, programs,
erases and their suspension, the start-up scan, and what a cut-off flash operation leaves. -/

namespace Sys2Proof.Machine

/-! ## Sectors and the write pointer -/

/-- The state of sector `k`. -/
def Journal.sector (j : Journal) (k : Nat) : SectorState :=
  if k = 0 then j.sector0 else if k = 1 then j.sector1 else if k = 2 then j.sector2 else j.sector3

/-- Give sector `k` a state. -/
def Journal.setSector (j : Journal) (k : Nat) (x : SectorState) : Journal :=
  if k = 0 then { j with sector0 := x } else if k = 1 then { j with sector1 := x }
  else if k = 2 then { j with sector2 := x } else { j with sector3 := x }

/-- Place the pointer. -/
def Journal.setPtr (j : Journal) (sector slot : Nat) : Journal :=
  { j with ptrSector := sector, ptrSlot := slot }

/-- The sector after the pointer's. -/
def Journal.next (j : Journal) : Nat := nextSector j.ptrSector

/-- The slot a record may use (R102). -/
def Journal.usable (j : Journal) (urgent : Bool) : Option (Nat × Nat) :=
  if j.ptrSlot ≤ 61 then some (j.ptrSector, j.ptrSlot)
  else if j.sector j.next = .erased then some (j.next, 0)
  else if urgent && j.ptrSlot ≤ 63 then some (j.ptrSector, j.ptrSlot)
  else none

/-- At slot 64 the pointer moves to slot 0 of the next sector once that is ERASED (R102, R104, R108, R116). -/
def Journal.openNext (j : Journal) : Journal :=
  if j.ptrSlot = 64 && j.sector j.next = .erased then (j.setSector j.next .active).setPtr j.next 0
  else j

/-- The erase-ahead test (R107). -/
def Journal.eraseAhead (j : Journal) : Journal :=
  let x := j.sector j.next
  if 32 ≤ j.ptrSlot && !(x = .erased || x = .erasing || x = .suspended) && !j.queue.contains j.next then
    { j with queue := j.queue ++ [j.next] }
  else j

/-- The pointer advances by one slot; at slot 64 its sector becomes FULL and the next is opened if it is
ERASED; then the erase-ahead test is applied (R104, R107). -/
def Journal.advance (j : Journal) : Journal :=
  let j1 := { j with ptrSlot := j.ptrSlot + 1 }
  let j2 := if j1.ptrSlot = 64 then (j1.setSector j1.ptrSector .full).openNext else j1
  j2.eraseAhead

/-! ## Records and the pending record -/

/-- Urgent kinds (R99). -/
def RecordKind.urgent : RecordKind → Bool
  | .phase | .loss | .finish => true
  | _ => false

/-- The copy taken at a request (R98); the sequence number joins it when its program begins. -/
def recordCopy (s : State) (kind : RecordKind) (reason : EndReason) : Record :=
  { sequence := 0, stamp := s.hdm.clock, kind := kind,
    endReason := if kind = .finish then reason else .none, cyc := s.csq.cyc, exh := s.dwn.exh,
    inl := s.dwn.inl, desc := s.csq.desc }

/-- Change one journal counter. -/
def Journal.count (j : Journal) (f : JournalCounters → JournalCounters) : Journal :=
  { j with counters := f j.counters }

/-- JOURNAL_FAULT is set (R106): the pending record is dropped and reported done, and the sequencer is told. -/
def setJournalFault (s : State) : State :=
  let held := s.pjr.pend.isSome
  let s1 := s.setPjr { s.pjr with fault := true, pend := none }
  journalFaultReport (if held then recordDone s1 else s1)

/-- The pending copy is abandoned when it has no usable slot: a LOSS record (R111), or an END whose orderly
mark a loss warning cleared (R112). It is judged when no program is running. -/
def Journal.abandons (j : Journal) : Bool :=
  match j.pend with
  | none => false
  | some p => (p.copy.kind = .loss || p.hurried) && (j.usable p.urgent).isNone

/-- An urgent pending record that may take the array from an erase: with a usable slot and no orderly mark
(R109, R110, R112). -/
def Journal.presses (j : Journal) : Bool :=
  match j.pend with
  | none => false
  | some p => p.urgent && !p.orderly && (j.usable p.urgent).isSome

/-- A suspended erase is resumed: no record presses, and the loss mark does not hold an empty pending record's
erase (R110, R112). -/
def Journal.resumes (j : Journal) : Bool :=
  !j.fault && !j.presses && (j.pend.isSome || !j.lossMark)

/-- A pending record with no usable slot that the journal does not keep is abandoned (R111, R112). -/
def abandonPending (s : State) : State :=
  if s.pjr.abandons then
    recordDone (s.setPjr ({ s.pjr with pend := none }.count fun c =>
      { c with abandoned := satInc 255 c.abandoned }))
  else s

/-- What becomes of an erase being suspended or suspended: an orderly record cancels a suspend not yet in effect
(R112), and a suspended erase is resumed or kept (R110). -/
def Journal.settleErase (j : Journal) : Journal :=
  match j.op with
  | .suspending k =>
    match j.pend with
    | some p => if p.orderly then { j with op := .erasing k } else j
    | none => j
  | .suspended k =>
    if j.resumes then { j.setSector k .erasing with op := .erasing k, sinceResume := some 0 } else j
  | _ => j

/-- A program is running. -/
def FlashOp.programs : FlashOp → Bool
  | .programming _ _ _ => true
  | _ => false

/-- What the journal settles in the very step that brought a request or ended an operation, with no program
running. -/
def journalSettle (s : State) : State :=
  if s.pjr.op.programs then s
  else
    let s1 := abandonPending s
    s1.setPjr s1.pjr.settleErase

/-- The journal with a request's copy in the pending record, which the copy enters or replaces (R100). -/
def Journal.takeCopy (j : Journal) (copy : Record) (host : Bool) : Journal :=
  match j.pend with
  | none => { j with pend := some ⟨copy, copy.kind.urgent, host, false, false⟩ }
  | some p =>
    { j with pend := some ⟨copy, p.urgent || copy.kind.urgent, host || p.orderly, p.hurried, false⟩ }.count
      fun c => { c with replaced := satInc 65535 c.replaced }

/-- The journal with its loss mark cleared by a request other than LOSS (R100, R111). -/
def Journal.unmark (j : Journal) (kind : RecordKind) : Journal :=
  if kind = .loss then j else { j with lossMark := false }

/-- A record request from the sequencer (R100). It also sets the progress timer to 0 (R18). -/
def requestRecord (s : State) (kind : RecordKind) (reason : EndReason) : State :=
  let s1 := s.setCsq { s.csq with progress := 0 }
  let j := s1.pjr.unmark kind
  if j.fault then
    recordDone (s1.setPjr (j.count fun c => { c with dropped := satInc 255 c.dropped }))
  else
    journalSettle (s1.setPjr (j.takeCopy (recordCopy s1 kind reason) (kind = .finish && reason = .hostReset)))

/-- The journal at the loss warning: the loss mark is set (R111) and an orderly mark is cleared (R112). -/
def Journal.warned (j : Journal) : Journal :=
  match j.pend with
  | some p =>
    { j with lossMark := true,
             pend := some (if p.orderly then { p with orderly := false, hurried := true } else p) }
  | none => { j with lossMark := true }

/-- An orderly record is pending (R112). -/
def Journal.holdsOrderly (j : Journal) : Bool :=
  match j.pend with
  | some p => p.orderly
  | none => false

/-- The loss warning reaches the journal; a record that has ceased to be orderly is judged anew (R112). -/
def journalLoss (s : State) : State :=
  let s1 := s.setPjr s.pjr.warned
  if s.pjr.holdsOrderly then journalSettle s1 else s1

/-! ## Beginning a program, an erase, a suspend -/

/-- The slot into which a program may begin now: with the array READY (R101) or an erase SUSPENDED (R110). -/
def Journal.programs (j : Journal) : Option (Nat × Nat × Option Nat) :=
  if j.fault then none
  else
    match j.pend with
    | none => none
    | some p =>
      match j.op with
      | .ready => (j.usable p.urgent).map fun a => (a.1, a.2, none)
      | .suspended k => if j.presses then (j.usable p.urgent).map fun a => (a.1, a.2, some k) else none
      | _ => none

/-- The journal begins to program the pending record (R102, R103). -/
def Journal.beginProgram (j : Journal) : Journal :=
  match j.programs, j.pend with
  | some (sector, slot, halted), some p =>
    let j1 :=
      if sector = j.ptrSector then j
      else ((j.setSector j.ptrSector .full).setSector sector .active).setPtr sector 0
    { j1 with op := .programming sector slot halted,
              prog := some { p.copy with sequence := j.nextSeq },
              pend := some { p with inFlight := true } }
  | _, _ => j

/-- The flash is free for an erase: READY, nothing to program, a sector in the queue, no JOURNAL_FAULT (R101). -/
def Journal.erases (j : Journal) : Option Nat :=
  if j.op = .ready && j.programs.isNone && !j.fault then j.queue.head? else none

/-- The sector at the head of the queue begins erasing (R108). -/
def Journal.beginErase (j : Journal) : Journal :=
  match j.erases with
  | some k =>
    { j.setSector k .erasing with op := .erasing k, queue := j.queue.tail, eraseAgain := false }
  | none => j

/-- An urgent record requests the suspension of a running erase, no sooner than 1 ms after the latest resume
(R109). -/
def Journal.suspendsNow (j : Journal) : Option Nat :=
  match j.op with
  | .erasing k =>
    if j.presses && (match j.sinceResume with | none => true | some t => 1000 ≤ t) then some k else none
  | _ => none

/-- The suspend is requested (R109). -/
def Journal.requestSuspend (j : Journal) : Journal :=
  match j.suspendsNow with
  | some k => { j with op := .suspending k }
  | none => j

/-- The suspend takes effect, and the pending record is programmed at once (R109). -/
def Journal.suspendEffect (j : Journal) : Journal :=
  match j.op with
  | .suspending k =>
    ({ j.setSector k .suspended with op := .suspended k }.count fun c =>
      { c with suspends := satInc 65535 c.suspends }).beginProgram
  | _ => j

/-! ## The flash that an operation leaves -/

/-- Bytes that read as BAD: as they stand, or with a kind that names none (R97). -/
def forceBad (bs : List Byte) : List Byte :=
  match readSlotBytes bs with
  | .bad => bs
  | _ => bs.take 8 ++ (0 : Byte) :: bs.drop 9

/-- The bytes of a slot that a cut-off or failed operation leaves BAD: free bytes (log entry 7). -/
def badSlot (n sector slot : Nat) : List Byte :=
  forceBad ((List.range 64).map fun i => Config.garbageByte n (slotBase sector slot + i))

/-- The flash with 64 bytes in a slot. -/
def putSlot (m : List Host.Cell) (sector slot : Nat) (bs : List Byte) : List Host.Cell :=
  Memory.writeBytes (Memory.erase m (slotBase sector slot) 64) (slotBase sector slot) bs

/-- What a cut-off program leaves in its slot: nothing, the whole record, or a BAD slot (R113). -/
def tearProgram (m : List Host.Cell) (n sector slot : Nat) (r : Record) : List Host.Cell :=
  if Config.tornSlot n slot % 3 = 0 then m
  else if Config.tornSlot n slot % 3 = 1 then putSlot m sector slot (recordBytes r)
  else putSlot m sector slot (badSlot n sector slot)

/-- What a cut-off erase leaves in one slot of its sector: BLANK, its old contents, or a BAD slot (R113). -/
def tearSlot (m : List Host.Cell) (n sector slot : Nat) : List Host.Cell :=
  if Config.tornSlot n slot % 3 = 0 then Memory.erase m (slotBase sector slot) 64
  else if Config.tornSlot n slot % 3 = 1 then m
  else putSlot m sector slot (badSlot n sector slot)

/-- What a cut-off erase leaves in its sector (R113). -/
def tearErase (m : List Host.Cell) (n sector : Nat) : List Host.Cell :=
  (List.range 64).foldl (fun m i => tearSlot m n sector i) m

/-- Every slot of a sector is BLANK. -/
def sectorBlank (m : List Host.Cell) (sector : Nat) : Bool :=
  (Memory.within m (sector * 4096) 4096).isEmpty

/-- What an erase that did not leave its sector blank leaves: at least one slot is not BLANK (R108). -/
def failErase (m : List Host.Cell) (n sector : Nat) : List Host.Cell :=
  let m1 := tearErase m n sector
  if sectorBlank m1 sector then putSlot m1 sector 0 (badSlot n sector 0) else m1

/-- A main-domain reset or a failing supply ends the flash operation at once (R113). -/
def tearFlash (s : State) : State :=
  match s.pjr.op, s.pjr.prog with
  | .ready, _ => s
  | .programming sector slot none, some r =>
    (s.setFlash (tearProgram s.flash s.freeCount sector slot r)).setFreeCount (s.freeCount + 1)
  | .programming sector slot (some k), some r =>
    (s.setFlash (tearErase (tearProgram s.flash s.freeCount sector slot r) (s.freeCount + 1) k)).setFreeCount
      (s.freeCount + 2)
  | .programming _ _ _, none => s
  | .erasing k, _ => (s.setFlash (tearErase s.flash s.freeCount k)).setFreeCount (s.freeCount + 1)
  | .suspending k, _ => (s.setFlash (tearErase s.flash s.freeCount k)).setFreeCount (s.freeCount + 1)
  | .suspended k, _ => (s.setFlash (tearErase s.flash s.freeCount k)).setFreeCount (s.freeCount + 1)

/-! ## Completions -/

/-- The operation after a program ends: READY, or the suspended erase (R104). -/
def afterProgram : Option Nat → FlashOp
  | none => .ready
  | some k => .suspended k

/-- The slot reads back as meant (R104). Where a newer copy has replaced the one in flight, that newer copy
stays pending, and its requests are reported done with it (R100). -/
def programVerified (s : State) (sector slot : Nat) (halted : Option Nat) (r : Record) : State :=
  let flash := putSlot s.flash sector slot (recordBytes r)
  let j := s.pjr
  let j1 := { j with nextSeq := satInc 4294967295 j.nextSeq, newest := some r, newestBad := false,
                     consecutive := 0 }.advance
  let j2 := { j1 with op := afterProgram halted, prog := none }.count fun c =>
    { c with written := satInc 65535 c.written }
  let mine := match j.pend with | some p => p.inFlight | none => false
  let s1 := (s.setFlash flash).setPjr (if mine then { j2 with pend := none } else j2)
  let s2 := if mine then recordDone s1 else s1
  journalSettle (if 4294967294 ≤ r.sequence then setJournalFault s2 else s2)

/-- The pending record with its copy no longer in flight: it waits to be tried again (R105). -/
def PendingRecord.waiting (p : PendingRecord) : PendingRecord := { p with inFlight := false }

/-- The read-back disagrees (R105): the slot is left BAD and the record is tried again, or JOURNAL_FAULT is
set. -/
def programFailed (s : State) (sector slot : Nat) (halted : Option Nat) : State :=
  let flash := putSlot s.flash sector slot (badSlot s.freeCount sector slot)
  let j := s.pjr
  let j1 := { j with newestBad := true, consecutive := satInc 2 j.consecutive }.advance
  let j2 := { j1 with op := afterProgram halted, prog := none,
                      pend := j.pend.map PendingRecord.waiting }.count fun c =>
    { c with verifyFailures := satInc 255 c.verifyFailures }
  let s1 := ((s.setFlash flash).setFreeCount (s.freeCount + 1)).setPjr j2
  journalSettle (if j2.consecutive = 2 then setJournalFault s1 else s1)

/-- A program completes and the slot is read back (R104, R105). -/
def programComplete (s : State) (agrees : Bool) : State :=
  match s.pjr.op, s.pjr.prog with
  | .programming sector slot halted, some r =>
    if agrees then programVerified s sector slot halted r else programFailed s sector slot halted
  | _, _ => s

/-- The sector that an erase is running on; a suspend not yet in effect does not halt it (R109). -/
def FlashOp.running : FlashOp → Option Nat
  | .erasing k => some k
  | .suspending k => some k
  | _ => none

/-- An erase left its sector blank (R108). -/
def eraseDone (s : State) (k : Nat) : State :=
  let j := ({ s.pjr.setSector k .erased with op := .ready, eraseAgain := false }.count fun c =>
    { c with erases := satInc 65535 c.erases }).openNext
  journalSettle ((s.setFlash (Memory.erase s.flash (k * 4096) 4096)).setPjr j)

/-- An erase did not leave its sector blank (R108): erased again at once, or FULL. -/
def eraseFailed (s : State) (k : Nat) : State :=
  let s0 := (s.setFlash (failErase s.flash s.freeCount k)).setFreeCount (s.freeCount + 1)
  let j := s0.pjr.count fun c => { c with eraseFailures := satInc 255 c.eraseFailures }
  if !j.eraseAgain && !j.fault then
    journalSettle (s0.setPjr { j with op := .erasing k, eraseAgain := true })
  else
    let s1 := s0.setPjr { j.setSector k .full with op := .ready, eraseAgain := false }
    journalSettle (if j.eraseAgain then setJournalFault s1 else s1)

/-- An erase completes and is blank-checked (R108). -/
def eraseComplete (s : State) (blank : Bool) : State :=
  match s.pjr.op.running with
  | some k => if blank then eraseDone s k else eraseFailed s k
  | none => s

/-! ## The start-up scan (R114 to R117, R119) -/

/-- The 64 slots of a sector as read. -/
def readSector (m : List Host.Cell) (k : Nat) : List SlotRead :=
  let cells := Memory.within m (k * 4096) 4096
  (List.range 64).map fun i => readSlot cells k i

/-- Every slot is BLANK. -/
def allBlank (slots : List SlotRead) : Bool := slots.all (· = .blank)

/-- A programmed slot follows a BLANK one. -/
def gapped : List SlotRead → Bool
  | [] => false
  | .blank :: rest => !allBlank rest
  | _ :: rest => gapped rest

/-- The records of the VALID slots, in slot order. -/
def validRecords : List SlotRead → List Record
  | [] => []
  | .valid r :: rest => r :: validRecords rest
  | _ :: rest => validRecords rest

/-- Of two VALID records the later does not carry the higher sequence. -/
def disordered : List Record → Bool
  | [] => false
  | r :: rest => rest.any (fun x => x.sequence ≤ r.sequence) || disordered rest

/-- The sector is judged TORN (R114). -/
def isTorn (slots : List SlotRead) : Bool := gapped slots || disordered (validRecords slots)

/-- A VALID record with the place where it stands. -/
structure Found where
  record : Record
  sector : Nat
  slot : Nat
deriving DecidableEq, Repr

/-- The VALID records of one sector with their slots, from slot `i`. -/
def foundIn (k : Nat) : Nat → List SlotRead → List Found
  | _, [] => []
  | i, .valid r :: rest => ⟨r, k, i⟩ :: foundIn k (i + 1) rest
  | i, _ :: rest => foundIn k (i + 1) rest

/-- The one with the highest sequence. -/
def newestOf : List Found → Option Found
  | [] => none
  | f :: rest =>
    match newestOf rest with
    | none => some f
    | some g => if f.record.sequence < g.record.sequence then some g else some f

/-- The four sectors as read by the scan. -/
structure Ring where
  slots0 : List SlotRead
  slots1 : List SlotRead
  slots2 : List SlotRead
  slots3 : List SlotRead
deriving DecidableEq, Repr

/-- The slots of sector `k`. -/
def Ring.slots (r : Ring) (k : Nat) : List SlotRead :=
  if k = 0 then r.slots0 else if k = 1 then r.slots1 else if k = 2 then r.slots2 else r.slots3

/-- The scan reads every slot (R114). -/
def readRing (m : List Host.Cell) : Ring :=
  ⟨readSector m 0, readSector m 1, readSector m 2, readSector m 3⟩

/-- The newest valid record of the sectors that are not TORN (R115). -/
def Ring.newest (r : Ring) : Option Found :=
  newestOf (([0, 1, 2, 3].filter fun k => !isTorn (r.slots k)).flatMap fun k => foundIn k 0 (r.slots k))

/-- The newest-slot-bad flag (R115). -/
def Ring.newestBad (r : Ring) (f : Found) : Bool :=
  let after := (r.slots f.sector).drop (f.slot + 1)
  let next := r.slots (nextSector f.sector)
  if 61 ≤ f.slot && allBlank after then
    !isTorn next && (validRecords next).isEmpty && next.head? = some .bad
  else after.head? = some .bad

/-- The first BLANK slot at or after slot `i` of the slots given. -/
def firstBlank : Nat → List SlotRead → Option Nat
  | _, [] => none
  | i, .blank :: _ => some i
  | i, _ :: rest => firstBlank (i + 1) rest

/-- Where the scan places the pointer: a sector and a slot (R116). -/
def Ring.pointer (r : Ring) : Nat × Nat :=
  match r.newest with
  | some f =>
    (f.sector, (firstBlank (f.slot + 1) ((r.slots f.sector).drop (f.slot + 1))).getD 64)
  | none =>
    match [0, 1, 2, 3].find? fun k => allBlank (r.slots k) with
    | some k => (k, 0)
    | none => (3, 64)

/-- The state the scan gives a sector (R114, R116). -/
def Ring.state (r : Ring) (k : Nat) : SectorState :=
  if r.pointer.1 = k && r.pointer.2 ≤ 63 then .active
  else if isTorn (r.slots k) then .torn
  else if allBlank (r.slots k) then .erased
  else .full

/-- The journal as the scan leaves it (R115, R116, R119). The pointer's own sector never stands in the erase
queue (R107). After 4 294 967 295 the next sequence stays there, and `scanComplete` lets nothing take it. -/
def Journal.scanned (j : Journal) (m : List Host.Cell) : Journal :=
  let r := readRing m
  let f := r.newest
  let p := r.pointer
  let j1 := { j with
    sector0 := r.state 0, sector1 := r.state 1, sector2 := r.state 2, sector3 := r.state 3,
    ptrSector := p.1, ptrSlot := p.2,
    nextSeq := match f with | some f => satInc 4294967295 f.record.sequence | none => 1,
    newest := f.map Found.record,
    newestBad := match f with | some f => r.newestBad f | none => false,
    activeFound := match f with | some f => f.record.kind != RecordKind.finish | none => false,
    factoryGood := (readFactory m).isSome,
    serial := match readFactory m with | some x => x.1 | none => 0,
    product := match readFactory m with | some x => x.2 | none => 0,
    scanDone := true }
  let j2 := j1.openNext
  let torn := [nextSector j2.ptrSector, nextSector (nextSector j2.ptrSector),
    nextSector (nextSector (nextSector j2.ptrSector))].filter fun k => j2.sector k = .torn
  { j2 with queue := torn }.eraseAhead

/-- The sequence numbers are used up (R103): the newest valid record carries the last of the 32-bit numbers, which do not
wrap. -/
def Journal.numbersUsed (j : Journal) : Bool := j.newest.any fun r => r.sequence = 4294967295

/-- The scan completes (R117): the sequencer's cycle id is set (R5), and a BAD factory record raises the
fault event (R119). DEDUCED: a scan that finds the numbers used up sets JOURNAL_FAULT, so that no two valid records share
one (R103, R106, log entry 22). -/
def scanComplete (s : State) : State :=
  if s.pjr.scanDone then s
  else
    let j := s.pjr.scanned s.flash
    let id := match j.newest with | some r => r.cyc.cycleId | none => 0
    let s1 := (s.setPjr j).setCsq { s.csq with cyc := { s.csq.cyc with cycleId := id } }
    let s2 := if j.factoryGood then s1 else raiseFault s1
    if j.numbersUsed then setJournalFault s2 else s2

end Sys2Proof.Machine
end

