-- ==== Sys2Proof/Machine/Cycle.lean ====
section
/-! DEFINITION. What the Cycle Sequencer does when it moves: the orders it gives to its neighbours, entry to each
state with its record (R9 to R25), the loss warning (R19) and the door (R14, R15). From a taken RESET on
the sequencer acts on none of them (R26). -/

namespace Sys2Proof.Machine

/-! ## Orders to the neighbours -/

/-- The clear order to the Holdover Domain: the door latch and CLOCK_LOST (R130). -/
def orderClear (s : State) : State := s.setHdm { s.hdm with clockLost := false, doorLatch := false }

/-- The order to clear the Dryness Window (R55). -/
def clearWindow (s : State) : State :=
  s.setDwn { s.dwn with resultSeen := false, hitSeen := false, window := [], verdict := .none,
                        reported := false }

/-- Both pending duties are set to the modulus (R67). -/
def fullDuties (s : State) : State :=
  s.setOst { s.ost with stage1 := { s.ost.stage1 with pending := s.settings.modulus },
                        stage2 := { s.ost.stage2 with pending := s.settings.modulus } }

/-- START clears the cumulative hold count and its latch (R80). -/
def clearHoldCount (s : State) : State := s.setOst { s.ost with cumHold := 0, airReported := false }

/-- The sequencer writes the claim class (R8). -/
def setClass (s : State) (c : Nat) : State := s.setFsu { s.fsu with cls := c }

/-- Change the Cycle Record. -/
def setCyc (s : State) (c : CycleRecord) : State := s.setCsq { s.csq with cyc := c }

/-- Entry to HEAT or EXTEND sets the fault persistence count to 0 (R11). -/
def clearFaultCount (s : State) : State := s.setCsq { s.csq with faultCount := 0 }

/-! ## Entering a state -/

/-- Enter COOL from heating and request a PHASE record (R10). -/
def enterCool (s : State) : State :=
  let s1 := setCyc s { s.csq.cyc with phase := .cool, phaseElapsed := 0, coolElapsed := 0 }
  requestRecord (setCycle s1 .cool) .phase .none

/-- Enter EXTEND at the dry point and request a PHASE record (R9). -/
def enterExtend (s : State) : State :=
  let s1 := setCyc s { s.csq.cyc with phase := .extend, phaseElapsed := 0 }
  requestRecord (setCycle (clearFaultCount s1) .extend) .phase .none

/-- Enter DONE with an end reason and request an END record (R17). -/
def enterDone (s : State) (reason : EndReason) : State :=
  let s1 := s.setCsq
    { s.csq with cyc := { s.csq.cyc with phase := .ended, before := .none }, endReason := reason }
  requestRecord (setCycle s1 .done) .finish reason

/-- Enter ABANDONED: the holdover flags are cleared and an END record is requested (R25). -/
def enterAbandoned (s : State) : State :=
  let s1 := s.setCsq
    { s.csq with cyc := { s.csq.cyc with phase := .ended }, endReason := .abandoned }
  requestRecord (setCycle (orderClear s1) .abandoned) .finish .abandoned

/-- Enter GUARD at the end of the cool-down and request a PHASE record (R12, R13). -/
def enterGuard (s : State) : State :=
  let s1 := setCyc s { s.csq.cyc with phase := .guard, phaseElapsed := 0,
                                      guardRemaining := s.csq.desc.guardTotal, burst := .rest,
                                      burstTimer := s.csq.desc.guardRest }
  requestRecord (setCycle s1 .guard) .phase .none

/-- Enter PAUSED from a running phase and request a PHASE record (R15). -/
def enterPaused (s : State) : State :=
  let s1 := setCyc s { s.csq.cyc with before := s.csq.cyc.phase, phase := .paused }
  requestRecord (setCycle s1 .paused) .phase .none

/-- The phase in which a cycle state runs. -/
def phaseOf : CycleState → Phase
  | .heat => .heat
  | .extend => .extend
  | .cool => .cool
  | .guard => .guard
  | _ => .none

/-- The running phase that phase_before_pause names (R16). -/
def runningState : Phase → Option CycleState
  | .heat => some .heat
  | .extend => some .extend
  | .cool => some .cool
  | .guard => some .guard
  | _ => none

/-! ## Commands of the host -/

/-- START taken (R4): the descriptor is stored, the cycle id rises, the Cycle Record is cleared and HEAT is
entered. -/
def takeStart (s : State) (d : Descriptor) : State :=
  let cyc := { CycleRecord.reset with cycleId := (s.csq.cyc.cycleId + 1) % 65536, phase := .heat }
  let s1 := s.setCsq { s.csq with desc := d, cyc := cyc, faultCount := 0 }
  let s2 := clearHoldCount (fullDuties (setClass (clearWindow s1) 3))
  requestRecord (setCycle s2 .heat) .start .none

/-- CONTINUE into the running phase `st` (R16): duties and fault count begin anew for heating (R67, R11). -/
def takeContinue (s : State) (st : CycleState) : State :=
  let cyc := { s.csq.cyc with phase := phaseOf st, before := .none }
  let s1 := setCyc s
    (if st = .guard then { cyc with burst := .tumble, burstTimer := s.csq.desc.guardTumble } else cyc)
  let s2 := if st = .heat then clearWindow s1 else s1
  let s3 := if st.heats then fullDuties (clearFaultCount s2) else s2
  requestRecord (setCycle s3 st) .phase .none

/-- CANCEL taken (R17). -/
def takeCancel (s : State) : State :=
  enterDone (setReasons s fun r => { r with cancelled := true }) .cancelled

/-- RESET taken: the END record of an active cycle is requested with end reason HOST_RESET (R26), but in PLANNING
none is (R148), and the reset-pending mark is set (R190). -/
def takeReset (s : State) : State :=
  let s1 :=
    if s.csq.cyc.phase.active && s.csq.state != .planning then
      requestRecord (s.setCsq { s.csq with endReason := .hostReset, endAwaited := true }) .finish .hostReset
    else s
  s1.setPnl { s1.pnl with resetPending := true }

/-! ## Reports from the neighbours -/

/-- The dry-point report (R9): it has no effect outside HEAT. -/
def dryReport (s : State) (tDry ext : Nat) : State :=
  if s.csq.state = .heat && !s.pnl.resetPending then
    let s1 := setCyc s { s.csq.cyc with tDry := tDry, extTotal := ext, extDone := 0 }
    if 0 < ext then enterExtend s1 else enterCool s1
  else s

/-- The report of AIRFLOW_FAULT (R11). -/
def airflowFaultReport (s : State) : State :=
  if s.pnl.resetPending then s
  else
    let s1 := raiseFault (setReasons s fun r => { r with airflowFault := true })
    if s1.csq.state.heats then enterCool s1 else s1

/-- The door opens (R14, R15). -/
def doorCycle (s : State) : State :=
  if s.pnl.resetPending then s
  else
    match s.csq.state with
    | .heat | .extend | .cool => enterPaused s
    | .guard => enterDone (setReasons s fun r => { r with doorEnd := true }) .doorEnd
    | _ => s

/-- The mains-back note is cleared (R20). -/
def clearNote (s : State) : State := s.setCsq { s.csq with mainsBack := false }

/-- What the loss warning makes of the cycle state (R19). A LOSS that requests no record is left at once (R20). -/
def lossMove (s : State) : State :=
  match s.csq.state with
  | .heat | .extend | .cool | .guard | .paused => requestRecord (setCycle s .loss) .loss .none
  | .idle | .done | .abandoned | .planReady => recordDone (setCycle s .loss)
  | .config | .planning | .holdoverWait | .loss => s

/-- The loss warning reaches the sequencer: it clears the mains-back note in every state (R20), and moves the cycle
state unless a reset is pending (R26). -/
def lossCycle (s : State) : State :=
  if s.pnl.resetPending then clearNote s else lossMove (clearNote s)

/-! ## Executing a plan (R24) -/

/-- Execution into HEAT. -/
def executeHeat (s : State) : State :=
  let s1 := setCyc s { s.csq.cyc with phase := .heat, before := .none, phaseElapsed := 0 }
  setCycle (fullDuties (clearFaultCount (setClass (clearWindow s1) 1))) .heat

/-- The new extension as it is applied to the Cycle Record. -/
def withExtension (c : CycleRecord) (newExt : Nat) : CycleRecord :=
  { c with extTotal := newExt, extDone := 0 }

/-- Execution into EXTEND. -/
def executeExtend (s : State) (newExt : Nat) : State :=
  let s1 := setCyc s
    { withExtension s.csq.cyc newExt with phase := .extend, before := .none, phaseElapsed := 0 }
  setCycle (fullDuties (clearFaultCount (setClass s1 0))) .extend

/-- Execution into COOL. -/
def executeCool (s : State) : State :=
  let s1 := setCyc s { s.csq.cyc with phase := .cool, before := .none, phaseElapsed := 0 }
  setCycle (setClass s1 2) .cool

/-- Execution into GUARD, beginning with the shake-out. -/
def executeGuard (s : State) (newGuard : Nat) : State :=
  let s1 := setCyc s
    { s.csq.cyc with phase := .guard, before := .none, phaseElapsed := 0, guardRemaining := newGuard,
                     burst := .tumble, burstTimer := 2 * s.csq.desc.guardTumble }
  setCycle (setClass s1 2) .guard

/-- The amounts and the class for the remembered phase of a paused cycle. -/
def applyRemembered (s : State) (p : Plan) : State :=
  match s.csq.cyc.before with
  | .heat => setClass s 1
  | .extend => setClass (setCyc s (withExtension s.csq.cyc p.newExt)) 0
  | .guard => setClass (setCyc s { s.csq.cyc with guardRemaining := p.newGuard }) 2
  | _ => setClass s 2

/-- Execution into PAUSED, with phase_before_pause as loaded. -/
def executePaused (s : State) (p : Plan) : State :=
  let s1 := applyRemembered s p
  setCycle (setCyc s1 { s1.csq.cyc with phase := .paused }) .paused

/-- The plan ends the cycle at its execution: a guard resumed with nothing left (R24). -/
def planEnds (s : State) (p : Plan) : Bool :=
  p.newGuard = 0 &&
    (p.outcome = .resumeGuard || p.outcome = .resumePaused && s.csq.cyc.before = .guard)

/-- The sequencer executes a plan (R24): the holdover flags are cleared, the named state is entered and a
RESUME record is requested. A guard with nothing left goes on to DONE with COMPLETE (log entry 25). -/
def executePlan (s : State) (p : Plan) : State :=
  let s1 := orderClear s
  if planEnds s1 p then
    enterDone (requestRecord (setClass s1 2) .resume .none) .complete
  else
    let s2 :=
      match p.outcome with
      | .resumeHeat => executeHeat s1
      | .resumeExtend => executeExtend s1 p.newExt
      | .resumeCool => executeCool s1
      | .resumeGuard => executeGuard s1 p.newGuard
      | .resumePaused => executePaused s1 p
      | .none | .endedDoor | .abandonedWindow | .abandonedClock => s1
    requestRecord s2 .resume .none

end Sys2Proof.Machine
end

