-- ==== Sys2Proof/Machine/Feeder.lean ====
section
/-! DEFINITION. The Feeder Share Unit (R166 to R182): handing notices to the port (R154, R173), steps and their
announcement, release and confirmation, shedding and granting, isolation; and `finish`, which settles the
Output Stage's stages and the unit after every event that may have changed the want (R65, R71, R167 to R178). -/

namespace Sys2Proof.Machine

/-! ## Handing a notice -/

/-- The transmitter takes a notice into its slot (R154). -/
def takeNotice (p : Port) (n : Notice) : Port :=
  match p.tx with
  | .empty => { p with slot := some n, attempts := 0, tx := .pending }
  | .pending | .backoff => { p with slot := some n }
  | .sending => { p with slot := some n, newer := true }

/-- The notice that the unit composes (R173). The steps pending at the handing are those it announces (R168). -/
def composeNotice (s : State) (farewell : Bool) : Notice :=
  { farewell := farewell, id := s.scv.stationId, held := if farewell then 0 else held s,
    want := if farewell then 0 else s.fsu.want, key := claimKey s, budget := s.settings.budget,
    phase := if farewell then 0 else cycleCode s.csq.state, resume := !farewell && s.fsu.cls ≤ 1,
    annStart := s.fsu.start = .pending, annStage1 := s.fsu.stage1 = .pending,
    annStage2 := s.fsu.stage2 = .pending }

/-- The unit hands a notice: the notice timer is started anew, or stopped with a FAREWELL (R173), and the port
takes the notice or discards it (R154). -/
def handNotice (s : State) (farewell : Bool) : State :=
  if mayHand s then
    let timer := if farewell then none else some (1000000 + jitterDraw s.plp.lfsr)
    let s1 := s.setFsu { s.fsu with notice := timer, key := claimKey s }
    if portTakes s then s1.setPlp (takeNotice s1.plp (composeNotice s farewell)) else s1
  else s

/-- Held and want are both 0. -/
def Feeder.silent (s : State) : Bool := held s = 0 && s.fsu.want = 0

/-! ## Steps -/

/-- Give a step a state. -/
def setStep (s : State) (k : CoverStep) (x : StepState) : State :=
  match k with
  | .start => s.setFsu { s.fsu with start := x }
  | .stage1 => s.setFsu { s.fsu with stage1 := x }
  | .stage2 => s.setFsu { s.fsu with stage2 := x }

/-- A notice no longer announces a step that has ceased to be pending. -/
def Notice.unmark (n : Notice) : CoverStep → Notice
  | .start => { n with annStart := false }
  | .stage1 => { n with annStage1 := false }
  | .stage2 => { n with annStage2 := false }

/-- The step leaves the notices that would have announced it. -/
def unmarkStep (s : State) (k : CoverStep) : State :=
  s.setPlp { s.plp with slot := s.plp.slot.map (·.unmark k), line := s.plp.line.map (·.unmark k) }

/-- A FIRING stage is to leave at the next zero crossing (R65). -/
def Stage.mustLeave (x : Stage) : Stage := { x with leaves := x.leaves || x.state = .firing }

/-- The stage of a heater step takes the reason NOT_HELD at once (R71). -/
def loseHold (s : State) : CoverStep → State
  | .start => s
  | .stage1 => s.setOst { s.ost with stage1 := s.ost.stage1.mustLeave }
  | .stage2 => s.setOst { s.ost with stage2 := s.ost.stage2.mustLeave }

/-- A step is given up: a pending one leaves held at once (R168), one in the cover goes under release (R169). -/
def giveUp (s : State) (k : CoverStep) : State :=
  match stepOf s.fsu k with
  | .pending => unmarkStep (setStep s k .free) k
  | .cover => loseHold (setStep s k .release) k
  | _ => s

/-- A step that has ceased to be wanted is given up (R168, R169). -/
def dropUnwanted (s : State) (k : CoverStep) : State := if wanted s k then s else giveUp s k

/-- The load of a step has stopped drawing, so that its release may be confirmed (R71): at once when the mains
state is other than PRESENT, a stage that does not conduct, a motor outside its start window. -/
def drawsNothing (s : State) : CoverStep → Bool
  | .start => s.mwt.state != .present || s.ost.motor != .starting
  | .stage1 => s.mwt.state != .present || !s.ost.stage1.on
  | .stage2 => s.mwt.state != .present || !s.ost.stage2.on

/-- The Output Stage confirms a release (R71), and the step is free (R169): no notice handed before announces a
later grant of it (R168). -/
def confirmStep (s : State) (k : CoverStep) : State :=
  if stepOf s.fsu k = .release && drawsNothing s k then unmarkStep (setStep s k .free) k else s

/-- Confirm every release that can be. -/
def confirmAll (s : State) : State := confirmStep (confirmStep (confirmStep s .start) .stage1) .stage2

/-- Give up every step that is no longer wanted. -/
def dropAll (s : State) : State := dropUnwanted (dropUnwanted (dropUnwanted s .start) .stage1) .stage2

/-- A pending step joins the cover (R168, R70). -/
def coverIf (s : State) (announced : Bool) (k : CoverStep) : State :=
  if announced && stepOf s.fsu k = .pending then setStep s k .cover else s

/-- Every pending step joins the cover. -/
def coverPending (s : State) : State :=
  coverIf (coverIf (coverIf s true .start) true .stage1) true .stage2

/-! ## Want, class, evaluation -/

/-- The settle window (R175). -/
def settleUs : Nat := 2500000

/-- The listen-in time (R179, R180). -/
def listenInUs : Nat := 3000000

/-- The unit takes the present want (R167): a rise starts the settle window anew, a fall to held or below
stops it (R175). The want has risen where a step is wanted that was not, though another's end lowers the sum. -/
def takeWant (s : State) : State :=
  let w := wantUnits s
  let settle :=
    if s.fsu.wants.rises (wantsNow s) || s.fsu.want < w then some settleUs
    else if w < s.fsu.want && w ≤ held s then none
    else s.fsu.settle
  s.setFsu { s.fsu with want := w, wants := wantsNow s, settle := settle }

/-- The want has changed between two states (R173, R175). -/
def wantChanged (f g : Feeder) : Bool := f.want ≠ g.want || f.wants ≠ g.wants

/-- The moment of a full grant (R170): every wanted step is in the cover while the heater want is above 0. -/
def fullGrant (s : State) : Bool :=
  0 < heaterWant s && (!wanted s .start || s.fsu.start = .cover)
    && (!wanted s .stage1 || s.fsu.stage1 = .cover) && (!wanted s .stage2 || s.fsu.stage2 = .cover)

/-- At a full grant the class becomes 2 (R170). -/
def settleClass (s : State) : State := if fullGrant s then setClass s 2 else s

/-- What every evaluation forms: the key, the effective budget and BUDGET_MISMATCH, whose setting raises the
fault event (R170, R175, R178). -/
def formEvaluation (s : State) : State :=
  let m := budgetMismatch s
  let s1 := s.setFsu { s.fsu with key := claimKey s, effective := effectiveBudget s, mismatch := m }
  if m && !s.fsu.mismatch then raiseFault s1 else s1

/-- A step that the shedding test may take: pending or in the cover (R177). -/
def sheddable (s : State) (k : CoverStep) : Bool :=
  stepOf s.fsu k = .pending || stepOf s.fsu k = .cover

/-- The own key is at or above the key of every live peer whose held is above 0 (R177). -/
def largestKey (key : Nat) (ps : List Peer) : Bool := ps.all fun p => p.held = 0 || p.key ≤ key

/-- An overrun stands (R177). -/
def overrun (s : State) : Bool := s.fsu.effective < heldKept s + committed s.fsu.peers

/-- Shed one step (R177). -/
def shedStep (s : State) (k : CoverStep) : State :=
  if overrun s && sheddable s k && 0 < worth s k then
    let s1 := giveUp s k
    s1.setFsu { s1.fsu with sheds := satInc 255 s1.fsu.sheds }
  else s

/-- The shedding test: STAGE2, then STAGE1, as far as the overrun needs (R177). -/
def shedTest (s : State) : State :=
  if largestKey s.fsu.key s.fsu.peers then shedStep (shedStep s .stage2) .stage1 else s

/-- The room of the grant test (R176); `none` when it is below 0. -/
def room (s : State) : Option Nat :=
  let used := committed s.fsu.peers + ahead s.fsu.key s.fsu.peers + held s
  if used ≤ s.fsu.effective then some (s.fsu.effective - used) else none

/-- The steps that the grant test considers, in its order (R176). -/
def freeWanted (s : State) : List CoverStep :=
  [CoverStep.start, .stage1, .stage2].filter fun k => wanted s k && stepOf s.fsu k = .free

/-- Grant steps in order while they fit the room, stopping at the first that does not (R176). -/
def grantSteps (s : State) (x : StepState) : Nat → List CoverStep → State
  | _, [] => s
  | r, k :: rest =>
    if worth s k ≤ r then grantSteps (setStep s k x) x (r - worth s k) rest else s

/-- The grant test, in READY (R176). A granted step is pending, or in the cover at once while ISOLATED is set
(R168). -/
def grantTest (s : State) : State :=
  if unitState s = .ready then
    match room s with
    | some r => grantSteps s (if s.fsu.isolated.isSome then .cover else .pending) r (freeWanted s)
    | none => s
  else s

/-- The tests of an evaluation, outside LISTEN_IN and with no loss warning outstanding (R175). -/
def applyTests (s : State) : State :=
  if listening s || s.mwt.warning then s else grantTest (shedTest s)

/-- A grant has happened between two states: some free step is no longer free. -/
def granted (f g : Feeder) : Bool :=
  (f.start = .free && g.start != .free) || (f.stage1 = .free && g.stage1 != .free)
    || (f.stage2 = .free && g.stage2 != .free)

/-- A step in the cover or under release. -/
def StepState.covered (x : StepState) : Bool := x = .cover || x = .release

/-- A release has been confirmed between two states. -/
def confirmed (f g : Feeder) : Bool :=
  (f.start.covered && g.start = .free) || (f.stage1.covered && g.stage1 = .free)
    || (f.stage2.covered && g.stage2 = .free)

/-- The notice timer does not run (R173). -/
def stopNotice (s : State) : State := s.setFsu { s.fsu with notice := none }

/-- The notice that a change of held or want calls for (R168, R169, R173): a FAREWELL when both have become 0,
a HEAT at any other change and at a grant. While both are 0 the notice timer does not run, whether or not the
FAREWELL may be handed. -/
def announce (s0 : State) (g : Bool) (s : State) : State :=
  if Feeder.silent s then stopNotice (if Feeder.silent s0 then s else handNotice s true)
  else if held s ≠ held s0 || wantChanged s0.fsu s.fsu || g then handNotice s false
  else s

/-! ## Isolation -/

/-- ISOLATED is set with a cause (R179); NO_ID is never replaced, and while ISOLATED is set another cause only
takes the place of the present one. -/
def isolate (s : State) (c : IsoCause) : State :=
  match s.fsu.isolated with
  | some .noId => s
  | some _ => s.setFsu { s.fsu with isolated := some c }
  | none => raiseLine (coverPending (s.setFsu { s.fsu with isolated := some c }))

/-! ## Settling the outputs -/

/-- A stage leaves OFF as soon as it is asked for, and HELD_OFF as soon as it is not (R65). -/
def syncStage (asked : Bool) (x : Stage) : Stage :=
  match x.state with
  | .off => if asked then { x with state := .heldOff } else x
  | .heldOff => if asked then x else { x with state := .off }
  | .firing => x

/-- A stage follows what it is asked: a FIRING one that is no longer asked for, or for which a reason stands, is to
leave at the next crossing (R65, R66). -/
def followStage (s : State) (k : Nat) (step : StepState) (x : Stage) : Stage :=
  let y := syncStage (askedFor s k) x
  if !askedFor s k || (holdOff s step).any then y.mustLeave else y

/-- The run relay is to be opened at the next crossing while the motor turns against a STOP request or an open
door (R76); the stages follow what they are asked (R65). -/
def syncOutputs (s : State) : State :=
  let stop := s.ost.motor != .stopped && (!motorRun s || s.ost.doorOpen)
  s.setOst { s.ost with stopDue := s.ost.stopDue || stop,
                        stage1 := followStage s 1 s.fsu.stage1 s.ost.stage1,
                        stage2 := followStage s 2 s.fsu.stage2 s.ost.stage2 }

/-! ## After every event -/

/-- The own entry follows the want: unwanted steps are given up, releases confirmed, the want taken, the class
settled (R167 to R170, R175). -/
def settleEntry (s : State) : State := settleClass (takeWant (confirmAll (dropAll (syncOutputs s))))

/-- The unit evaluates (R175): at the events that call for it (`ev`), at a change of want, class, rem_s or
ISOLATED, and at a release confirmation. -/
def evaluates (ev : Bool) (s0 before after : State) : Bool :=
  ev || wantChanged s0.fsu after.fsu || after.fsu.cls ≠ s0.fsu.cls
    || remSeconds after ≠ remSeconds s0 || after.fsu.isolated ≠ s0.fsu.isolated
    || confirmed before.fsu after.fsu || confirmed s0.fsu after.fsu

/-- One evaluation (R175): the key and budget, then shedding and granting. A shed step may be confirmed at once
(R71), and a full grant reached (R170). -/
def evaluateOnce (s : State) : State := settleClass (confirmAll (applyTests (formEvaluation s)))

/-- An evaluation has brought about a release confirmation or a change of class, each of which calls for another
(R175). -/
def evaluatesAgain (s t : State) : Bool := confirmed s.fsu t.fsu || t.fsu.cls ≠ s.fsu.cls

/-- The evaluations of one event, each on the own entry as the one before left it (R175). Shedding frees each of two
steps at most once, a class becomes 2 at most once, and no grant brings an overrun about, so that four suffice. -/
def evaluateTimes : Nat → State → State
  | 0, s => formEvaluation s
  | n + 1, s => if evaluatesAgain s (evaluateOnce s) then evaluateTimes n (evaluateOnce s) else evaluateOnce s

/-- The evaluations of one event (R175). -/
def evaluate (s : State) : State := evaluateTimes 4 s

/-- What follows every event of the main domain: from the state before it and the state it made, the outputs,
the own entry, the evaluation, and the notice that they call for. -/
def finish (ev : Bool) (s0 s : State) : State :=
  let s1 := settleEntry s
  let s2 := if evaluates ev s0 s s1 then evaluate s1 else s1
  announce s0 (granted s1.fsu s2.fsu) s2

end Sys2Proof.Machine
end

