-- ==== Sys2Proof/Machine/Output.lean ====
section
/-! DEFINITION. The Output Stage (R64 to R83): what a zero crossing does to the modulation, the stages and the
motor, the start window and the coast timer, the door, the airflow count, and the dropping of the loads. -/

namespace Sys2Proof.Machine

/-- The start window (R74). -/
def startWindowUs : Nat := 3000000

/-- The coast time (R74). -/
def coastUs : Nat := 2000000

/-! ## Modulation (R64, R66 to R68) -/

/-- The regulation applies: heating, with EXH and the reference sound (R68). -/
def regulates (s : State) : Bool :=
  s.csq.state.heats && s.scv.exhFault = .none && !s.scv.refFault

/-- One step taken away (R68): from stage 2 while it has any, otherwise from stage 1. -/
def takeDuty (two : Bool) (step : Nat) (d : Nat × Nat) : Nat × Nat :=
  if two && 0 < d.2 then (d.1, d.2 - step) else (d.1 - step, d.2)

/-- One step given back (R68): to stage 1 while it is below the modulus, otherwise to stage 2. -/
def giveDuty (two : Bool) (modulus step : Nat) (d : Nat × Nat) : Nat × Nat :=
  if d.1 < modulus then (min modulus (d.1 + step), d.2)
  else if two then (d.1, min modulus (d.2 + step)) else d

/-- The regulation of the pending duties at a period boundary (R68). -/
def regulate (s : State) (d : Nat × Nat) : Nat × Nat :=
  if regulates s then
    let two := s.csq.desc.stages = 2
    let step := s.settings.modulus / 8
    if s.csq.desc.exhLimit ≤ s.dwn.exh then takeDuty two step d
    else if s.dwn.exh + 10 ≤ s.csq.desc.exhLimit then giveDuty two s.settings.modulus step d
    else d
  else d

/-- The modulation advances: the mains state is PRESENT and SETUP has been taken (R64). -/
def modulates (s : State) : Bool := s.mwt.state = .present && s.pnl.setupDone

/-- The position that an advancing crossing begins (R64). -/
def nextPosition (s : State) : Nat :=
  if s.ost.positioned && s.ost.position + 1 < s.settings.modulus then s.ost.position + 1 else 0

/-- The crossing is a period boundary: it begins position 0 (R64). -/
def atBoundary (s : State) : Bool := modulates s && nextPosition s = 0

/-- At a period boundary the active duties are loaded and the pending duties regulated (R67, R68). -/
def loadDuties (s : State) : State :=
  let d := regulate s (s.ost.stage1.pending, s.ost.stage2.pending)
  s.setOst { s.ost with
    stage1 := { s.ost.stage1 with active := s.ost.stage1.pending, pending := d.1 },
    stage2 := { s.ost.stage2 with active := s.ost.stage2.pending, pending := d.2 } }

/-- The position moves, and a boundary loads the duties. -/
def advancePosition (s : State) : State :=
  if modulates s then
    let s1 := if nextPosition s = 0 then loadDuties s else s
    s1.setOst { s1.ost with position := nextPosition s, positioned := true }
  else s

/-- The state of a stage after a crossing (R65): into FIRING at a boundary alone; out of it when a reason stands or
has arisen since the previous crossing, or the stage is not asked for or has ceased to be since. A boundary at which
no reason stands takes a stage that is to leave back into FIRING (R70, log entry 43). -/
def movedState (s : State) (k : Nat) (step : StepState) (boundary : Bool) (x : Stage) : StageState :=
  if !askedFor s k then .off
  else if (holdOff s step).any then .heldOff
  else if boundary then .firing
  else if x.leaves then .heldOff
  else x.state

/-- The move of a stage at a crossing (R65, R66). -/
def moveStage (s : State) (k : Nat) (step : StepState) (boundary : Bool) (x : Stage) : Stage :=
  { x with state := movedState s k step boundary x, leaves := false }

/-- Stage 1 conducts at the start of the period, stage 2 at its end (R66). -/
def conducts (s : State) : Bool × Bool :=
  (modulates s && s.ost.stage1.state = .firing && s.ost.position < s.ost.stage1.active,
   modulates s && s.ost.stage2.state = .firing
     && s.settings.modulus ≤ s.ost.position + s.ost.stage2.active)

/-- The conduction of the half-cycle that the crossing begins; a heated half-cycle sets the fired mark (R66). -/
def setConduction (s : State) : State :=
  let c := conducts s
  let s1 := s.setOst { s.ost with stage1 := { s.ost.stage1 with on := c.1 },
                                  stage2 := { s.ost.stage2 with on := c.2 } }
  s1.setCsq { s1.csq with fired := s1.csq.fired || c.1 || c.2 }

/-- The stages at a crossing: moves first, then conduction (R66). -/
def crossStages (s : State) (boundary : Bool) : State :=
  setConduction (s.setOst
    { s.ost with stage1 := moveStage s 1 s.fsu.stage1 boundary s.ost.stage1,
                 stage2 := moveStage s 2 s.fsu.stage2 boundary s.ost.stage2 })

/-! ## The motor (R74 to R77) -/

/-- The motor leaves for STOPPED: the start window ends, and the airflow supervision begins afresh (R75, R76,
R79). -/
def Output.stopMotor (o : Output) : Output :=
  { o with motor := .stopped, startWindow := none, stopDue := false, lowRun := 0, goodRun := 0,
           airHold := false, airJudge := false }

/-- The run relay opens; the coast timer starts if it was closed (R74). -/
def Output.openRelay (o : Output) : Output :=
  if o.runRelay then { o with runRelay := false, coast := some coastUs } else o

/-- The motor is to be stopped at this crossing: the stop is due (R76), or START is under release while it is
STARTING (R71). -/
def motorStops (s : State) : Bool :=
  s.ost.motor != .stopped &&
    (s.ost.stopDue || s.ost.motor = .starting && s.fsu.start = .release)

/-- The units held for an interrupted start go through the confirmation of START (R75). -/
def releaseStart (s : State) : State :=
  if s.ost.motor = .starting && s.fsu.start = .cover then setStep s .start .release else s

/-- The motor stops at a crossing (R71, R76). -/
def crossMotorStop (s : State) : State :=
  if motorStops s then
    let s1 := releaseStart s
    s1.setOst s1.ost.stopMotor.openRelay
  else s

/-- Every condition of a motor start holds (R74). -/
def motorStarts (s : State) : Bool :=
  s.ost.motor = .stopped && motorRun s && !s.ost.doorOpen && s.mwt.state = .present
    && s.ost.coast.isNone && !s.ost.runRelay
    && (s.fsu.start = .cover || s.settings.startUnits = 0)

/-- The drum direction of a start (R77). -/
def startDirection (s : State) : Bool :=
  if s.csq.state = .guard && s.settings.reverseFitted then !s.ost.reverse else false

/-- The motor starts at a crossing (R74). -/
def crossMotorStart (s : State) : State :=
  if motorStarts s then
    s.setOst { s.ost with reverse := startDirection s, runRelay := true, motor := .starting,
                          startWindow := some startWindowUs }
  else s

/-- The relays that a RAIL warning left closed open, and the drop timer ends (R81). -/
def Output.drop (o : Output) : Output :=
  { o.openRelay with stage1 := { o.stage1 with on := false }, stage2 := { o.stage2 with on := false },
                     dropTimer := none }

/-- A zero crossing, reported by the Mains Watch with its state as settled (R85). -/
def crossing (s : State) : State :=
  let s1 := if s.ost.dropTimer.isSome then s.setOst s.ost.drop else s
  let boundary := atBoundary s1
  crossMotorStart (crossStages (crossMotorStop (advancePosition s1)) boundary)

/-! ## Timers -/

/-- The start window runs out: the motor enters RUNNING (R75), unless an early end has come first. -/
def startWindowEnd (s : State) : State :=
  if s.ost.motor = .starting && !s.ost.stopDue && s.fsu.start != .release then
    s.setOst { s.ost with motor := .running, startWindow := none }
  else s

/-- The coast timer runs out (R74). -/
def coastEnd (s : State) : State := s.setOst { s.ost with coast := none }

/-- No crossing came within one nominal half-period of a RAIL warning (R81). -/
def railDropEnd (s : State) : State :=
  if s.ost.dropTimer.isSome then s.setOst s.ost.drop else s

/-! ## Loss of mains (R81) -/

/-- A stage as the loss warning leaves it: out of FIRING at once, with no active duty. -/
def Stage.lose (x : Stage) (opens : Bool) : Stage :=
  { x with state := if x.state = .firing then .heldOff else x.state, leaves := false, active := 0,
           on := x.on && !opens }

/-- The loss warning drops every load: at once for CROSSING (`opens`), and for RAIL at the next crossing or at
the end of one nominal half-period (R81). The coast timer starts with the motor's stop, and again when the
run relay opens (R74). -/
def Output.lose (o : Output) (opens : Bool) (half : Nat) : Output :=
  let o1 := { (if o.motor = .stopped then o else { o.stopMotor with coast := some coastUs }) with
    position := 0, positioned := false, stage1 := o.stage1.lose opens, stage2 := o.stage2.lose opens }
  if opens then { o1.openRelay with dropTimer := none }
  else if o1.runRelay || o1.stage1.on || o1.stage2.on then { o1 with dropTimer := some half }
  else o1

/-! ## Door and airflow -/

/-- The door state becomes OPEN (R78). -/
def doorOpens (s : State) : State := doorCycle (s.setOst { s.ost with doorOpen := true })

/-- The door state becomes CLOSED (R78). -/
def doorCloses (s : State) : State := s.setOst { s.ost with doorOpen := false }

/-- A pulse of the airflow vane (R79). -/
def airflowCount (s : State) : State := s.setOst { s.ost with airCount := s.ost.airCount + 1 }

/-- The airflow runs and the hold after a judged second (R79). -/
def Output.judgeAir (o : Output) (airflowMin : Nat) : Output :=
  if o.airCount < airflowMin then
    let low := satInc 5 o.lowRun
    { o with airLast := o.airCount, lowRun := low, goodRun := 0, airHold := o.airHold || low = 5 }
  else
    let good := satInc 5 o.goodRun
    { o with airLast := o.airCount, goodRun := good, lowRun := 0, airHold := o.airHold && good != 5 }

/-- The Output Stage takes an expiry of the sequencer second (R79): the second is judged if the motor has
been RUNNING through it, and the count begins anew. -/
def airSecond (s : State) : State :=
  let o := if s.ost.airJudge then s.ost.judgeAir s.settings.airflowMin else s.ost
  s.setOst { o with airCount := 0, airJudge := o.motor = .running }

/-- The cumulative hold count rises at this expiry (R80). -/
def holdCounts (s : State) : Bool := s.csq.state.heats && s.ost.airHold

/-- The count reaches 600 at this expiry with the latch ARMED, so that AIRFLOW_FAULT is reported (R80). -/
def holdReports (s : State) : Bool := holdCounts s && 599 ≤ s.ost.cumHold && !s.ost.airReported

/-- The Output Stage takes the expiry: the cumulative hold count rises, and the latch goes to REPORTED with the
report (R80). -/
def holdCount (s : State) : State :=
  if holdCounts s then
    s.setOst { s.ost with cumHold := satInc 600 s.ost.cumHold, airReported := s.ost.airReported || holdReports s }
  else s

/-- The report reaches the sequencer (R80, R11). -/
def holdReport (due : Bool) (s : State) : State := if due then airflowFaultReport s else s

/-- The cumulative hold count with its report at once (R80). -/
def holdSecond (s : State) : State := holdReport (holdReports s) (holdCount s)

end Sys2Proof.Machine
end

