-- ==== Sys2Proof/Machine/Mains.lean ====
section
/-! DEFINITION. The Mains Watch (R84 to R95): edges, classification, the loss warning and what each consumer does
on it (R39, R81, R111, R163, R181), and the return. -/

namespace Sys2Proof.Machine

/-- The blanking interval (R85). -/
def blankingUs : Nat := 3000

/-- The missing-crossing limit in MEASURING and LINE_FAULT (R86, R87). -/
def blockLimitUs : Nat := 16500

/-! ## The loss warning -/

/-- The converter abandons the measurement in progress and begins its pair again (R39). DESIGN CHOICE: of a discarded count
the number stays, marked invalid (log entry 52). -/
def Converter.abandon (c : Converter) : Converter :=
  { c with meas := if c.strapDone then .ref else .strapRef, refValid := false, gateTimer := 0,
           periodTimer := 0 }

/-- The port releases the line and empties its slot (R163). -/
def Port.lose (p : Port) : Port :=
  { p with tx := .empty, slot := none, newer := false, attempts := 0, backoff := none, stuckTimer := 0,
           drives := false, sent := 0 }

/-- A step at the loss warning: pending ones leave held, and every release is confirmed at once (R181, R71). -/
def Feeder.lose (f : Feeder) : Feeder :=
  { f with start := .free, stage1 := .free, stage2 := .free, settle := none, listenIn := none,
           notice := none }

/-- The loss warning is raised to every consumer (R90): `opens` when its cause is CROSSING. -/
def raiseWarning (s : State) (opens : Bool) : State :=
  let s1 := s.setMwt { s.mwt with warning := true }
  let s2 := s1.setOst (s1.ost.lose opens (nominalHalf s1.mwt.cls))
  let s3 := s2.setScv s2.scv.abandon
  let s4 := s3.setPlp s3.plp.lose
  let s5 := s4.setFsu s4.fsu.lose
  lossCycle (journalLoss s5)

/-- Enter LOSS_WARNING; the warning is raised if it is not outstanding (R88, R89). Leaving PRESENT always
finds the flag clear, since *mains back* cleared it. -/
def enterLossWarning (s : State) (opens : Bool) : State :=
  let s1 := s.setMwt { s.mwt with state := .lossWarning }
  if s1.mwt.warning then s1 else raiseWarning s1 opens

/-- A rail trip in RETURNING clears the return count and the return crossing count (R92). -/
def Mains.tripCounts (m : Mains) : Mains :=
  if m.state = .returning then { m with returnCount := 0, returnCrossings := 0 } else m

/-- The rail input is at its trip level (R89): the state becomes TRIPPED at once, or the 20 ms start again. -/
def railTripped (s : State) : State :=
  if s.mwt.railTripped then s.setMwt { s.mwt with railHealthy := 0 }
  else
    let s1 := s.setMwt { s.mwt.tripCounts with railTripped := true, railHealthy := 0, causeRail := true }
    if s1.mwt.state = .lossWarning then s1 else enterLossWarning s1 false

/-- The rail input has stayed healthy for 20 ms (R89). -/
def railHealthyAgain (s : State) : State :=
  if s.mwt.railTripped then s.setMwt { s.mwt with railTripped := false, railHealthy := 0 } else s

/-- The missing-crossing timer reaches its limit (R88, R86, R92). -/
def missingCrossing (s : State) : State :=
  match s.mwt.state with
  | .present =>
    enterLossWarning
      (s.setMwt { s.mwt with missing := max s.mwt.missing (missingLimit s.mwt.cls), causeCrossing := true })
      true
  | .measuring | .lineFault =>
    s.setMwt { s.mwt with missing := max s.mwt.missing blockLimitUs, blockOpen := false, blockCount := 0,
                          blockSum := 0 }
  | .returning =>
    s.setMwt { s.mwt with missing := max s.mwt.missing (missingLimit s.mwt.cls), returnCount := 0 }
  | .lossWarning => s

/-! ## The return -/

/-- *Mains back* reaches the unit: it enters LISTEN_IN, with the timer at 3 s once SETUP has been taken (R181). -/
def feederBack (s : State) : State :=
  if s.pnl.setupDone then s.setFsu { s.fsu with listenIn := some listenInUs } else s

/-- The block enters PRESENT with a class; *mains back* is reported if the warning is outstanding (R86, R92,
R93). DESIGN CHOICE: the measurement block, which the manual only says is judged, stands empty from then on (log entry
50). -/
def enterPresent (s : State) (c : LineClass) : State :=
  let s1 := s.setMwt { s.mwt with state := .present, cls := c, blockOpen := false, blockCount := 0,
                                  blockSum := 0 }
  if s1.mwt.warning then
    mainsBackCycle (feederBack (s1.setMwt
      { s1.mwt with warning := false, causeCrossing := false, causeRail := false }))
  else s1

/-- The block enters LINE_FAULT: the class becomes unknown, the crossing opens a new block, and the fault event
is raised (R87). -/
def enterLineFault (s : State) : State :=
  raiseFault (s.setMwt { s.mwt with state := .lineFault, cls := .unknown, blockOpen := true,
                                    blockCount := 0, blockSum := 0 })

/-! ## Crossings -/

/-- The class that an average half-period gives (R86). -/
def classOf (avg : Nat) : Option LineClass :=
  if 9000 ≤ avg && avg ≤ 11000 then some .hz50
  else if 7500 ≤ avg && avg ≤ 8999 then some .hz60
  else none

/-- A full block is judged (R86, R87). -/
def judgeBlock (s : State) (sum : Nat) : State :=
  match classOf (sum / 16) with
  | some c => enterPresent s c
  | none =>
    if s.mwt.state = .measuring then enterLineFault s
    else s.setMwt { s.mwt with blockOpen := true, blockCount := 0, blockSum := 0 }

/-- An accepted crossing in MEASURING or LINE_FAULT (R86, R87). -/
def blockCrossing (s : State) (interval : Nat) : State :=
  if !s.mwt.blockOpen || blockLimitUs < interval then
    s.setMwt { s.mwt with blockOpen := true, blockCount := 0, blockSum := 0 }
  else if s.mwt.blockCount + 1 < 16 then
    s.setMwt { s.mwt with blockCount := s.mwt.blockCount + 1, blockSum := s.mwt.blockSum + interval }
  else judgeBlock s (s.mwt.blockSum + interval)

/-- An accepted crossing in LOSS_WARNING (R91). -/
def lossCrossing (s : State) : State :=
  if s.mwt.railTripped then s
  else if s.mwt.cls = .unknown then
    s.setMwt { s.mwt with state := .measuring, blockOpen := true, blockCount := 0, blockSum := 0 }
  else s.setMwt { s.mwt with state := .returning, returnCount := 0, returnCrossings := 0 }

/-- An accepted crossing in RETURNING (R92). -/
def returnCrossing (s : State) (interval : Nat) : State :=
  let count := if inBand s.mwt.cls interval then s.mwt.returnCount + 1 else 0
  let s1 := s.setMwt { s.mwt with returnCount := count, returnCrossings := s.mwt.returnCrossings + 1 }
  if count = 8 then enterPresent s1 s.mwt.cls
  else if s1.mwt.returnCrossings = 64 then enterLineFault s1
  else s1

/-- The time since the previous accepted crossing, at an edge `us` after the timer was last counted. -/
def edgeInterval (s : State) (us : Nat) : Nat := s.mwt.missing + us

/-- The edge is rejected as noise (R85). -/
def edgeRejected (s : State) (us : Nat) : Bool := s.mwt.seenEdge && edgeInterval s us ≤ blankingUs

/-- A rejected edge (R85): the counter rises, and the timer runs on. -/
def rejectEdge (s : State) (us : Nat) : State :=
  s.setMwt { s.mwt with rejected := satInc 255 s.mwt.rejected, missing := edgeInterval s us }

/-- The Mains Watch records an accepted edge (R85): the first one measures no half-period. -/
def acceptEdge (s : State) (us : Nat) : State :=
  s.setMwt { s.mwt with
    lastHalf := if s.mwt.seenEdge then min (edgeInterval s us) 65535 else s.mwt.lastHalf,
    seenEdge := true, missing := 0 }

/-- The Mains Watch settles its own state for an accepted crossing (R86 to R92). -/
def settleCrossing (s : State) (interval : Nat) : State :=
  match s.mwt.state with
  | .measuring | .lineFault => blockCrossing s interval
  | .present => s
  | .lossWarning => lossCrossing s
  | .returning => returnCrossing s interval

/-- The Mains Watch after an accepted edge, with its own state settled. -/
def mainsEdge (s : State) (us : Nat) : State := settleCrossing (acceptEdge s us) (edgeInterval s us)

/-- An edge on the zero-cross input (R85): rejected, or accepted, settled and reported to the Output Stage. -/
def edge (s : State) (us : Nat) : State :=
  if edgeRejected s us then rejectEdge s us else crossing (mainsEdge s us)

end Sys2Proof.Machine
end

