-- ==== Sys2Proof/Machine/Planner.lean ====
section
/-! DEFINITION. The Resume Planner (R132 to R150): the source, the flags, the outcome and the amounts of a plan, its
delivery to the sequencer (R22, R144), the window (R145), and the remaking at FORCE_RESUME (R147). -/

namespace Sys2Proof.Machine

/-! ## The source (R135) -/

/-- The source record of a plan made now, by the path of entry. -/
def planSource (s : State) : Option Record :=
  match s.pjr.newest with
  | none => none
  | some r =>
    if s.rpl.plan.blink then
      if s.csq.cyc.phase.active && r.kind != .finish && r.cyc.cycleId = s.csq.cyc.cycleId then some r
      else none
    else if s.pjr.activeFound then some r
    else none

/-- UNCLEAN (R136): the source is no LOSS record, or a blink lost a live cycle of which the journal holds
nothing. -/
def planUnclean (s : State) : Bool :=
  match planSource s with
  | some r => r.kind != .loss
  | none => s.rpl.plan.blink && s.csq.cyc.phase.active

/-! ## Amounts (R139 to R143) -/

/-- ΔT (R140): what the load has cooled, 0 when the return temperature is unknown. -/
def coolingOf (tLoss tRet : Nat) (unknown : Bool) : Nat := if unknown then 0 else tLoss - tRet

/-- The reheat (R140). -/
def reheatOf (deltaT rate : Nat) : Nat := min (deltaT * rate) 600

/-- The new extension remaining (R140). -/
def newExtension (r : Record) (reheat : Nat) : Nat :=
  min (min ((r.cyc.extTotal - r.cyc.extDone) + reheat) 1800) (r.desc.maxHeat - r.cyc.heated)

/-- The new guard remaining (R142). -/
def newGuardOf (r : Record) : Nat :=
  min (max r.cyc.guardRemaining r.desc.guardResumeMin) r.desc.guardTotal

/-- The cool-down was completed while the load sat (R141). -/
def cooledDown (r : Record) (tRet : Nat) (unknown : Bool) : Bool :=
  !unknown && tRet ≤ r.desc.coolTarget && r.desc.coolMin ≤ r.cyc.coolElapsed

/-- A plan with the outcome and the amounts of an extension (R140). -/
def Plan.withExtension (p : Plan) (o : PlanOutcome) (r : Record) (rate : Nat) : Plan :=
  let h := reheatOf p.deltaT rate
  { p with outcome := o, reheat := h, newExt := newExtension r h }

/-- Test 5 of R137 with the amounts of R139 to R143, for a source and a plan that holds its temperatures. -/
def resumeFrom (r : Record) (rate : Nat) (p : Plan) : Plan :=
  match r.cyc.phase with
  | .heat => { p with outcome := .resumeHeat }
  | .extend => p.withExtension .resumeExtend r rate
  | .cool =>
    if cooledDown r p.tRet p.tempUnknown then
      { p with outcome := .resumeGuard, newGuard := r.desc.guardTotal }
    else { p with outcome := .resumeCool }
  | .guard => { p with outcome := .resumeGuard, newGuard := newGuardOf r }
  | .paused =>
    match r.cyc.before with
    | .extend => p.withExtension .resumePaused r rate
    | .guard => { p with outcome := .resumePaused, newGuard := newGuardOf r }
    | _ => { p with outcome := .resumePaused }
  | .none | .ended => p

/-- What a plan takes from its source: the phases, the sequence number, T_loss and ΔT (R135, R140). -/
def Plan.sourced (p : Plan) (r : Record) : Plan :=
  { p with phaseAtLoss := r.cyc.phase, remembered := r.cyc.before, sourceSeq := r.sequence,
           tLoss := r.exh, deltaT := coolingOf r.exh p.tRet p.tempUnknown }

/-! ## Making a plan (R134 to R138) -/

/-- The return temperature is unknown (R134). -/
def returnUnknown (s : State) (pairValid : Bool) : Bool := !pairValid || s.scv.exhFault != .none

/-- The plan as the tests of R137 decide it. Without a source T_loss and ΔT are 0 (log entry 45), and a stamp above
the clock, which R138 excludes, gives an outage of 0 (log entry 44). -/
def decidePlan (s : State) (pairValid : Bool) : Plan :=
  let base := { Plan.reset with
    blink := s.rpl.plan.blink, unclean := planUnclean s, fallback := s.pjr.newestBad,
    tempUnknown := returnUnknown s pairValid, tRet := s.dwn.exh }
  match planSource s with
  | none => base
  | some r =>
    let p := base.sourced r
    if s.hdm.clockLost then { p with outcome := .abandonedClock }
    else
      let outage := s.hdm.clock - r.stamp
      let q := { p with outage := some outage }
      if s.settings.resumeWindow < outage then { q with outcome := .abandonedWindow }
      else if s.hdm.doorLatch then { q with outcome := .endedDoor }
      else resumeFrom r s.settings.reheatRate q

/-! ## Delivery (R144, R22) -/

/-- Set the disposition of the plan. -/
def setDisposition (s : State) (d : Disposition) : State :=
  s.setRpl { s.rpl with plan := { s.rpl.plan with disposition := d } }

/-- The sequencer loads the Cycle Descriptor and the Cycle Record from the source record (R22). -/
def loadSource (s : State) (src : Option Record) : State :=
  match src with
  | some r => s.setCsq { s.csq with desc := r.desc, cyc := r.cyc }
  | none => s

/-- The sequencer waits in PLAN_READY with a ready reason (R22). -/
def enterPlanReady (s : State) (reason : ReadyReason) : State :=
  let s1 := setCycle s .planReady
  s1.setCsq { s1.csq with ready := reason }

/-- The sequencer acts on the outcome (R22), and the disposition follows (R144). -/
def actOnPlan (s : State) : State :=
  match s.rpl.plan.outcome with
  | .none => setDisposition (setCycle (orderClear s) .idle) .executed
  | .endedDoor =>
    setDisposition
      (enterDone (setReasons (orderClear s) fun r => { r with doorEnd := true }) .doorEnd) .executed
  | .abandonedWindow | .abandonedClock => setDisposition (enterAbandoned s) .abandoned
  | .resumeHeat | .resumeExtend | .resumeCool | .resumeGuard | .resumePaused =>
    if !s.settings.autoResume then enterPlanReady s .confirm
    else if s.ost.doorOpen then enterPlanReady s .doorOpen
    else setDisposition (executePlan s s.rpl.plan) .executed

/-- The plan is delivered to the sequencer (R144), which takes it up unless a reset is pending: from a taken RESET
on the sequencer stays where it is (R26, log entry 31). -/
def deliverPlan (s : State) (src : Option Record) : State :=
  if s.pnl.resetPending then s else actOnPlan (loadSource s src)

/-- At the EXH pair that the planner waits for, the plan is made and delivered (R134, R144). -/
def makePlan (s : State) (pairValid : Bool) : State :=
  if s.rpl.state = .making then
    let p := decidePlan s pairValid
    let src := planSource s
    deliverPlan (raisePlan (s.setRpl { state := .made, plan := p, basis := src })) src
  else s

/-! ## PLAN_READY (R145, R146) -/

/-- The plan of a window that has passed (R145). -/
def Plan.expired (p : Plan) : Plan :=
  { p with outcome := .abandonedWindow, reheat := 0, newExt := 0, newGuard := 0,
           disposition := .abandoned }

/-- window_used exceeds the resume window (R138). -/
def windowPassed (s : State) (p : Plan) : Bool := s.settings.resumeWindow < p.outage.getD 0 + p.waited

/-- The expiry of the window reaches the sequencer, which enters ABANDONED (R23, R145); with a reset pending it
stays in PLAN_READY (R26). -/
def windowExpires (s : State) : State := if s.pnl.resetPending then s else enterAbandoned s

/-- The holdover clock rises in PLAN_READY (R145). Where a pending reset keeps the sequencer there after the expiry,
waited_s rises on and the plan expires no second time. -/
def waitSecond (s : State) : State :=
  if s.csq.state = .planReady then
    let p := { s.rpl.plan with waited := satInc 65535 s.rpl.plan.waited }
    if windowPassed s p && !(s.pnl.resetPending && p.disposition = .abandoned) then
      windowExpires (raisePlan (s.setRpl { s.rpl with plan := p.expired }))
    else s.setRpl { s.rpl with plan := p }
  else s

/-- CONFIRM_RESUME taken (R23, R146). -/
def takeConfirm (s : State) : State := setDisposition (executePlan s s.rpl.plan) .executed

/-- DECLINE_RESUME taken (R23, R146). -/
def takeDecline (s : State) : State := setDisposition (enterDone (orderClear s) .declined) .declined

/-! ## FORCE_RESUME (R147) -/

/-- The plan made again from the kept basis (R147). The path is that of the abandoned plan (log entry 46). -/
def remakePlan (s : State) (r : Record) : Plan :=
  let base := { Plan.reset with
    blink := s.rpl.plan.blink, unclean := s.rpl.plan.unclean, fallback := s.rpl.plan.fallback,
    tempUnknown := s.scv.exhFault != ThermFault.none || s.scv.refFault, tRet := s.dwn.exh, outage := some 0,
    disposition := .forced }
  resumeFrom r s.settings.reheatRate (base.sourced r)

/-- FORCE_RESUME taken (R25, R147). -/
def takeForce (s : State) (r : Record) : State :=
  let p := remakePlan s r
  executePlan (loadSource (raisePlan (s.setRpl { s.rpl with state := .made, plan := p })) (some r)) p

end Sys2Proof.Machine
end

