-- ==== Sys2Proof/Machine/Converter.lean ====
section
/-! DEFINITION. The Sensing Converter (R28 to R45) and the arithmetic on its results: ratios, the thermistor check
and temperature codes (R46 to R51), the collection of moisture results (R52), the high limit (R72), and the
straps (R40 to R43). -/

namespace Sys2Proof.Machine

/-! ## Arithmetic -/

/-- The reference window (R32, R41). -/
def refOk (n : Nat) : Bool := 1000 ≤ n && n ≤ 20000

/-- The frequency-mode ratio (R46). -/
def ratioOfCount (nS nRef : Nat) : Nat := min (1024 * nS / nRef) 65535

/-- The period-mode ratio (R47). -/
def ratioOfPeriod (pS nRef : Nat) : Nat := min (1024 * 20000 / (pS * nRef)) 65535

/-- The thermistor check (R48). -/
def checkRatio (w : Nat) : ThermFault := if w < 160 then .opened else if 30000 < w then .short else .none

/-- One straight segment of the breakpoint table (R49). -/
def segment (w wLo cLo wHi cHi : Nat) : Nat := cLo + (w - wLo) * (cHi - cLo) / (wHi - wLo)

/-- The temperature code of a ratio that passed the check (R49). -/
def codeOfRatio (w : Nat) : Nat :=
  if w ≤ 312 then 0
  else if w ≤ 1024 then segment w 313 0 1024 50
  else if w ≤ 1921 then segment w 1024 50 1921 80
  else if w ≤ 2844 then segment w 1921 80 2844 100
  else if w ≤ 4096 then segment w 2844 100 4096 120
  else if w ≤ 5785 then segment w 4096 120 5785 140
  else if w ≤ 8000 then segment w 5785 140 8000 160
  else if w ≤ 14422 then segment w 8000 160 14422 200
  else if w ≤ 24381 then segment w 14422 200 24381 240
  else 240

/-- The lowest and highest ratio accepted for strap level `k` (R42). -/
def strapBand (k : Nat) : Nat × Nat :=
  match k with
  | 0 => (6554, 10240)
  | 1 => (3277, 5120)
  | 2 => (1639, 2560)
  | 3 => (820, 1280)
  | 4 => (410, 640)
  | 5 => (205, 320)
  | 6 => (103, 160)
  | _ => (52, 80)

/-- The strap level of a ratio (R42). -/
def strapLevel (w : Nat) : Option Nat :=
  (List.range 8).find? fun k => (strapBand k).1 ≤ w && w ≤ (strapBand k).2

/-! ## Channels -/

/-- The channel of a pair of the round (R30). -/
def channelOf (pair : Nat) : Channel := if pair = 2 then .exh else if pair = 4 then .inl else .moist

/-- The record of a channel. -/
def Converter.record (c : Converter) : Channel → ChannelRecord
  | .moist => c.moist
  | .exh => c.exh
  | .inl => c.inl

/-- Replace the record of a channel. -/
def Converter.setRecord (c : Converter) (ch : Channel) (r : ChannelRecord) : Converter :=
  match ch with
  | .moist => { c with moist := r }
  | .exh => { c with exh := r }
  | .inl => { c with inl := r }

/-- The fault flag of a thermistor channel (R38). -/
def Converter.fault (c : Converter) : Channel → ThermFault
  | .moist => .none
  | .exh => c.exhFault
  | .inl => c.inlFault

/-- Settle the fault flag of a thermistor channel (R38); MOIST has none. -/
def Converter.setFault (c : Converter) (ch : Channel) (f : ThermFault) : Converter :=
  match ch with
  | .moist => c
  | .exh => { c with exhFault := f }
  | .inl => { c with inlFault := f }

/-- The next pair of the round begins with its reference measurement (R29, R30). -/
def Converter.nextPair (c : Converter) : Converter :=
  { c with pair := c.pair % 4 + 1, meas := .ref, refValid := false, gateTimer := 0, periodTimer := 0 }

/-! ## Delivery to the Dryness Window -/

/-- A MOIST result (R52) is collected while the motor is RUNNING; `hit`: its ratio is at or above
wet_threshold. -/
def collectMoist (s : State) (hit : Bool) : State :=
  if s.ost.motor = .running then
    s.setDwn { s.dwn with resultSeen := true, hitSeen := s.dwn.hitSeen || hit }
  else s

/-- The high-limit flag is judged against a new INL code; a trip raises the fault event (R72). -/
def judgeHighLimit (s : State) (code : Nat) : State :=
  if !s.ost.tripped && 220 ≤ code then raiseFault (s.setOst { s.ost with tripped := true })
  else if s.ost.tripped && code ≤ 180 then s.setOst { s.ost with tripped := false }
  else s

/-- A thermistor result with a ratio (R50): the code is formed only with the flag NONE. -/
def deliverTherm (s : State) (ch : Channel) (w : Nat) : State :=
  if s.scv.fault ch = .none then
    match ch with
    | .exh => s.setDwn { s.dwn with exh := codeOfRatio w }
    | .inl => judgeHighLimit (s.setDwn { s.dwn with inl := codeOfRatio w }) (codeOfRatio w)
    | .moist => s
  else s

/-- Step 3 of the delivery (R37): a ratio, or no oscillation, which is no hit of MOIST at any wet_threshold
(R36). -/
def deliver (s : State) (ch : Channel) (w : Option Nat) : State :=
  match ch, w with
  | .moist, some w => collectMoist s (s.csq.desc.wetThreshold ≤ w)
  | .moist, none => collectMoist s false
  | _, some w => deliverTherm s ch w
  | _, none => s

/-! ## The end of a sensor measurement (R37) -/

/-- The fault flag that a result gives (R38). -/
def faultOf (w : Option Nat) : ThermFault :=
  match w with
  | some w => checkRatio w
  | none => .opened

/-- Settle the fault flag, with the fault event at a change to OPEN or SHORT (R38, R44). -/
def settleFault (s : State) (ch : Channel) (f : ThermFault) : State :=
  let s1 := s.setScv (s.scv.setFault ch f)
  if ch != .moist && f != .none && f != s.scv.fault ch then raiseFault s1 else s1

/-- Step 4 (R37): the pair is complete, the planner's EXH pair makes its plan (R133, R134), and the next pair
begins. -/
def completePair (s : State) (ch : Channel) (valid : Bool) : State :=
  let s1 := s.setScv s.scv.nextPair
  if ch = .exh then makePlan s1 valid else s1

/-- The ratio that a channel record keeps: unchanged for a thermistor without oscillation, 0 for MOIST (R36,
R37). -/
def keptRatio (ch : Channel) (old : Nat) : Option Nat → Nat
  | some w => w
  | none => if ch = .moist then 0 else old

/-- A sensor measurement of a valid pair ends: record, fault flag, delivery, completion (R37). -/
def endMeasurement (s : State) (periodMode : Bool) (count period : Nat) (w : Option Nat) : State :=
  let ch := channelOf s.scv.pair
  let old := s.scv.record ch
  let r : ChannelRecord :=
    { periodMode := periodMode, count := count, period := period, ref := s.scv.nRef,
      oscillation := w.isSome, w := keptRatio ch old.w w, results := satInc 255 old.results }
  completePair (deliver (settleFault (s.setScv (s.scv.setRecord ch r)) ch (faultOf w)) ch w) ch true

/-- A reference measurement of the normal scan ends (R32, R44). -/
def refEnd (s : State) (count : Nat) : State :=
  if s.scv.meas = .ref then
    let n := gateCount count
    let ok := refOk n
    let s1 := s.setScv { s.scv with meas := .gate, refValid := ok, nRef := n, refFault := !ok,
                                    gateTimer := 0 }
    if !ok && !s.scv.refFault then raiseFault s1 else s1
  else s

/-- A sensor's gate ends (R33, R34). -/
def gateEnd (s : State) (count : Nat) : State :=
  if s.scv.meas = .gate then
    let n := gateCount count
    if !s.scv.refValid then completePair s (channelOf s.scv.pair) false
    else if 64 ≤ n then endMeasurement s false n 0 (some (ratioOfCount n s.scv.nRef))
    else s.setScv { s.scv with meas := .period, nSensor := n, gateTimer := 0, periodTimer := 0 }
  else s

/-- The closing edge of a period extension (R35). -/
def periodEnds (s : State) (us : Nat) : State :=
  if s.scv.meas = .period then
    endMeasurement s true s.scv.nSensor us (some (ratioOfPeriod us s.scv.nRef))
  else s

/-- The period timer reaches 65 535 (R35, R36). -/
def periodExpires (s : State) : State :=
  if s.scv.meas = .period then endMeasurement s true s.scv.nSensor 0 none else s

/-- An EXH measurement ends, by one of its three endings. -/
def exhEnds (s : State) : ExhEnd → State
  | .gate n => gateEnd s n
  | .period us => periodEnds s us
  | .timeout => periodExpires s

/-- This ending completes the EXH pair that the planner waits for (R133, R134). -/
def completesExh (s : State) : ExhEnd → Bool
  | .gate n => s.scv.meas = .gate && channelOf s.scv.pair = .exh && (!s.scv.refValid || 64 ≤ gateCount n)
  | .period _ => s.scv.meas = .period && channelOf s.scv.pair = .exh
  | .timeout => s.scv.meas = .period && channelOf s.scv.pair = .exh

/-! ## The strap phase (R40 to R43) -/

/-- A strap pair is retaken from its reference, or the next pair of the phase begins. -/
def Converter.strapNext (c : Converter) (pair attempt : Nat) (levels : List (Option Nat)) : Converter :=
  { c with meas := .strapRef, pair := pair, attempt := attempt, refValid := false, gateTimer := 0,
           passLevels := levels }

/-- A strap's level when both passes agree on one (R43). -/
def agreedLevel (a b : Option Nat) : Option Nat := if a = b then a else none

/-- The station id and STRAP_FAULT from the two strap levels (R43). -/
def stationOf : Option Nat → Option Nat → Nat × Bool
  | some a, some b => if a * 8 + b ≤ 31 then (a * 8 + b, false) else (0, true)
  | _, _ => (0, true)

/-- The converter with its straps settled from the four levels of the two passes, and the normal scan begun
(R43). DESIGN CHOICE: the four levels, which R40 keeps until here, stay as they are (log entry 52). -/
def Converter.settleStraps (c : Converter) (levels : List (Option Nat)) : Converter :=
  let a := agreedLevel (levels.getD 0 none) (levels.getD 2 none)
  let b := agreedLevel (levels.getD 1 none) (levels.getD 3 none)
  let id := stationOf a b
  { c with meas := .ref, pair := 1, attempt := 1, refValid := false, gateTimer := 0, passLevels := levels,
           levelA := a, levelB := b, stationId := id.1, strapFault := id.2, strapDone := true }

/-- STRAP_DONE is set (R43): the backoff generator is seeded (R157), a strap fault raises the fault event
(R44), and a station of id 0 is isolated once SETUP has been taken (R179). -/
def strapDone (s : State) (levels : List (Option Nat)) : State :=
  let s1 := s.setScv (s.scv.settleStraps levels)
  let s2 := s1.setPlp { s1.plp with lfsr := lfsrSeed s1.pjr.serial s1.scv.stationId }
  let s3 := if s2.scv.strapFault then raiseFault s2 else s2
  if s3.pnl.setupDone && s3.scv.stationId = 0 then isolate s3 .noId else s3

/-- A strap pair ends with a level, or *none* (R40). -/
def strapPairEnd (s : State) (level : Option Nat) : State :=
  let levels := s.scv.passLevels ++ [level]
  if s.scv.pair < 4 then s.setScv (s.scv.strapNext (s.scv.pair + 1) 1 levels) else strapDone s levels

/-- A reference measurement of the strap phase ends; REF_FAULT keeps its value (R41). -/
def strapRefEnd (s : State) (count : Nat) : State :=
  if s.scv.meas = .strapRef then
    let n := gateCount count
    s.setScv { s.scv with meas := .strapGate, refValid := refOk n, nRef := n, gateTimer := 0 }
  else s

/-- A strap measurement ends (R40 to R42). -/
def strapEnd (s : State) (count : Nat) : State :=
  if s.scv.meas = .strapGate then
    let n := gateCount count
    if s.scv.refValid then
      strapPairEnd s (if n < 64 then none else strapLevel (ratioOfCount n s.scv.nRef))
    else if s.scv.attempt < 3 then
      s.setScv (s.scv.strapNext s.scv.pair (s.scv.attempt + 1) s.scv.passLevels)
    else strapPairEnd s none
  else s

end Sys2Proof.Machine
end

