-- ==== Sys2Proof/Machine/Second.lean ====
section
/-! DEFINITION. The expiry of the sequencer second (R6): the Cycle Sequencer's counts and phase tests (R6, R10 to
R14, R18), the Dryness Window's sample and dry-point test (R53 to R57), and the Output Stage's airflow (R79,
R80). Where the manual leaves the order of two of them open, the order is a free value (log entry 5). -/

namespace Sys2Proof.Machine

/-! ## Counts (R6, R11, R13, R18) -/

/-- HEAT: a fired second is a heated second, up to max_heat_s (R6). -/
def countHeat (c : CycleRecord) (fired : Bool) (maxHeat : Nat) : CycleRecord :=
  { c with heated := if fired && c.heated < maxHeat then c.heated + 1 else c.heated,
           phaseElapsed := satInc 65535 c.phaseElapsed }

/-- EXTEND: heated_s and ext_done_s rise together (R6). -/
def countExtend (c : CycleRecord) (fired : Bool) (maxHeat : Nat) : CycleRecord :=
  { c with heated := if fired && c.heated < maxHeat then c.heated + 1 else c.heated,
           extDone := if fired && c.heated < maxHeat then c.extDone + 1 else c.extDone,
           phaseElapsed := satInc 65535 c.phaseElapsed }

/-- COOL: cool-down seconds count while the motor is STARTING or RUNNING (R6). -/
def countCool (c : CycleRecord) (turning : Bool) : CycleRecord :=
  { c with phaseElapsed := satInc 65535 c.phaseElapsed,
           coolElapsed := if turning then c.coolElapsed + 1 else c.coolElapsed }

/-- GUARD: rests and bursts (R13). A burst that waits for its start grant counts nothing. -/
def countGuard (c : CycleRecord) (turning : Bool) (d : Descriptor) : CycleRecord :=
  let c1 := { c with phaseElapsed := satInc 65535 c.phaseElapsed }
  match c.burst with
  | .rest =>
    let c2 := { c1 with guardRemaining := c.guardRemaining - 1, burstTimer := c.burstTimer - 1 }
    if c.burstTimer ≤ 1 then { c2 with burst := .tumble, burstTimer := d.guardTumble } else c2
  | .tumble =>
    if turning then
      let c2 := { c1 with guardRemaining := c.guardRemaining - 1, burstTimer := c.burstTimer - 1 }
      if c.burstTimer ≤ 1 then { c2 with burst := .rest, burstTimer := d.guardRest } else c2
    else c1

/-- The Cycle Record after the counts of a second. -/
def countCycle (s : State) : CycleRecord :=
  let c := s.csq.cyc
  let turning := s.ost.motor != .stopped
  match s.csq.state with
  | .heat => countHeat c s.csq.fired s.csq.desc.maxHeat
  | .extend => countExtend c s.csq.fired s.csq.desc.maxHeat
  | .cool => countCool c turning
  | .guard => countGuard c turning s.csq.desc
  | _ => c

/-- The fault persistence count after a second (R11). -/
def countFaults (s : State) : Nat :=
  if s.csq.state.heats then (if sensorFault s then s.csq.faultCount + 1 else 0) else s.csq.faultCount

/-- The progress timer after a second (R18). -/
def countProgress (s : State) : Nat :=
  if s.csq.state.runs then s.csq.progress + 1 else s.csq.progress

/-- The counts of a second, after which the fired mark is cleared (R6). From a taken RESET on no second is
counted (R26). -/
def countSecond (s : State) : State :=
  if s.pnl.resetPending then s.setCsq { s.csq with second := 0 }
  else s.setCsq { s.csq with second := 0, cyc := countCycle s, faultCount := countFaults s,
                             progress := countProgress s, fired := false }

/-! ## Dryness Window (R53 to R57) -/

/-- The sample of the second just ended joins the window (R53, R54). -/
def Dryness.sample (d : Dryness) (heating : Bool) : Dryness :=
  { d with window := if heating && d.resultSeen then (d.hitSeen :: d.window).take 32 else d.window,
           resultSeen := false, hitSeen := false }

/-- The four conditions of the dry-point test (R56). -/
def dryTest (d : Dryness) (heated : Nat) (desc : Descriptor) : Verdict :=
  { full := fillCount d = 32, heat := desc.minHeat ≤ heated, quiet := desc.dryRun ≤ quietCount d,
    hits := hitCount d ≤ desc.dryHits }

/-- All four conditions are met. -/
def Verdict.all (v : Verdict) : Bool := v.full && v.heat && v.quiet && v.hits

/-- The extension at the dry point (R57). -/
def dryExtension (tDry x maxHeat : Nat) : Nat := min (min (tDry * x / 64) 1800) (maxHeat - tDry)

/-- The window takes an expiry: a sample in HEAT or EXTEND, and in HEAT the test (R53, R56). -/
def drySecond (s : State) : State :=
  let d := s.dwn.sample s.csq.state.heats
  if s.csq.state = .heat then
    let v := dryTest d s.csq.cyc.heated s.csq.desc
    s.setDwn { d with verdict := v, reported := d.reported || v.all }
  else s.setDwn d

/-- The dry point is reported at this expiry (R57): all four conditions, with the latch ARMED before it. -/
def dryDue (s : State) : Bool :=
  s.csq.state = .heat && !s.dwn.reported
    && (dryTest (s.dwn.sample true) s.csq.cyc.heated s.csq.desc).all

/-! ## The sequencer's own moves -/

/-- The fault persistence count has reached 30 (R11). -/
def faultDue (s : State) : Bool := !s.pnl.resetPending && s.csq.state.heats && 30 ≤ s.csq.faultCount

/-- The exhaust code counts as cool (R12). -/
def exhCool (s : State) : Bool :=
  s.scv.exhFault = .none && !s.scv.refFault && s.dwn.exh ≤ s.csq.desc.coolTarget

/-- The cool-down is over (R12). -/
def coolOver (s : State) : Bool :=
  (exhCool s && s.csq.desc.coolMin ≤ s.csq.cyc.coolElapsed) || s.csq.desc.coolMax ≤ s.csq.cyc.coolElapsed

/-- The phase test of the present state is met (R10, R12, R14). -/
def testDue (s : State) : Bool :=
  !s.pnl.resetPending &&
  match s.csq.state with
  | .heat => s.csq.desc.maxHeat ≤ s.csq.cyc.heated
  | .extend => s.csq.cyc.extTotal ≤ s.csq.cyc.extDone || s.csq.desc.maxHeat ≤ s.csq.cyc.heated
  | .cool => coolOver s
  | .guard => s.csq.cyc.guardRemaining = 0
  | _ => false

/-- SENSOR_FAULT is set and the heating ends (R11). -/
def faultMove (s : State) : State :=
  if faultDue s then enterCool (raiseFault (setReasons s fun r => { r with sensorFault := true })) else s

/-- The phase test (R10, R12, R14). -/
def testMove (s : State) : State :=
  if testDue s then
    match s.csq.state with
    | .heat => enterCool (setReasons s fun r => { r with heatLimit := true })
    | .extend => enterCool s
    | .cool => if 0 < s.csq.desc.guardTotal then enterGuard s else enterDone s .complete
    | .guard => enterDone s .complete
    | _ => s
  else s

/-- The moves of the sequencer itself while it is still in `st`, the state in which the second found it: the fault
count, or else the phase test. A state entered at this very expiry is not tested by it (R59). -/
def ownMoves (s : State) (st : CycleState) : State :=
  if s.csq.state = st then (if faultDue s then faultMove s else testMove s) else s

/-- The dry-point report of this expiry (R57, R9). -/
def dryMove (s : State) (due : Bool) : State :=
  if due then
    dryReport s s.csq.cyc.heated (dryExtension s.csq.cyc.heated s.csq.desc.x s.csq.desc.maxHeat)
  else s

/-- The PROGRESS record at 20 counted seconds (R18). -/
def progressMove (s : State) : State :=
  if !s.pnl.resetPending && s.csq.state.runs && 20 ≤ s.csq.progress then
    requestRecord s .progress .none
  else s

/-! ## The order of one expiry -/

/-- The dry-point report and the sequencer's own moves, in the order given (R59). -/
def dryAndOwn (s : State) (st : CycleState) (dry reportFirst : Bool) : State :=
  if reportFirst then ownMoves (dryMove s dry) st else dryMove (ownMoves s st) dry

/-- The report and the own moves, and the Output Stage's cumulative hold, in the order given (R80): the hold after
the moves, before them with its report at once, or before them with a report that reaches the sequencer after
them. -/
def allMoves (s : State) (dry reportFirst holdFirst faultAtOnce : Bool) : State :=
  if !holdFirst then holdSecond (dryAndOwn s s.csq.state dry reportFirst)
  else if faultAtOnce then dryAndOwn (holdSecond s) s.csq.state dry reportFirst
  else holdReport (holdReports s) (dryAndOwn (holdCount s) s.csq.state dry reportFirst)

/-- Read a free order where two outcomes are possible; `true` elsewhere (log entry 5). -/
def orderWhen (conflict : Bool) (s : State) : Bool × State :=
  if conflict then takeChoice s else (true, s)

/-- The moves of an expiry, with the PROGRESS record before or after them. -/
def moveSecond (s : State) (dry : Bool) : State :=
  let moves := dry || faultDue s || testDue s
  let a := orderWhen (dry && (faultDue s || testDue s)) s
  let b := orderWhen (moves && holdCounts s) a.2
  let c := orderWhen ((moves || holdReports s) && 20 ≤ s.csq.progress) b.2
  let d := orderWhen (moves && holdReports s) c.2
  if c.1 then allMoves (progressMove d.2) dry a.1 b.1 d.1
  else progressMove (allMoves d.2 dry a.1 b.1 d.1)

/-- An expiry of the sequencer second (R6): counts, airflow, sample and test, then the moves. DESIGN CHOICE: the sample is
that of the state which the expiry finds, even where it then moves the sequencer out of it (R53, log entry 53). -/
def secondBody (s : State) : State :=
  let s1 := airSecond (countSecond s)
  moveSecond (drySecond s1) (dryDue s1)

/-- The whole event: the expiry is an evaluation of the Feeder Share Unit (R175). -/
def sequencerTick (s : State) : State := finish true s (secondBody s)

/-! ## The counts that come due at an expiry -/

/-- The guard burst timer reaches 0 at this expiry (R13). -/
def burstDue (s : State) : Bool :=
  !s.pnl.resetPending && s.csq.state = .guard && s.csq.cyc.burstTimer ≤ 1
    && (s.csq.cyc.burst = .rest || s.ost.motor != .stopped)

/-- The progress timer reaches 20 at this expiry (R18). -/
def progressDue (s : State) : Bool :=
  !s.pnl.resetPending && s.csq.state.runs && 19 ≤ s.csq.progress

/-- The fault persistence count reaches 30 at this expiry (R11). -/
def faultCountDue (s : State) : Bool :=
  !s.pnl.resetPending && s.csq.state.heats && sensorFault s && 29 ≤ s.csq.faultCount

/-- The low run reaches 5 and sets the hold at this expiry (R79). -/
def holdSetDue (s : State) : Bool :=
  s.ost.airJudge && s.ost.airCount < s.settings.airflowMin && 4 ≤ s.ost.lowRun && !s.ost.airHold

/-- The good run reaches 5 and clears the hold at this expiry (R79). -/
def holdClearDue (s : State) : Bool :=
  s.ost.airJudge && s.settings.airflowMin ≤ s.ost.airCount && 4 ≤ s.ost.goodRun && s.ost.airHold

/-- The cumulative hold count reaches 600 with the latch ARMED at this expiry (R80). -/
def holdFaultDue (s : State) : Bool :=
  s.csq.state.heats && (airSecond s).ost.airHold && 599 ≤ s.ost.cumHold && !s.ost.airReported

end Sys2Proof.Machine
end

