-- ==== Sys2Proof/Machine/Line.lean ====
section
/-! DEFINITION. The Party Line Port (R151 to R165): sending, collisions, the stuck line, receiving; and what the
Feeder Share Unit does with a notice delivered, sent or failed (R168, R171, R172, R174, R179). -/

namespace Sys2Proof.Machine

/-! ## The Peer Table (R171, R172) -/

/-- The entry that a HEAT notice makes, with age 0. -/
def peerOfNotice (n : Notice) : Peer :=
  { id := n.id, held := n.held, want := n.want, key := n.key, budget := n.budget, phase := n.phase,
    resume := n.resume, age := 0 }

/-- An id has an entry. -/
def hasPeer (ps : List Peer) (id : Nat) : Bool := ps.any fun p => p.id = id

/-- The entry of an id leaves the table. -/
def removePeer (ps : List Peer) (id : Nat) : List Peer := ps.filter fun p => p.id ≠ id

/-- An entry enters the table in its place in rising order of station id. -/
def insertPeer : List Peer → Peer → List Peer
  | [], p => [p]
  | q :: rest, p => if p.id < q.id then p :: q :: rest else q :: insertPeer rest p

/-- The table holds at most this many entries. -/
def peerLimit : Nat := 30

/-- A notice that the port delivers (R171). A HEAT replaces or makes an entry; a FAREWELL removes one; with the
table full a new id is counted and not stored. -/
def deliverNotice (s : State) (n : Notice) : State :=
  if !s.pnl.setupDone then s
  else if n.farewell then s.setFsu { s.fsu with peers := removePeer s.fsu.peers n.id }
  else if hasPeer s.fsu.peers n.id || s.fsu.peers.length < peerLimit then
    s.setFsu { s.fsu with peers := insertPeer (removePeer s.fsu.peers n.id) (peerOfNotice n) }
  else s.setFsu { s.fsu with tableFull := satInc 255 s.fsu.tableFull }

/-- The delivery changes the table, so that an evaluation follows (R171, R175). -/
def deliveryChanges (s : State) (n : Notice) : Bool :=
  s.pnl.setupDone &&
    (if n.farewell then hasPeer s.fsu.peers n.id
     else hasPeer s.fsu.peers n.id || s.fsu.peers.length < peerLimit)

/-- The entry of station `id` reaches an age of 4 s and leaves the table (R172). -/
def agePeerOut (s : State) (id : Nat) : State :=
  s.setFsu { s.fsu with peers := removePeer s.fsu.peers id }

/-! ## Receiving (R160 to R162) -/

/-- Count a receive error (R160, R161). -/
def Port.rxError (p : Port) : Port := { p with rxErrors := satInc 255 p.rxErrors }

/-- The receiver ends a frame: what was gathered goes, and the echo copy is emptied (R162). -/
def Port.endFrame (p : Port) (rx : RxState) : Port := { p with rx := rx, gathered := [], echo := [] }

/-- A character begins a frame. -/
def Port.beginGather (p : Port) (b : Byte) : Port := { p with rx := .receiving, gathered := [b] }

/-- What a good frame calls for. -/
inductive Judged where
  | discarded
  | echo
  | clash
  | delivered (n : Notice)
deriving DecidableEq, Repr

/-- A frame of eight characters is judged (R161, R162). -/
def judgeFrame (ownId : Nat) (echo bs : List Byte) : Judged :=
  match noticeOfBytes bs with
  | none => .discarded
  | some n =>
    if ownId ≠ 0 && n.id = ownId then (if bs = echo then .echo else .clash) else .delivered n

/-- The port after a frame has been judged: a discarded one counts as a receive error, a clash as an id
clash. -/
def Port.afterFrame (p : Port) : Judged → Port
  | .discarded => (p.endFrame .idle).rxError
  | .echo => p.endFrame .idle
  | .clash => { p.endFrame .idle with clashes := satInc 255 p.clashes }
  | .delivered _ => p.endFrame .idle

/-- The eighth character of a frame: judged, and delivered if it is another station's (R161, R162). The first
clash raises the fault event. -/
def frameJudged (s : State) (bs : List Byte) : State :=
  let v := judgeFrame s.scv.stationId s.plp.echo bs
  let s1 := s.setPlp (s.plp.afterFrame v)
  match v with
  | .delivered n => deliverNotice s1 n
  | .clash => if s.plp.clashes = 0 then raiseFault s1 else s1
  | _ => s1

/-- The line has stood at a level for the latest samples. -/
def LineReader.settle (r : LineReader) (high : Bool) : LineReader := { r with last := high, before := high }

/-- The character being read is over. -/
def LineReader.over (r : LineReader) : LineReader := { r with place := none, bits := [] }

/-- The line is read at a level (R151): the timer of the other level restarts at 0. -/
def Port.reads (p : Port) (high : Bool) : Port :=
  if high then { p with lineHigh := true, stuckTimer := 0, reader := p.reader.settle true }
  else { p with lineHigh := false, idleTimer := 0, reader := p.reader.settle false }

/-- The character being read is over. -/
def Port.endCharacter (p : Port) : Port := { p with reader := p.reader.over }

/-- The line and its two timers at the middle of a character's stop bit: it has stood at the stop bit's level for the
half bit and the equal bits before it (R151, R152). The stuck-low timer is held at 0 under the loss warning (R159). -/
def Port.hear (p : Port) (warning : Bool) (data : Byte) (flag stop : Bool) : Port :=
  let run := halfBitsUs (2 * heldBits data flag stop + 1)
  { p with lineHigh := stop, idleTimer := if stop then run else 0, stuckTimer := if stop || warning then 0 else run,
           reader := (p.reader.settle stop).over }

/-- A fall of the line that is over at the middle of the start bit (R152): the line has been read low, and is high
again. -/
def Port.disturb (p : Port) : Port :=
  { p with lineHigh := true, idleTimer := 0, stuckTimer := 0, reader := (p.reader.settle true).over }

/-- A character with a good stop bit (R160). -/
def goodCharacter (s : State) (b : Byte) (flag : Bool) : State :=
  let p := s.plp
  match p.rx with
  | .idle => if flag then s.setPlp (p.beginGather b) else s.setPlp { p.rxError with rx := .discard }
  | .receiving =>
    if flag then s.setPlp ((p.endFrame .idle).rxError.beginGather b)
    else if p.gathered.length + 1 < 8 then s.setPlp { p with gathered := p.gathered ++ [b] }
    else frameJudged s (p.gathered ++ [b])
  | .discard => if flag then s.setPlp (p.beginGather b) else s

/-- A character with a framing error (R160). -/
def badCharacter (s : State) : State :=
  match s.plp.rx with
  | .idle => s.setPlp { s.plp.rxError with rx := .discard }
  | .receiving => s.setPlp (s.plp.endFrame .discard).rxError
  | .discard => s

/-- A character on the line (R160); the receiver takes none before STRAP_DONE. -/
def takeCharacter (s : State) (b : Byte) (flag stopOk : Bool) : State :=
  let s1 := s.setPlp (s.plp.hear s.mwt.warning b flag stopOk)
  if !s.scv.strapDone then s1 else if stopOk then goodCharacter s1 b flag else badCharacter s1

/-- A fall of the line begins a character if the start bit is still low at its middle; otherwise it is a disturbance,
and no character begins (R152). -/
def character (s : State) (data : Option Byte) (flag stopOk : Bool) : State :=
  match data with
  | some b => takeCharacter s b flag stopOk
  | none => s.setPlp s.plp.disturb

/-- The frame that a character completes delivers a notice that changes the table. -/
def characterEvaluates (s : State) (data : Option Byte) (flag stopOk : Bool) : Bool :=
  s.scv.strapDone && stopOk && !flag && s.plp.rx = .receiving && s.plp.gathered.length = 7 &&
    match data.map fun b => judgeFrame s.scv.stationId s.plp.echo (s.plp.gathered ++ [b]) with
    | some (.delivered n) => deliveryChanges s n
    | _ => false

/-- The line becomes idle: a frame being gathered is truncated, and DISCARD ends (R160). -/
def Port.becomeIdle (p : Port) : Port :=
  let p1 := { (p.reads true).endCharacter with idleTimer := max p.idleTimer lineIdleUs }
  match p1.rx with
  | .idle => p1
  | .receiving => (p1.endFrame .idle).rxError
  | .discard => { p1 with rx := .idle }

/-- *Line restored* reaches the unit (R173, R179). -/
def lineRestored (s : State) : State :=
  if s.fsu.isolated.isSome && !Feeder.silent s then handNotice s false else s

/-- The line idle timer reaches 2 character times; an idle line ends LINE_FAULT (R159). -/
def lineBecomesIdle (s : State) : State :=
  let s1 := s.setPlp { s.plp.becomeIdle with fault := false }
  if s.plp.fault then lineRestored s1 else s1

/-! ## Sending (R155 to R158) -/

/-- A frame may begin: PENDING, the line idle, no LINE_FAULT (R155). -/
def Port.mayBegin (p : Port) : Bool :=
  p.tx = .pending && p.lineHigh && lineIdleUs ≤ p.idleTimer && !p.fault

/-- The transmitter begins a frame: the copies are taken and the start bit is driven (R155), whose fall begins a
character for its own receiver (R152). -/
def Port.beginFrame (p : Port) : Port :=
  if p.mayBegin then
    { p with line := p.slot, echo := (match p.slot with | some n => noticeBytes n | none => []),
             newer := false, tx := .sending, drives := true, sent := 0, lineHigh := false, idleTimer := 0,
             stuckTimer := 0, reader := { (p.reader.settle false).over with place := some 0 } }
  else p

/-- The transmitter releases the line (R156, R163). -/
def Port.release (p : Port) : Port := { p with drives := false, sent := 0 }

/-- The output through the frame being sent: low at a bit that is zero, released at a one and when the frame is over
(R151, R152). -/
def Port.sendsZero (p : Port) : Bool :=
  p.tx = .sending &&
    (match p.line with
    | some n => !((frameBits n).getD (bitIndex p.sent) true)
    | none => false)

/-- The transmitter after a complete frame, whose eighth stop bit leaves the line high (R155). DESIGN CHOICE: the *newer*
mark, which the manual clears at the next frame's beginning, is cleared as the newer notice becomes the one in the slot
(log entry 51). -/
def Port.frameSent (p : Port) : Port :=
  let p1 := { (p.release.reads true).endCharacter with consecutive := 0 }
  if p.newer then { p1 with tx := .pending, attempts := 0, newer := false }
  else { p1 with tx := .empty, slot := none }

/-- Steps that the notice on the line announced join the cover (R168). -/
def coverAnnounced (s : State) : State :=
  match s.plp.line with
  | some n => coverIf (coverIf (coverIf s n.annStart .start) n.annStage1 .stage1) n.annStage2 .stage2
  | none => s

/-- A frame completed without collision ends ISOLATED, but for NO_ID, and the listen-in begins (R179). -/
def endIsolation (s : State) : State :=
  match s.fsu.isolated with
  | some .txFail | some .lineFault =>
    raiseLine (s.setFsu { s.fsu with isolated := none, listenIn := some listenInUs })
  | _ => s

/-- *Notice sent* (R155, R168, R179). -/
def noticeSent (s : State) : State :=
  if s.plp.tx = .sending then endIsolation (coverAnnounced (s.setPlp s.plp.frameSent)) else s

/-- A pending step that the failed notice was to announce leaves held (R174). -/
def failStep (s : State) (announced : Bool) (k : CoverStep) : State :=
  if announced && stepOf s.fsu k = .pending then unmarkStep (setStep s k .free) k else s

/-- *TX_FAIL* reaches the unit with the failed notice (R174). A FAREWELL is not handed again. -/
def txFailed (s : State) (n : Notice) : State :=
  if n.farewell then s
  else
    let s1 := failStep (failStep (failStep s n.annStart .start) n.annStage1 .stage1) n.annStage2 .stage2
    if Feeder.silent s1 then s1 else handNotice s1 false

/-- The sixteenth collision of a slot: its notice has failed (R158). -/
def slotFails (s : State) : State :=
  let isolates := s.plp.consecutive + 1 = 3
  let p := { s.plp with txFailures := satInc 255 s.plp.txFailures, slot := none, newer := false,
                        tx := .empty, consecutive := if isolates then 0 else s.plp.consecutive + 1 }
  let s1 := s.setPlp p
  let s2 := match s.plp.slot with | some n => txFailed s1 n | none => s1
  if isolates then isolate s2 .txFail else s2

/-- The port at a collision, before the outcome of R156 (steps 1 and 2). The value read is not the bit sent: low where
the port had released the line, high where it drove it (log entry 15). -/
def Port.collide (p : Port) : Port :=
  { p.release.reads p.drives with collisions := satInc 255 p.collisions, attempts := p.attempts + 1 }

/-- A collision in SENDING (R156). -/
def collision (s : State) : State :=
  if s.plp.tx = .sending then
    let s1 := s.setPlp s.plp.collide
    if 16 ≤ s1.plp.attempts then slotFails s1
    else s1.setPlp { s1.plp with tx := .backoff, backoff := some (backoffDraw s1.plp.lfsr), newer := false }
  else s

/-- The backoff timer expires (R156). -/
def backoffEnds (s : State) : State :=
  if s.plp.tx = .backoff then s.setPlp { s.plp with tx := .pending, backoff := none } else s

/-- The stuck-low timer passes 20 character times (R159); it does not run under the loss warning. -/
def stuckLow (s : State) : State :=
  if s.plp.fault || s.mwt.warning then s
  else
    raiseFault (isolate
      (s.setPlp { s.plp.reads false with fault := true, stuckTimer := max s.plp.stuckTimer (stuckLowUs + 1) })
      .lineFault)

/-! ## The unit's timers -/

/-- The notice timer expires: a HEAT notice is handed while held or want is above 0 (R173). -/
def noticeTimerEnds (s : State) : State :=
  if s.fsu.notice.isSome then
    let s1 := s.setFsu { s.fsu with notice := none }
    if Feeder.silent s1 then s1 else handNotice s1 false
  else s

/-- The settle timer runs out (R175). -/
def settleEnds (s : State) : State := s.setFsu { s.fsu with settle := none }

/-- The listen-in timer runs out (R180). -/
def listenInEnds (s : State) : State := s.setFsu { s.fsu with listenIn := none }

end Sys2Proof.Machine
end

