-- ==== Sys2Proof/Machine/Holdover.lean ====
section
/-! DEFINITION. The Holdover Domain (R122 to R131): the seconds clock, the crystal, the door view and latch, the
supplies; and the resets of the main domain (R1, R26, R113, R122). -/

namespace Sys2Proof.Machine

/-! ## Clock, crystal, door -/

/-- The seconds clock stays at this value (R123). -/
def clockLimit : Nat := 4294967295

/-- The prescaler wraps and the clock rises (R123); in PLAN_READY the planner counts the rise (R145). A crystal
cycle has arrived, so the crystal runs (R124). -/
def holdoverSecond (s : State) : State :=
  if s.hdm.powered then
    let s1 := s.setHdm { s.hdm with prescaler := 0, crystalPhase := 0, crystalRuns := true, crystalQuiet := 0,
                                    clock := satInc clockLimit s.hdm.clock }
    if s.mainPowered && s.hdm.clock < clockLimit then waitSecond s1 else s1
  else s

/-- The crystal is taken to have stopped (R124): CLOCK_LOST is set, with the fault event at its setting while
the main domain runs. -/
def crystalStops (s : State) : State :=
  if s.hdm.powered then
    let s1 := s.setHdm { s.hdm with clockLost := true, crystalRuns := false, crystalQuiet := 8000 }
    if s.mainPowered && !s.hdm.clockLost then raiseFault s1 else s1
  else s

/-- The door view that three agreeing samples give. -/
def viewOf (isOpen : Bool) : DoorView := if isOpen then .opened else .closed

/-- The door view changes (R126), and a change from CLOSED to OPEN with the watch ON sets the latch (R128). -/
def Holdover.changeView (h : Holdover) (watch isOpen : Bool) : Holdover :=
  { h with view := viewOf isOpen, doorLatch := h.doorLatch || (watch && isOpen && h.view = .closed) }

/-- A change of the door view (R126). -/
def viewChanges (s : State) (isOpen : Bool) : State :=
  if s.hdm.powered then s.setHdm (s.hdm.changeView (doorWatch s) isOpen) else s

/-- The changes of the door view while a main-domain reset is in progress, with the watch ON (R127). -/
def Holdover.inReset (h : Holdover) (doorViews : List Bool) : Holdover :=
  doorViews.foldl (fun h isOpen => h.changeView true isOpen) h

/-! ## Supplies and resets -/

/-- Every block of the main domain at its value after a main-domain reset, the Station Settings gone (R1, R45,
R62, R83, R95, R121, R150, R165, R182, R191). -/
def resetMain (s : State) : State :=
  { s with csq := .reset, scv := .reset, dwn := .reset, ost := .reset, mwt := .reset, pjr := .reset,
           rpl := .reset, plp := .reset, fsu := .reset, pnl := .reset, settings := .reset }

/-- The main domain with the flash operation in flight cut off (R113). -/
def cutMain (s : State) : State := resetMain (tearFlash s)

/-- The end of a main-domain reset: a CLOCK_LOST that stands raises the fault event (R131), and a rail input at
its trip level is taken as a trip (R89). -/
def endReset (s : State) (railTrip : Bool) : State :=
  let s1 := if s.hdm.clockLost then raiseFault s else s
  if railTrip then finish false s1 (railTripped s1) else s1

/-- Both supplies rise together where the holdover supply is down (R122, R125). -/
def raiseHoldover (s : State) : State := if s.hdm.powered then s else s.setHdm .powerOn

/-- A main-domain reset in progress: the door watch is ON (R127). -/
def holdReset (s : State) (doorViews : List Bool) : State := s.setHdm (s.hdm.inReset doorViews)

/-- A main reset: main power-on or RESET_N (R1). -/
def mainReset (s : State) (inputs : ResetInputs) : State :=
  endReset (holdReset { raiseHoldover (cutMain s) with mainPowered := true } inputs.doorViews) inputs.railTrip

/-- The main-domain reset of a host reset, once its END record is done (R26, R190). -/
def hostReset (s : State) (inputs : ResetInputs) : State :=
  if s.mainPowered && s.pnl.resetPending && !s.csq.endAwaited then
    endReset (holdReset (cutMain s) inputs.doorViews) inputs.railTrip
  else s

/-- The main supply fails: the main domain loses its state (R122). -/
def mainFails (s : State) : State :=
  if s.mainPowered then { cutMain s with mainPowered := false } else s

/-- The holdover supply falls below the retention level, which happens only without the main supply: the block's
state is lost (R122). Until the supply rises again its fields hold the values of a power-on (log entry 48). -/
def holdoverFails (s : State) : State :=
  if s.mainPowered || !s.hdm.powered then s else s.setHdm { Holdover.powerOn with powered := false }

/-- The holdover supply rises again (R125). -/
def holdoverRises (s : State) : State := if s.mainPowered || s.hdm.powered then s else s.setHdm .powerOn

end Sys2Proof.Machine
end

