-- ==== Sys2Proof/Machine/Snapshot.lean ====
section
/-! DEFINITION. What the host reads: the 154 bytes of the status snapshot (R187, R194), the counters (R188), the
identity (R189) and the plan (R149). -/

namespace Sys2Proof.Machine

/-- Milliseconds of a running timer, rounded down (R187, R194, log entry 47); a stopped one reads 0. -/
def timerMs : Option Nat → Nat
  | none => 0
  | some t => t / 1000

/-- The ready reason codes (R194). -/
def readyCode : ReadyReason → Nat
  | .none => 0
  | .doorOpen => 1
  | .confirm => 2

/-- The thermistor fault codes (R194). -/
def thermCode : ThermFault → Nat
  | .none => 0
  | .opened => 1
  | .short => 2

/-- The stage state codes (R194). -/
def stageCode : StageState → Nat
  | .off => 0
  | .heldOff => 1
  | .firing => 2

/-- The motor state codes (R194). -/
def motorCode : MotorState → Nat
  | .stopped => 0
  | .starting => 1
  | .running => 2

/-- The mains state codes (R194). -/
def mainsCode : MainsState → Nat
  | .measuring => 0
  | .present => 1
  | .lossWarning => 2
  | .returning => 3
  | .lineFault => 4

/-- The class codes (R194). -/
def classCode : LineClass → Nat
  | .unknown => 0
  | .hz50 => 1
  | .hz60 => 2

/-- The sector state codes (R194). -/
def sectorCode : SectorState → Nat
  | .erased => 0
  | .active => 1
  | .full => 2
  | .erasing => 3
  | .suspended => 4
  | .torn => 5
  | .unknown => 255

/-- The flash operation byte (R194). -/
def flashOpCode : FlashOp → Nat
  | .ready => 0
  | .programming _ _ none => 1
  | .programming _ _ (some _) => 1 + 8
  | .erasing _ => 2
  | .suspending _ => 3
  | .suspended _ => 4

/-- The door view codes (R194). -/
def viewCode : DoorView → Nat
  | .unknown => 0
  | .closed => 1
  | .opened => 2

/-- The transmitter state codes (R194). -/
def txCode : TxState → Nat
  | .empty => 0
  | .pending => 1
  | .backoff => 2
  | .sending => 3

/-- The receiver state codes (R194). -/
def rxCode : RxState → Nat
  | .idle => 0
  | .receiving => 1
  | .discard => 2

/-- The notice in the slot (R194). -/
def slotCode : Option Notice → Nat
  | none => 0
  | some n => if n.farewell then 2 else 1

/-- The unit state codes (R194). -/
def unitCode : UnitState → Nat
  | .listenIn => 0
  | .quiet => 1
  | .intent => 2
  | .ready => 3
  | .holding => 4

/-- The step state codes (R194). -/
def stepCode : StepState → Nat
  | .free => 0
  | .pending => 1
  | .cover => 2
  | .release => 3

/-- The cause of ISOLATED (R194). -/
def causeCode : Option IsoCause → Nat
  | none => 0
  | some .txFail => 1
  | some .lineFault => 2
  | some .noId => 3

/-- A channel record, 11 bytes (R194). -/
def channelBytes (r : ChannelRecord) : List Byte :=
  leBytes 1 (bitAt r.periodMode 0 + bitAt r.oscillation 1) ++ leBytes 3 r.count ++ leBytes 2 r.period
    ++ leBytes 2 r.ref ++ leBytes 2 r.w ++ leBytes 1 r.results

/-- The hold-off reasons of a stage as a byte (R194). -/
def reasonsByte (h : HoldOff) : Nat :=
  bitAt h.notHeld 0 + bitAt h.motor 1 + bitAt h.door 2 + bitAt h.airflow 3 + bitAt h.highLimit 4
    + bitAt h.sensor 5 + bitAt h.mains 6

/-- A heater stage, 4 bytes (R194). -/
def stageBytes (x : Stage) (h : HoldOff) : List Byte :=
  leBytes 1 (stageCode x.state) ++ leBytes 1 (reasonsByte h) ++ leBytes 1 x.active ++ leBytes 1 x.pending

/-- Bytes 0..47: sequencer and panel link. -/
def cycleStatus (s : State) : List Byte :=
  leBytes 1 (cycleCode s.csq.state) ++ leBytes 1 (readyCode s.csq.ready)
    ++ leBytes 1 (bitAt s.pnl.evPhase 0 + bitAt s.pnl.evPlan 1 + bitAt s.pnl.evFault 2
        + bitAt s.pnl.evLine 3 + bitAt s.pnl.setupDone 4 + bitAt s.pnl.resetEnable 5)
    ++ cycleBytes s.csq.cyc ++ leBytes 1 (reasonsCode s.csq.cyc.reasons) ++ descriptorBytes s.csq.desc

/-- Bytes 48..87: converter and Dryness Window. -/
def senseStatus (s : State) : List Byte :=
  leBytes 1 (bitAt s.scv.refFault 0 + 2 * thermCode s.scv.exhFault + 8 * thermCode s.scv.inlFault)
    ++ channelBytes s.scv.moist ++ channelBytes s.scv.exh ++ channelBytes s.scv.inl
    ++ leBytes 1 s.dwn.exh ++ leBytes 1 s.dwn.inl
    ++ leBytes 1 (fillCount s.dwn) ++ leBytes 1 (hitCount s.dwn) ++ leBytes 1 (quietCount s.dwn)
    ++ leBytes 1 (bitAt s.dwn.verdict.full 0 + bitAt s.dwn.verdict.heat 1 + bitAt s.dwn.verdict.quiet 2
        + bitAt s.dwn.verdict.hits 3 + bitAt s.dwn.reported 4)

/-- The step is in the cover; a step under release is still in it until it is confirmed (R69, R71). -/
def inCover (x : StepState) : Bool := x.covered

/-- Bytes 88..108: Output Stage. The airflow count is held to its byte. -/
def outputStatus (s : State) : List Byte :=
  let o := s.ost
  stageBytes o.stage1 (reasonsShown s 1 s.fsu.stage1) ++ stageBytes o.stage2 (reasonsShown s 2 s.fsu.stage2)
    ++ leBytes 1 s.settings.modulus ++ leBytes 1 o.position
    ++ leBytes 1 (bitAt (inCover s.fsu.start) 0 + bitAt (inCover s.fsu.stage1) 1
        + bitAt (inCover s.fsu.stage2) 2 + bitAt (s.fsu.start = .release) 4
        + bitAt (s.fsu.stage1 = .release) 5 + bitAt (s.fsu.stage2 = .release) 6)
    ++ leBytes 1 (bitAt o.tripped 0 + 2 * motorCode o.motor + bitAt o.reverse 3 + bitAt o.doorOpen 4
        + bitAt o.airHold 5)
    ++ leBytes 2 (timerMs o.startWindow) ++ leBytes 2 (timerMs o.coast)
    ++ leBytes 1 (min o.airLast 255) ++ leBytes 1 o.lowRun ++ leBytes 1 o.goodRun ++ leBytes 2 o.cumHold

/-- Bytes 109..114: Mains Watch. -/
def mainsStatus (s : State) : List Byte :=
  let m := s.mwt
  leBytes 1 (mainsCode m.state) ++ leBytes 1 (classCode m.cls) ++ leBytes 2 m.lastHalf
    ++ leBytes 1 (bitAt m.railTripped 0 + bitAt m.warning 1 + bitAt m.causeCrossing 2 + bitAt m.causeRail 3)
    ++ leBytes 1 m.returnCount

/-- The pending record byte (R194). -/
def pendingByte : Option PendingRecord → Nat
  | none => 0
  | some p => kindCode p.copy.kind + bitAt p.urgent 4 + bitAt p.orderly 5

/-- The erase queue, head first; 0xFF where no sector stands. -/
def queueBytes (q : List Nat) : List Byte :=
  leBytes 1 (q.getD 0 255) ++ leBytes 1 (q.getD 1 255) ++ leBytes 1 (q.getD 2 255)

/-- Bytes 115..130: journal. The pointer reads 0xFF until the scan places it. -/
def journalStatus (s : State) : List Byte :=
  let j := s.pjr
  leBytes 1 (sectorCode j.sector0) ++ leBytes 1 (sectorCode j.sector1) ++ leBytes 1 (sectorCode j.sector2)
    ++ leBytes 1 (sectorCode j.sector3)
    ++ leBytes 1 (if j.scanDone then j.ptrSector else 255) ++ leBytes 1 (if j.scanDone then j.ptrSlot else 255)
    ++ leBytes 4 j.nextSeq ++ leBytes 1 (flashOpCode j.op) ++ leBytes 1 (pendingByte j.pend)
    ++ queueBytes j.queue
    ++ leBytes 1 (bitAt j.lossMark 0 + bitAt j.fault 1 + bitAt j.newestBad 2 + bitAt j.factoryGood 3)

/-- Bytes 131..135: Holdover Domain. -/
def holdoverStatus (s : State) : List Byte :=
  leBytes 4 s.hdm.clock
    ++ leBytes 1 (bitAt s.hdm.clockLost 0 + bitAt s.hdm.doorLatch 1 + 4 * viewCode s.hdm.view
        + bitAt (doorWatch s) 4)

/-- Bytes 136..138: Party Line Port. -/
def portStatus (s : State) : List Byte :=
  let p := s.plp
  leBytes 1 (txCode p.tx + 4 * slotCode p.slot + 16 * rxCode p.rx + bitAt p.fault 6)
    ++ leBytes 1 p.attempts ++ leBytes 1 p.consecutive

/-- Bytes 139..153: Feeder Share Unit. -/
def feederStatus (s : State) : List Byte :=
  let f := s.fsu
  leBytes 1 (unitCode (unitState s)) ++ leBytes 1 (held s) ++ leBytes 1 f.want ++ leBytes 1 f.cls
    ++ leBytes 2 f.key
    ++ leBytes 1 (stepCode f.start + 4 * stepCode f.stage1 + 16 * stepCode f.stage2)
    ++ leBytes 2 (timerMs f.settle) ++ leBytes 2 (timerMs f.listenIn) ++ leBytes 2 (timerMs f.notice)
    ++ leBytes 1 f.effective
    ++ leBytes 1 (bitAt f.mismatch 0 + bitAt f.isolated.isSome 1 + 4 * causeCode f.isolated)

/-- The status snapshot (R187): 154 bytes, each value as it stands. -/
def snapshot (s : State) : List Byte :=
  cycleStatus s ++ senseStatus s ++ outputStatus s ++ mainsStatus s ++ journalStatus s ++ holdoverStatus s
    ++ portStatus s ++ feederStatus s

/-- The counters in the order of R188: the journal's (R120), the four of the line (R164), table-full and shed
(R182), rejected crossings (R94). -/
def countersBytes (s : State) : List Byte :=
  let c := s.pjr.counters
  leBytes 2 c.written ++ leBytes 2 c.replaced ++ leBytes 1 c.verifyFailures ++ leBytes 1 c.abandoned
    ++ leBytes 1 c.dropped ++ leBytes 2 c.erases ++ leBytes 1 c.eraseFailures ++ leBytes 2 c.suspends
    ++ leBytes 1 s.plp.collisions ++ leBytes 1 s.plp.rxErrors ++ leBytes 1 s.plp.txFailures
    ++ leBytes 1 s.plp.clashes ++ leBytes 1 s.fsu.tableFull ++ leBytes 1 s.fsu.sheds
    ++ leBytes 1 s.mwt.rejected

/-- The identity, 13 bytes (R189, R194); a level that is *none* reads 0xFF. -/
def identBytes (s : State) : List Byte :=
  leBytes 1 (bitAt s.pjr.factoryGood 0) ++ leBytes 6 s.pjr.serial ++ leBytes 2 s.pjr.product
    ++ leBytes 1 (bitAt s.scv.strapDone 0 + bitAt s.scv.strapFault 1)
    ++ leBytes 1 (s.scv.levelA.getD 255) ++ leBytes 1 (s.scv.levelB.getD 255) ++ leBytes 1 s.scv.stationId

/-- The plan that READ_PLAN returns (R149): before any plan, outcome NONE, every field 0 and the outage
unknown, which is the Plan record after a reset (R150). -/
def shownPlan (r : Planner) : Plan := if r.state = .empty then .reset else r.plan

end Sys2Proof.Machine
end

