-- ==== Sys2Proof/Machine/Panel.lean ====
section
/-! DEFINITION. The Panel Link's commands (R183 to R190): the frame's judgement, and one meaning for each command of
the host. -/

namespace Sys2Proof.Machine

/-! ## The exchange (R183, R184, R190) -/

/-- Place a response in the buffer (R183). -/
def respond (s : State) (status : Status) (payload : List Byte) : State :=
  s.setPnl { s.pnl with response := some ⟨status, payload⟩ }

/-- What the data output carries during a frame of `n` whole bytes (R183, R184). -/
def shiftOut (s : State) (n : Nat) : State := s.setPnl { s.pnl with dataOut := clockOut s.pnl.response n }

/-- Every command frame but RESET_ENABLE and RESET clears the reset-enable latch, whatever its answer (R190). -/
def clearEnable (s : State) : State := s.setPnl { s.pnl with resetEnable := false }

/-- A command frame as it stands before its command is judged. -/
def openFrame (s : State) (tail : Tail) (keepsEnable : Bool) : State :=
  let s1 := shiftOut s (1 + tail.length)
  if keepsEnable then s1 else clearEnable s1

/-- A command whose command byte is known (R184): BAD_LENGTH, BUSY while a reset is pending, then its own rule,
`body`, on the state and the payload. Without the main supply no frame is judged. -/
def command (s : State) (tail : Tail) (len : Nat) (keepsEnable : Bool) (body : State → List Byte → State) :
    Result :=
  .next
    (if s.mainPowered then
      let s1 := openFrame s tail keepsEnable
      match framePayload len tail with
      | none => respond s1 .badLength []
      | some payload => if s.pnl.resetPending then respond s1 .busy [] else body s1 payload
    else s)

/-- A command that is taken: its effect with what follows it, and its answer. -/
def taken (s0 s1 : State) (status : Status) (payload : List Byte) : State :=
  respond (finish false s0 s1) status payload

/-! ## SETUP (R21, R180, R185) -/

/-- The Station Settings are handed out and the listen-in begins (R180, R185). -/
def applySettings (s : State) (x : Settings) : State :=
  let s1 := s.setSettings x
  let s2 := s1.setPnl { s1.pnl with setupDone := true }
  let s3 := s2.setFsu { s2.fsu with listenIn := some listenInUs, effective := x.budget }
  if s3.scv.strapDone && s3.scv.stationId = 0 then isolate s3 .noId else s3

/-- The sequencer leaves CONFIG (R21). -/
def leaveConfig (s : State) : State :=
  if s.pjr.activeFound then enterPlanning s false else setCycle (orderClear s) .idle

/-- SETUP judged (R185). -/
def setupBody (s : State) (payload : List Byte) : State :=
  if s.pnl.setupDone then respond s .alreadySet []
  else if !s.pjr.scanDone then respond s .busy []
  else if (setupFaults payload).any id then respond s .badValue (leBytes 2 (maskNat (setupFaults payload)))
  else taken s (leaveConfig (applySettings s (settingsOfBytes payload))) .ok []

/-- SETUP. -/
def execSetup (tail : Tail) (s : State) : Result := command s tail 13 false setupBody

/-! ## Cycle commands (R4, R15 to R17, R23, R25) -/

/-- START is taken in these states (R4). -/
def startable : CycleState → Bool
  | .idle | .done | .abandoned => true
  | _ => false

/-- START judged and answered (R3, R4). -/
def startBody (s : State) (payload : List Byte) : State :=
  if startable s.csq.state then
    if s.ost.doorOpen then respond s .doorOpen []
    else
      let c := clampDescriptor s.settings.weight2 (descriptorOfBytes payload)
      if c.2.any id then taken s (takeStart s c.1) .clamped (leBytes 2 (maskNat c.2))
      else taken s (takeStart s c.1) .ok []
  else respond s .refusedState []

/-- START. -/
def execStart (tail : Tail) (s : State) : Result := command s tail 23 false startBody

/-- PAUSE judged (R15). -/
def pauseBody (s : State) (_payload : List Byte) : State :=
  if s.csq.state.runs then taken s (enterPaused s) .ok [] else respond s .refusedState []

/-- PAUSE. -/
def execPause (tail : Tail) (s : State) : Result := command s tail 0 false pauseBody

/-- CONTINUE judged (R16). -/
def continueBody (s : State) (_payload : List Byte) : State :=
  if s.csq.state = .paused then
    if s.ost.doorOpen then respond s .doorOpen []
    else
      match runningState s.csq.cyc.before with
      | some st => taken s (takeContinue s st) .ok []
      | none => respond s .refusedState []
  else respond s .refusedState []

/-- CONTINUE. -/
def execContinueCycle (tail : Tail) (s : State) : Result := command s tail 0 false continueBody

/-- CANCEL judged (R17). -/
def cancelBody (s : State) (_payload : List Byte) : State :=
  if s.csq.state.runs || s.csq.state = .paused then taken s (takeCancel s) .ok []
  else respond s .refusedState []

/-- CANCEL. -/
def execCancel (tail : Tail) (s : State) : Result := command s tail 0 false cancelBody

/-- CONFIRM_RESUME judged (R23). -/
def confirmBody (s : State) (_payload : List Byte) : State :=
  if s.csq.state = .planReady then
    if s.ost.doorOpen then respond s .doorOpen [] else taken s (takeConfirm s) .ok []
  else respond s .refusedState []

/-- CONFIRM_RESUME. -/
def execConfirmResume (tail : Tail) (s : State) : Result := command s tail 0 false confirmBody

/-- DECLINE_RESUME judged (R23). -/
def declineBody (s : State) (_payload : List Byte) : State :=
  if s.csq.state = .planReady then taken s (takeDecline s) .ok [] else respond s .refusedState []

/-- DECLINE_RESUME. -/
def execDeclineResume (tail : Tail) (s : State) : Result := command s tail 0 false declineBody

/-- FORCE_RESUME judged (R25). ABANDONED is entered only from a plan that keeps the record of an active cycle
(R147); without one there is nothing to force (log entry 27). -/
def forceBody (s : State) (_payload : List Byte) : State :=
  if s.csq.state = .abandoned then
    if s.ost.doorOpen then respond s .doorOpen []
    else
      match s.rpl.basis with
      | some r =>
        if r.cyc.phase.active then taken s (takeForce s r) .ok [] else respond s .refusedState []
      | none => respond s .refusedState []
  else respond s .refusedState []

/-- FORCE_RESUME. -/
def execForceResume (tail : Tail) (s : State) : Result := command s tail 0 false forceBody

/-! ## Reads (R187 to R189) -/

/-- Every event flag is cleared (R187). -/
def clearEvents (s : State) : State :=
  s.setPnl { s.pnl with evPhase := false, evPlan := false, evFault := false, evLine := false }

/-- READ_STATUS judged (R187): the snapshot is that of `before`, in which the reset-enable latch stands as the
frame found it (log entry 26). -/
def statusBody (before : State) (s : State) (_payload : List Byte) : State :=
  respond (clearEvents s) .ok (snapshot before)

/-- READ_STATUS. -/
def execReadStatus (tail : Tail) (s : State) : Result := command s tail 0 false (statusBody s)

/-- READ_PLAN judged (R149, R188). -/
def planBody (s : State) (_payload : List Byte) : State :=
  if s.rpl.state = .making then respond s .busy [] else respond s .ok (planBytes (shownPlan s.rpl))

/-- READ_PLAN. -/
def execReadPlan (tail : Tail) (s : State) : Result := command s tail 0 false planBody

/-- READ_PEERS judged (R188). -/
def peersBody (s : State) (_payload : List Byte) : State := respond s .ok (peersBytes s.fsu.peers)

/-- READ_PEERS. -/
def execReadPeers (tail : Tail) (s : State) : Result := command s tail 0 false peersBody

/-- READ_RECORD judged (R189). -/
def recordBodyAnswer (s : State) (_payload : List Byte) : State :=
  if s.pjr.scanDone then
    respond s .ok (match s.pjr.newest with | some r => recordBytes r | none => [])
  else respond s .busy []

/-- READ_RECORD. -/
def execReadRecord (tail : Tail) (s : State) : Result := command s tail 0 false recordBodyAnswer

/-- READ_COUNTERS judged (R188). -/
def countersBody (s : State) (_payload : List Byte) : State := respond s .ok (countersBytes s)

/-- READ_COUNTERS. -/
def execReadCounters (tail : Tail) (s : State) : Result := command s tail 0 false countersBody

/-- READ_IDENT judged (R189). -/
def identBody (s : State) (_payload : List Byte) : State :=
  if s.pjr.scanDone then respond s .ok (identBytes s) else respond s .busy []

/-- READ_IDENT. -/
def execReadIdent (tail : Tail) (s : State) : Result := command s tail 0 false identBody

/-! ## The two-step reset (R190) -/

/-- RESET_ENABLE judged (R190). -/
def enableBody (s : State) (_payload : List Byte) : State :=
  respond (s.setPnl { s.pnl with resetEnable := true }) .ok []

/-- RESET_ENABLE. -/
def execResetEnable (tail : Tail) (s : State) : Result := command s tail 0 true enableBody

/-- RESET judged (R26, R190). -/
def resetBody (s : State) (_payload : List Byte) : State :=
  if s.pnl.resetEnable then taken s (takeReset (clearEnable s)) .ok [] else respond s .refusedState []

/-- RESET. -/
def execReset (tail : Tail) (s : State) : Result := command s tail 0 true resetBody

/-! ## Frames without a known command (R183, R184) -/

/-- An empty frame reads the response buffer and changes nothing else (R183). -/
def execEmptyFrame (count : Nat) (s : State) : Result := .next (if s.mainPowered then shiftOut s count else s)

/-- A frame whose command byte names no command is answered UNKNOWN (R184). A code that the table knows, or
the fill value, spells no such frame (log entry 2). -/
def execUnknownCommand (code : Byte) (tail : Tail) (s : State) : Result :=
  .next
    (if s.mainPowered && isUnknownCode code then respond (openFrame s tail false) .unknown [] else s)

end Sys2Proof.Machine
end

