-- ==== Sys2Proof/Machine/Events.lean ====
section
/-! DEFINITION. One meaning for each command that is not a frame of the host: the edges, expiries, completions and
line events of the part's own blocks. An event that cannot occur in the present state, or that meets a main
domain without supply, changes nothing (log entry 2). -/

namespace Sys2Proof.Machine

/-- An event of the main domain that may change the want: if it is due, its effect and what follows it. -/
def mainEvent (due ev : Bool) (body : State → State) (s : State) : Result :=
  .next (if s.mainPowered && due then finish ev s (body s) else s)

/-- An event of the main domain that changes neither a want nor an output. -/
def quietEvent (due : Bool) (body : State → State) (s : State) : Result :=
  .next (if s.mainPowered && due then body s else s)

/-! ## Resets and supplies -/

/-- MAIN_RESET. -/
def execMainReset (inputs : ResetInputs) (s : State) : Result := .next (mainReset s inputs)

/-- HOST_RESET. -/
def execHostReset (inputs : ResetInputs) (s : State) : Result := .next (hostReset s inputs)

/-- MAIN_SUPPLY_FAIL. -/
def execMainSupplyFail (s : State) : Result := .next (mainFails s)

/-- HOLDOVER_SUPPLY_LOSS. -/
def execHoldoverSupplyLoss (s : State) : Result := .next (holdoverFails s)

/-- HOLDOVER_POWER_ON. -/
def execHoldoverPowerOn (s : State) : Result := .next (holdoverRises s)

/-! ## Sequencer second -/

/-- SEQUENCER_SECOND. -/
def execSequencerSecond (s : State) : Result := mainEvent true true secondBody s

/-- GUARD_BURST_TIMER_EXPIRY: the second at which the burst timer reaches 0. -/
def execGuardBurstTimerExpiry (s : State) : Result := mainEvent (burstDue s) true secondBody s

/-- PROGRESS_TIMER_EXPIRY: the second at which the progress timer reaches 20. -/
def execProgressTimerExpiry (s : State) : Result := mainEvent (progressDue s) true secondBody s

/-- SENSOR_FAULT_COUNT_EXPIRY: the second at which the fault persistence count reaches 30. -/
def execSensorFaultCountExpiry (s : State) : Result := mainEvent (faultCountDue s) true secondBody s

/-- AIRFLOW_HOLD_SET: the second at which the low run sets the hold. -/
def execAirflowHoldSet (s : State) : Result := mainEvent (holdSetDue s) true secondBody s

/-- AIRFLOW_HOLD_CLEAR: the second at which the good run clears the hold. -/
def execAirflowHoldClear (s : State) : Result := mainEvent (holdClearDue s) true secondBody s

/-- AIRFLOW_FAULT: the second at which the cumulative hold count reaches 600. -/
def execAirflowFault (s : State) : Result := mainEvent (holdFaultDue s) true secondBody s

/-! ## Planner and converter -/

/-- The planner waits, and this ending completes its EXH pair. -/
def planDue (s : State) (e : ExhEnd) : Bool :=
  s.rpl.state = .making && completesExh s e

/-- MAKE_PLAN: the end of the EXH measurement that the planner waits for. -/
def execMakePlan (e : ExhEnd) (s : State) : Result := mainEvent (planDue s e) false (exhEnds · e) s

/-- REF_GATE_END. -/
def execRefGateEnd (count : Nat) (s : State) : Result :=
  mainEvent (s.scv.meas = .ref) false (refEnd · count) s

/-- SENSOR_GATE_END. -/
def execSensorGateEnd (count : Nat) (s : State) : Result :=
  mainEvent (s.scv.meas = .gate) false (gateEnd · count) s

/-- PERIOD_END. -/
def execPeriodEnd (us : Nat) (s : State) : Result :=
  mainEvent (s.scv.meas = .period) false (periodEnds · us) s

/-- PERIOD_TIMEOUT. -/
def execPeriodTimeout (s : State) : Result := mainEvent (s.scv.meas = .period) false periodExpires s

/-- STRAP_REF_GATE_END. -/
def execStrapRefGateEnd (count : Nat) (s : State) : Result :=
  quietEvent (s.scv.meas = .strapRef) (strapRefEnd · count) s

/-- STRAP_GATE_END; the end of the strap phase is an evaluation of the Feeder Share Unit (R180). -/
def execStrapGateEnd (count : Nat) (s : State) : Result :=
  mainEvent (s.scv.meas = .strapGate) (!s.scv.strapDone && (strapEnd s count).scv.strapDone) (strapEnd · count) s

/-! ## Mains and outputs -/

/-- An edge of the zero-cross input: a rejected one calls for nothing further. -/
def edgeEvent (due : Bool) (us : Nat) (s : State) : Result :=
  .next
    (if s.mainPowered && due then
      (if edgeRejected s us then rejectEdge s us else finish false s (edge s us))
    else s)

/-- ZERO_CROSS_EDGE. -/
def execZeroCrossEdge (us : Nat) (s : State) : Result := edgeEvent true us s

/-- The edge begins position 0 (R64). -/
def boundaryDue (s : State) (us : Nat) : Bool := !edgeRejected s us && atBoundary (mainsEdge s us)

/-- PERIOD_BOUNDARY: the crossing that begins position 0. -/
def execPeriodBoundary (us : Nat) (s : State) : Result := edgeEvent (boundaryDue s us) us s

/-- The edge completes a block of 16 half-periods (R86, R87). -/
def blockDue (s : State) (us : Nat) : Bool :=
  !edgeRejected s us && (s.mwt.state = .measuring || s.mwt.state = .lineFault) && s.mwt.blockOpen
    && edgeInterval s us ≤ blockLimitUs && 15 ≤ s.mwt.blockCount

/-- CLASSIFY_BLOCK: the crossing that completes the block. -/
def execClassifyBlock (us : Nat) (s : State) : Result := edgeEvent (blockDue s us) us s

/-- The edge brings the return count to 8 (R92). -/
def returnDue (s : State) (us : Nat) : Bool :=
  !edgeRejected s us && s.mwt.state = .returning && inBand s.mwt.cls (edgeInterval s us)
    && s.mwt.returnCount = 7

/-- RETURN_COMPLETE: the crossing that brings the return count to 8. -/
def execReturnComplete (us : Nat) (s : State) : Result := edgeEvent (returnDue s us) us s

/-- The edge brings the return crossing count to 64 without 8 good half-periods (R92). -/
def returnTimeoutDue (s : State) (us : Nat) : Bool :=
  !edgeRejected s us && s.mwt.state = .returning && s.mwt.returnCrossings = 63 && !returnDue s us

/-- RETURN_TIMEOUT: the crossing that brings the return crossing count to 64. -/
def execReturnTimeout (us : Nat) (s : State) : Result := edgeEvent (returnTimeoutDue s us) us s

/-- The start window may end with the motor RUNNING: no early end has come first (R75). -/
def windowDue (s : State) : Bool :=
  s.ost.motor = .starting && !s.ost.stopDue && s.fsu.start != .release

/-- START_WINDOW_END. -/
def execStartWindowEnd (s : State) : Result := mainEvent (windowDue s) false startWindowEnd s

/-- COAST_TIMEOUT. -/
def execCoastTimeout (s : State) : Result := quietEvent s.ost.coast.isSome coastEnd s

/-- DOOR_OPENED. -/
def execDoorOpened (s : State) : Result := mainEvent (!s.ost.doorOpen) false doorOpens s

/-- DOOR_CLOSED. -/
def execDoorClosed (s : State) : Result := mainEvent s.ost.doorOpen false doorCloses s

/-- RAIL_DROP_TIMEOUT. -/
def execRailDropTimeout (s : State) : Result := quietEvent s.ost.dropTimer.isSome railDropEnd s

/-- MISSING_CROSSING_TIMEOUT. -/
def execMissingCrossingTimeout (s : State) : Result :=
  mainEvent (s.mwt.state != .lossWarning) false missingCrossing s

/-- RAIL_TRIP. -/
def execRailTrip (s : State) : Result := mainEvent true false railTripped s

/-- RAIL_HEALTHY. -/
def execRailHealthy (s : State) : Result := quietEvent s.mwt.railTripped railHealthyAgain s

/-- AIRFLOW_PULSE. -/
def execAirflowPulse (s : State) : Result := quietEvent true airflowCount s

/-! ## Holdover Domain -/

/-- HOLDOVER_SECOND. -/
def execHoldoverSecond (s : State) : Result := .next (holdoverSecond s)

/-- CRYSTAL_STOP. -/
def execCrystalStop (s : State) : Result := .next (crystalStops s)

/-- DOOR_VIEW_CHANGE. -/
def execDoorViewChange (isOpen : Bool) (s : State) : Result := .next (viewChanges s isOpen)

/-! ## Progress Journal -/

/-- Replace the journal by what it begins. -/
def journalStep (f : Journal → Journal) (s : State) : State := s.setPjr (f s.pjr)

/-- PROGRAM_BEGIN. -/
def execProgramBegin (s : State) : Result :=
  quietEvent s.pjr.programs.isSome (journalStep Journal.beginProgram) s

/-- PROGRAM_COMPLETE. -/
def execProgramComplete (agrees : Bool) (s : State) : Result := quietEvent true (programComplete · agrees) s

/-- ERASE_BEGIN. -/
def execEraseBegin (s : State) : Result :=
  quietEvent s.pjr.erases.isSome (journalStep Journal.beginErase) s

/-- ERASE_COMPLETE. -/
def execEraseComplete (blank : Bool) (s : State) : Result := quietEvent true (eraseComplete · blank) s

/-- SUSPEND_REQUEST. -/
def execSuspendRequest (s : State) : Result :=
  quietEvent s.pjr.suspendsNow.isSome (journalStep Journal.requestSuspend) s

/-- SUSPEND_EFFECT. -/
def execSuspendEffect (s : State) : Result := quietEvent true (journalStep Journal.suspendEffect) s

/-- SCAN_COMPLETE. -/
def execScanComplete (s : State) : Result := quietEvent (!s.pjr.scanDone) scanComplete s

/-! ## Party Line Port and Feeder Share Unit -/

/-- CHARACTER_RECEIVED; a delivery that changes the Peer Table is followed by an evaluation (R171). -/
def execCharacterReceived (data : Option Byte) (flag stopOk : Bool) (s : State) : Result :=
  .next
    (if s.mainPowered then
      (if characterEvaluates s data flag stopOk then finish true s (character s data flag stopOk)
       else character s data flag stopOk)
    else s)

/-- LINE_IDLE. -/
def execLineIdle (s : State) : Result := quietEvent true lineBecomesIdle s

/-- FRAME_BEGIN. -/
def execFrameBegin (s : State) : Result :=
  quietEvent s.plp.mayBegin (fun s => s.setPlp s.plp.beginFrame) s

/-- COLLISION. -/
def execCollision (s : State) : Result := mainEvent (s.plp.tx = .sending) false collision s

/-- BACKOFF_EXPIRY. -/
def execBackoffExpiry (s : State) : Result := quietEvent (s.plp.tx = .backoff) backoffEnds s

/-- NOTICE_SENT. -/
def execNoticeSent (s : State) : Result := mainEvent (s.plp.tx = .sending) false noticeSent s

/-- STUCK_LOW. -/
def execStuckLow (s : State) : Result := mainEvent (!s.plp.fault && !s.mwt.warning) false stuckLow s

/-- NOTICE_TIMER_EXPIRY. -/
def execNoticeTimerExpiry (s : State) : Result := quietEvent s.fsu.notice.isSome noticeTimerEnds s

/-- SETTLE_EXPIRY. -/
def execSettleExpiry (s : State) : Result := mainEvent s.fsu.settle.isSome true settleEnds s

/-- LISTEN_IN_EXPIRY. -/
def execListenInExpiry (s : State) : Result := mainEvent s.fsu.listenIn.isSome true listenInEnds s

/-- PEER_AGE_OUT. -/
def execPeerAgeOut (id : Nat) (s : State) : Result :=
  mainEvent (hasPeer s.fsu.peers id) true (agePeerOut · id) s

end Sys2Proof.Machine
end

