-- ==== Sys2Proof/Machine/Tick.lean ====
section
/-! DEFINITION. The passing of one microsecond of the 1 µs timebase, which is what a step does on an empty queue (log
entry 1): what a free-running block begins by itself, then every running timer. The end of a timer is a
command of the table and is not taken here. -/

namespace Sys2Proof.Machine

/-- A running countdown; it waits at 0 for its expiry. -/
def countDown : Option Nat → Option Nat
  | none => none
  | some t => some (t - 1)

/-- A running count up to a limit. -/
def countUp (limit : Nat) : Option Nat → Option Nat
  | none => none
  | some t => some (satInc limit t)

/-- What the journal starts when the array is free, or requests of a running erase (R101, R109). -/
def Journal.begins (j : Journal) : Journal := j.beginProgram.beginErase.requestSuspend

/-- The journal in one microsecond: the spacing since the latest resume (R109). -/
def Journal.tick (j : Journal) : Journal := { j.begins with sinceResume := countUp 1000 j.begins.sinceResume }

/-- The sequencer second now running (R6). -/
def Sequencer.tick (q : Sequencer) : Sequencer := { q with second := satInc 1000000 q.second }

/-- The gate timer or the period timer of the measurement in progress (R29, R35). -/
def Converter.tick (c : Converter) : Converter :=
  if c.meas = .period then { c with periodTimer := satInc 65535 c.periodTimer }
  else { c with gateTimer := satInc 20000 c.gateTimer }

/-- The start window, the coast timer and the drop timer (R74, R75, R81). -/
def Output.tick (o : Output) : Output :=
  { o with startWindow := countDown o.startWindow, coast := countDown o.coast,
           dropTimer := countDown o.dropTimer }

/-- The missing-crossing timer and the rail healthy timer (R85, R89). Between rows the rail input is taken to stand at
its healthy level, so that the rail healthy timer counts from the latest trip (log entry 49). -/
def Mains.tick (m : Mains) : Mains :=
  { m with missing := satInc 65535 m.missing,
           railHealthy := if m.railTripped then satInc 20000 m.railHealthy else m.railHealthy }

/-- The output follows the frame being sent (R152). -/
def Port.advance (p : Port) : Port :=
  if p.tx = .sending then { p with sent := satInc frameUs p.sent, drives := p.sendsZero } else p

/-- A sample comes due in this microsecond: 16 in a bit time at 19 200 bit/s are 192/625 of one in a microsecond (R151,
log entry 54). -/
def LineReader.sampleDue (r : LineReader) : Bool := 625 ≤ r.phase + 192

/-- The value that a sample gives the line: that of two at least of the latest three. A change shorter than two samples
does not change it, and at a bit's middle it is the value of the bit (R151). -/
def LineReader.value (r : LineReader) (sample : Bool) : Bool :=
  (sample && r.last) || (sample && r.before) || (r.last && r.before)

/-- A bit of a character is read at its middle (R152): a high start bit is a disturbance, and no character begins; with
the stop bit the character is over. -/
def LineReader.readBit (r : LineReader) (n : Nat) (high : Bool) : LineReader :=
  if r.bits = [] && high then { r with place := none }
  else { r with place := if r.bits.length = 10 then none else some n, bits := r.bits ++ [high] }

/-- The character's bits through a sample that read the line at `high`: a fall begins one, and the middle of its bit is
the eighth sample after the fall was read, and every sixteenth from there (R152). -/
def LineReader.follow (r : LineReader) (fell high : Bool) : LineReader :=
  match r.place with
  | none => if fell then { r with place := some 0, bits := [] } else r
  | some n => if (n + 1) % 16 = 8 then r.readBit (n + 1) high else { r with place := some (n + 1) }

/-- The samples through one microsecond. -/
def LineReader.tick (r : LineReader) (sample : Bool) : LineReader :=
  if r.sampleDue then { r with phase := r.phase + 192 - 625, last := sample, before := r.last }
  else { r with phase := r.phase + 192 }

/-- The level at which the line is read after one microsecond at the level `wire` (R151). -/
def Port.levelRead (p : Port) (wire : Bool) : Bool :=
  if p.reader.sampleDue then p.reader.value wire else p.lineHigh

/-- The line stands at a level for one microsecond: it is sampled where a sample is due, and the timers count by the
level as read; the stuck-low timer is held at 0 under the loss warning (R151, R159). -/
def Port.listen (p : Port) (warning wire : Bool) : Port :=
  let high := p.levelRead wire
  let r := p.reader.tick wire
  { p with lineHigh := high, reader := if p.reader.sampleDue then r.follow (p.lineHigh && !high) high else r,
           idleTimer := if high then satInc lineIdleUs p.idleTimer else 0,
           stuckTimer := if high || warning then 0 else satInc (stuckLowUs + 1) p.stuckTimer }

/-- The port in one microsecond: it begins a frame if it may, drives the line, and listens to a wire that is low while it
or another drives it (R151, R152, R155). The backoff timer runs, and the generator steps (R156, R157). -/
def Port.tick (p : Port) (warning othersLow : Bool) : Port :=
  let q := p.beginFrame.advance
  let r := q.listen warning (!q.drives && !othersLow)
  { r with backoff := countDown r.backoff, lfsr := lfsrStep r.lfsr }

/-- An entry's age stops at 4 s, where it leaves the table (R172). -/
def Peer.tick (p : Peer) : Peer := { p with age := satInc 4000000 p.age }

/-- The settle, listen-in and notice timers, and the ages of the Peer Table (R172, R173, R175, R180). -/
def Feeder.tick (f : Feeder) : Feeder :=
  { f with settle := countDown f.settle, listenIn := countDown f.listenIn, notice := countDown f.notice,
           peers := f.peers.map Peer.tick }

/-- A crystal cycle may arrive in this microsecond: the next one of the crystal's 32 768 a second is due, at 512/15 625
of a cycle in a microsecond (R123, log entry 9), or the crystal is taken to have stopped, and its first cycle may come
at any time (R124). -/
def Holdover.cycleDue (h : Holdover) : Bool := !h.crystalRuns || 15625 ≤ h.crystalPhase + 512

/-- A crystal cycle (R123): the prescaler counts on from the value it holds, and waits at 32 767 for its wrap. The
crystal runs (R124). -/
def Holdover.crystalCycle (h : Holdover) : Holdover :=
  { h with crystalPhase := h.crystalPhase + 512 - 15625, prescaler := satInc 32767 h.prescaler,
           crystalRuns := true, crystalQuiet := 0 }

/-- A microsecond without a crystal cycle: the crystal monitor times the interval (R124). -/
def Holdover.noCycle (h : Holdover) : Holdover :=
  { h with crystalPhase := if h.cycleDue then h.crystalPhase else h.crystalPhase + 512,
           crystalQuiet := satInc 8000 h.crystalQuiet }

/-- The Holdover Domain in one microsecond, in which a crystal cycle that may arrive does so or not. -/
def Holdover.tick (h : Holdover) (arrives : Bool) : Holdover :=
  if !h.powered then h else if h.cycleDue && arrives then h.crystalCycle else h.noCycle

/-- One microsecond. Without the main supply the Holdover Domain alone runs on. Whether a crystal cycle arrives and
whether another holds the line low are free values (log entries 32 and 42). -/
def tick (s : State) : State :=
  let s1 := (s.setHdm (s.hdm.tick (Config.crystalCycle s.freeCount))).setFreeCount (s.freeCount + 1)
  if s.mainPowered then
    { s1 with csq := s1.csq.tick, scv := s1.scv.tick, ost := s1.ost.tick, mwt := s1.mwt.tick,
              pjr := s1.pjr.tick, plp := s1.plp.tick s1.mwt.warning (Config.lineLow s.freeCount),
              fsu := s1.fsu.tick }
  else s1

end Sys2Proof.Machine
end

