-- ==== Sys2Proof/Machine/Dispatch.lean ====
section
/-! DEFINITION. What each command does: one arm per command, each a direct call of its meaning. -/

namespace Sys2Proof.Machine

/-- The meaning of a command: its effect on everything but the queue. -/
def exec (i : Instr) (s : State) : Host.Outcome State Fault Refusal :=
  match i with
  | .mainReset inputs => Sys2Proof.Machine.execMainReset inputs s
  | .hostReset inputs => Sys2Proof.Machine.execHostReset inputs s
  | .mainSupplyFail => Sys2Proof.Machine.execMainSupplyFail s
  | .holdoverSupplyLoss => Sys2Proof.Machine.execHoldoverSupplyLoss s
  | .holdoverPowerOn => Sys2Proof.Machine.execHoldoverPowerOn s
  | .setup tail => Sys2Proof.Machine.execSetup tail s
  | .start tail => Sys2Proof.Machine.execStart tail s
  | .pause tail => Sys2Proof.Machine.execPause tail s
  | .continueCycle tail => Sys2Proof.Machine.execContinueCycle tail s
  | .cancel tail => Sys2Proof.Machine.execCancel tail s
  | .confirmResume tail => Sys2Proof.Machine.execConfirmResume tail s
  | .declineResume tail => Sys2Proof.Machine.execDeclineResume tail s
  | .forceResume tail => Sys2Proof.Machine.execForceResume tail s
  | .readStatus tail => Sys2Proof.Machine.execReadStatus tail s
  | .readPlan tail => Sys2Proof.Machine.execReadPlan tail s
  | .readPeers tail => Sys2Proof.Machine.execReadPeers tail s
  | .readRecord tail => Sys2Proof.Machine.execReadRecord tail s
  | .readCounters tail => Sys2Proof.Machine.execReadCounters tail s
  | .readIdent tail => Sys2Proof.Machine.execReadIdent tail s
  | .resetEnable tail => Sys2Proof.Machine.execResetEnable tail s
  | .reset tail => Sys2Proof.Machine.execReset tail s
  | .emptyFrame count => Sys2Proof.Machine.execEmptyFrame count s
  | .unknownCommand code tail => Sys2Proof.Machine.execUnknownCommand code tail s
  | .sequencerSecond => Sys2Proof.Machine.execSequencerSecond s
  | .guardBurstTimerExpiry => Sys2Proof.Machine.execGuardBurstTimerExpiry s
  | .progressTimerExpiry => Sys2Proof.Machine.execProgressTimerExpiry s
  | .sensorFaultCountExpiry => Sys2Proof.Machine.execSensorFaultCountExpiry s
  | .airflowHoldSet => Sys2Proof.Machine.execAirflowHoldSet s
  | .airflowHoldClear => Sys2Proof.Machine.execAirflowHoldClear s
  | .airflowFault => Sys2Proof.Machine.execAirflowFault s
  | .makePlan exhEnd => Sys2Proof.Machine.execMakePlan exhEnd s
  | .refGateEnd count => Sys2Proof.Machine.execRefGateEnd count s
  | .sensorGateEnd count => Sys2Proof.Machine.execSensorGateEnd count s
  | .periodEnd us => Sys2Proof.Machine.execPeriodEnd us s
  | .periodTimeout => Sys2Proof.Machine.execPeriodTimeout s
  | .strapRefGateEnd count => Sys2Proof.Machine.execStrapRefGateEnd count s
  | .strapGateEnd count => Sys2Proof.Machine.execStrapGateEnd count s
  | .zeroCrossEdge us => Sys2Proof.Machine.execZeroCrossEdge us s
  | .periodBoundary us => Sys2Proof.Machine.execPeriodBoundary us s
  | .startWindowEnd => Sys2Proof.Machine.execStartWindowEnd s
  | .coastTimeout => Sys2Proof.Machine.execCoastTimeout s
  | .doorOpened => Sys2Proof.Machine.execDoorOpened s
  | .doorClosed => Sys2Proof.Machine.execDoorClosed s
  | .railDropTimeout => Sys2Proof.Machine.execRailDropTimeout s
  | .missingCrossingTimeout => Sys2Proof.Machine.execMissingCrossingTimeout s
  | .railTrip => Sys2Proof.Machine.execRailTrip s
  | .railHealthy => Sys2Proof.Machine.execRailHealthy s
  | .classifyBlock us => Sys2Proof.Machine.execClassifyBlock us s
  | .returnComplete us => Sys2Proof.Machine.execReturnComplete us s
  | .returnTimeout us => Sys2Proof.Machine.execReturnTimeout us s
  | .holdoverSecond => Sys2Proof.Machine.execHoldoverSecond s
  | .crystalStop => Sys2Proof.Machine.execCrystalStop s
  | .doorViewChange isOpen => Sys2Proof.Machine.execDoorViewChange isOpen s
  | .programBegin => Sys2Proof.Machine.execProgramBegin s
  | .programComplete agrees => Sys2Proof.Machine.execProgramComplete agrees s
  | .eraseBegin => Sys2Proof.Machine.execEraseBegin s
  | .eraseComplete blank => Sys2Proof.Machine.execEraseComplete blank s
  | .suspendRequest => Sys2Proof.Machine.execSuspendRequest s
  | .suspendEffect => Sys2Proof.Machine.execSuspendEffect s
  | .scanComplete => Sys2Proof.Machine.execScanComplete s
  | .characterReceived data flag stopOk => Sys2Proof.Machine.execCharacterReceived data flag stopOk s
  | .lineIdle => Sys2Proof.Machine.execLineIdle s
  | .frameBegin => Sys2Proof.Machine.execFrameBegin s
  | .collision => Sys2Proof.Machine.execCollision s
  | .backoffExpiry => Sys2Proof.Machine.execBackoffExpiry s
  | .noticeSent => Sys2Proof.Machine.execNoticeSent s
  | .stuckLow => Sys2Proof.Machine.execStuckLow s
  | .noticeTimerExpiry => Sys2Proof.Machine.execNoticeTimerExpiry s
  | .settleExpiry => Sys2Proof.Machine.execSettleExpiry s
  | .listenInExpiry => Sys2Proof.Machine.execListenInExpiry s
  | .peerAgeOut id => Sys2Proof.Machine.execPeerAgeOut id s
  | .airflowPulse => Sys2Proof.Machine.execAirflowPulse s

end Sys2Proof.Machine
end

