-- ==== Sys2Proof/Safety.lean ====
section
/-! DEFINITION. What the statements speak of: how a command leaves the rest of the part alone, and the
properties that every step keeps. -/

namespace Sys2Proof.Safety

open Sys2Proof.Machine

/-! ## What follows an event -/

/-- A heater stage but for its state, and whether it leaves FIRING at the next crossing. -/
def blurStage (x : Stage) : Stage := { x with state := .off, leaves := false }

/-- A transmitter state, EMPTY told from PENDING no more. -/
def blurTx : TxState → TxState
  | .empty | .pending => .pending
  | .backoff => .backoff
  | .sending => .sending

/-- A notice but for which pending steps it announces. -/
def blurNotice (n : Notice) : Notice := { n with annStart := false, annStage1 := false, annStage2 := false }

/-- A state but for what settling the outputs and the Feeder Share Unit after an event may touch (R65, R76,
R154, R167 to R178): the states of the two stages and the due motor stop; the unit's steps, wants, class, key,
settle and notice timers, effective budget, BUDGET_MISMATCH and shed counter; the transmitter's state, slot,
*newer* mark, line copy's marks and attempt count; the fault event. -/
def blur (s : State) : State :=
  { s with
    ost := { s.ost with stopDue := false, stage1 := blurStage s.ost.stage1, stage2 := blurStage s.ost.stage2 },
    fsu := { s.fsu with start := .free, stage1 := .free, stage2 := .free, want := 0, wants := .nothing, cls := 0, key := 0,
                        settle := none, notice := none, effective := 0, mismatch := false, sheds := 0 },
    plp := { s.plp with tx := blurTx s.plp.tx, slot := none, newer := false,
                        line := s.plp.line.map blurNotice, attempts := 0 },
    pnl := { s.pnl with evFault := false } }

/-- `t` is `u` but for what settling after an event may touch. -/
def Settled (u t : State) : Prop := blur t = blur u

/-- The want that the unit has taken is the present one (R167, R175). -/
abbrev wantTaken (s : State) : Prop :=
  s.fsu.want = wantUnits s ∧ s.fsu.wants = ⟨wanted s .start, wanted s .stage1, wanted s .stage2⟩

/-- The load of a step draws: the motor in its start window, a stage in a half-cycle that it conducts (R71, R81). -/
def loadDraws (s : State) (k : CoverStep) : Bool :=
  s.mwt.state = .present &&
    match k with
    | .start => s.ost.motor = .starting
    | .stage1 => s.ost.stage1.on
    | .stage2 => s.ost.stage2.on

/-- The rows that may change what the station wants (R7, R8, R167): the second, a measurement, a crossing, the end of a
start window, the door, the loss of mains, and the host's commands on the cycle. -/
def movesWant : Instr → Bool
  | .sequencerSecond | .makePlan _ | .refGateEnd _ | .sensorGateEnd _ | .periodEnd _ | .periodTimeout
  | .zeroCrossEdge _ | .startWindowEnd | .doorOpened | .doorClosed | .missingCrossingTimeout | .railTrip
  | .start _ | .pause _ | .continueCycle _ | .cancel _ | .confirmResume _ | .declineResume _ | .forceResume _
  | .reset _ => true
  | _ => false

/-- The effective budget without ISOLATED, over the peers given (R178). -/
def heardBudget (s : State) (ps : List Peer) : Nat :=
  if s.settings.minHeard then ps.foldl (fun b p => min b p.budget) s.settings.budget else s.settings.budget

/-- What the station and its peers hold stays within the isolated cap too, so that nothing is shed (R177, R178). -/
abbrev withinCap (s : State) : Prop :=
  held s + (s.fsu.peers.map Peer.held).sum ≤ min (heardBudget s s.fsu.peers) s.settings.isolatedCap

/-- BUDGET_MISMATCH as an evaluation forms it, with the fault event at its setting (R178). -/
abbrev mismatchFormed (s t : State) : Prop :=
  (t.fsu.mismatch = true ↔ ∃ p ∈ t.fsu.peers, p.budget < s.settings.budget) ∧
  (t.fsu.mismatch = true → s.fsu.mismatch = false → t.pnl.evFault = true)

/-- The unit may hand a notice, and the port takes it (R154, R173). -/
abbrev mayAnnounce (s : State) : Prop :=
  s.pnl.setupDone = true ∧ s.mwt.warning = false ∧ s.scv.strapDone = true ∧ 1 ≤ s.scv.stationId ∧
    s.scv.stationId ≤ 31

/-- The HEAT notice of a state (R173). -/
abbrev heatOf (s : State) (n : Notice) : Prop :=
  n.farewell = false ∧ n.id = s.scv.stationId ∧ n.held = held s ∧ n.want = s.fsu.want ∧ n.key = claimKey s ∧
    n.budget = s.settings.budget ∧ n.phase = cycleCode s.csq.state ∧ (n.resume = true ↔ s.fsu.cls ≤ 1)

/-- A FAREWELL of a station (R173). -/
abbrev farewellOf (s : State) (n : Notice) : Prop :=
  n.farewell = true ∧ n.id = s.scv.stationId ∧ n.held = 0 ∧ n.want = 0

/-- A notice announces a step (R168). -/
def announces (n : Notice) : CoverStep → Bool
  | .start => n.annStart
  | .stage1 => n.annStage1
  | .stage2 => n.annStage2

/-- The own entry is settled and the event that leads to `t` does not move the want: the want taken is the present one,
every step that is not free is wanted, and none is under release. -/
abbrev entrySteady (s t : State) : Prop :=
  wantTaken s ∧ ∀ k, wanted t k = wanted s k ∧
    (stepOf s.fsu k = .free ∨ (wanted s k = true ∧ stepOf s.fsu k ≠ .release))

/-- The state with a response in the buffer after a command frame of `1 + n` whole bytes (R183, R184, R190):
the data output has carried the old response, and the reset-enable latch is cleared unless `keeps`. -/
def answered (s : State) (n : Nat) (keeps : Bool) (status : Status) (payload : List Byte) : State :=
  { s with pnl := { s.pnl with response := some ⟨status, payload⟩, dataOut := clockOut s.pnl.response (1 + n),
                               resetEnable := keeps && s.pnl.resetEnable } }

/-- The payload length of a command (R194). -/
def payloadLength (code : Byte) : Nat := if code = 0x01 then 13 else if code = 0x02 then 23 else 0

/-- A tail that carries a payload of `n` bytes with its length byte. -/
def carries (tail : Tail) (n : Nat) : Prop :=
  ∃ l p, tail = l :: p ∧ l.toNat = n ∧ p.length = n

/-- The flash addresses that the operation in flight may have changed when it is cut off (R113): the slot being
programmed, and the sector being erased or whose erase is halted. -/
def inOperation (j : Journal) (a : Nat) : Prop :=
  match j.op with
  | .ready => False
  | .programming k i halted =>
    (slotBase k i ≤ a ∧ a < slotBase k i + 64) ∨ ∃ e, halted = some e ∧ e * 4096 ≤ a ∧ a < e * 4096 + 4096
  | .erasing k | .suspending k | .suspended k => k * 4096 ≤ a ∧ a < k * 4096 + 4096

/-- A channel record after a result with the ratio `w`, or with no oscillation (R37): `kept` is the ratio that stays
without one. -/
def recordAfter (old : ChannelRecord) (periodMode : Bool) (count period ref kept : Nat) (w : Option Nat) :
    ChannelRecord :=
  { periodMode := periodMode, count := count, period := period, ref := ref, oscillation := w.isSome,
    w := w.getD kept, results := satInc 255 old.results }

/-- The thermistor fault flag that a result gives (R38, R48). -/
def faultAfter : Option Nat → ThermFault
  | none => .opened
  | some w => if w < 160 then .opened else if 30000 < w then .short else .none

/-- The code after a thermistor result (R50). -/
def codeAfter (old : Nat) : Option Nat → Nat
  | none => old
  | some w => if 160 ≤ w ∧ w ≤ 30000 then codeOfRatio w else old

/-- The high-limit flag after an INL result: judged against a new code alone (R72). -/
def tripAfter (tripped : Bool) : Option Nat → Bool
  | none => tripped
  | some w =>
    if 160 ≤ w ∧ w ≤ 30000 then
      (if tripped then 180 < codeOfRatio w else 220 ≤ codeOfRatio w)
    else tripped

/-- The state after the measurement of a valid pair has ended, with the next pair of the round begun (R30, R36,
R37, R38, R50, R52, R72): MOIST in pairs 1 and 3, EXH in pair 2, INL in pair 4. -/
def afterResult (s : State) (periodMode : Bool) (count period : Nat) (w : Option Nat) : State :=
  let c := { s.scv with pair := s.scv.pair % 4 + 1, meas := .ref, refValid := false, gateTimer := 0,
                        periodTimer := 0 }
  if s.scv.pair = 2 then
    { s with scv := { c with exh := recordAfter s.scv.exh periodMode count period s.scv.nRef s.scv.exh.w w,
                             exhFault := faultAfter w },
             dwn := { s.dwn with exh := codeAfter s.dwn.exh w } }
  else if s.scv.pair = 4 then
    { s with scv := { c with inl := recordAfter s.scv.inl periodMode count period s.scv.nRef s.scv.inl.w w,
                             inlFault := faultAfter w },
             dwn := { s.dwn with inl := codeAfter s.dwn.inl w },
             ost := { s.ost with tripped := tripAfter s.ost.tripped w } }
  else
    { s with scv := { c with moist := recordAfter s.scv.moist periodMode count period s.scv.nRef 0 w },
             dwn :=
               if s.ost.motor = .running then
                 { s.dwn with resultSeen := true,
                              hitSeen := s.dwn.hitSeen || w.any (s.csq.desc.wetThreshold ≤ ·) }
               else s.dwn }

/-- The planner makes its plan at the end of this EXH pair (R133, R134). -/
abbrev planWaits (s : State) : Prop := s.rpl.state = .making ∧ s.scv.pair = 2

/-- The state after an invalid pair: the next pair of the round begins, and nothing is delivered (R33). -/
def afterInvalid (s : State) : State :=
  { s with scv := { s.scv with pair := s.scv.pair % 4 + 1, meas := .ref, refValid := false, gateTimer := 0,
                               periodTimer := 0 } }

/-- The row of the table that carries an ending of an EXH measurement when no planner waits for it. -/
def rowOf : ExhEnd → Instr
  | .gate n => .sensorGateEnd n
  | .period us => .periodEnd us
  | .timeout => .periodTimeout

/-- An ending completes the pair: the state with its result delivered, and whether the pair was valid. -/
def pairEnds (s : State) (e : ExhEnd) (u : State) (valid : Bool) : Prop :=
  match e with
  | .gate n =>
    s.scv.meas = .gate ∧
      ((s.scv.refValid = false ∧ u = afterInvalid s ∧ valid = false) ∨
       (s.scv.refValid = true ∧ 64 ≤ n ∧ valid = true ∧
        u = afterResult s false (min n 1048575) 0 (some (min (1024 * min n 1048575 / s.scv.nRef) 65535))))
  | .period us =>
    s.scv.meas = .period ∧ valid = true ∧
      u = afterResult s true s.scv.nSensor us (some (min (20480000 / (us * s.scv.nRef)) 65535))
  | .timeout => s.scv.meas = .period ∧ valid = true ∧ u = afterResult s true s.scv.nSensor 0 none

/-! ## A crossing -/

/-- The Mains Watch after an accepted edge, before its own state is settled (R85). -/
def edgeRecorded (s : State) (us : Nat) : Mains :=
  { s.mwt with lastHalf := if s.mwt.seenEdge then min (s.mwt.missing + us) 65535 else s.mwt.lastHalf,
               seenEdge := true, missing := 0 }

/-- The edge is accepted: the first one ever, or one after the blanking interval (R85). -/
abbrev accepts (s : State) (us : Nat) : Prop := s.mwt.seenEdge = false ∨ 3000 < s.mwt.missing + us

/-- The position that a crossing in PRESENT begins after SETUP (R64). -/
def positionAfter (s : State) : Nat :=
  if s.ost.positioned ∧ s.ost.position + 1 < s.settings.modulus then s.ost.position + 1 else 0

/-- The relays that a RAIL warning left closed open at this crossing, while the drop timer runs (R81). -/
def relaysDropped (o : Output) : Output :=
  if o.dropTimer.isSome then
    { o with runRelay := false, coast := if o.runRelay then some 2000000 else o.coast, dropTimer := none,
             stage1 := { o.stage1 with on := false }, stage2 := { o.stage2 with on := false } }
  else o

/-- The motor stops at this crossing (R71, R76). -/
def stopsNow (s : State) : Bool :=
  s.ost.motor != .stopped && (s.ost.stopDue || (s.ost.motor = .starting && s.fsu.start = .release))

/-- The motor starts at this crossing (R74). -/
def startsNow (s : State) : Bool :=
  s.ost.motor = .stopped && motorRun s && !s.ost.doorOpen && s.ost.coast.isNone && !s.ost.runRelay &&
    (s.fsu.start = .cover || s.settings.startUnits = 0)

/-- A stage fires after a crossing in PRESENT (R65): it is asked for, no hold-off reason stands, and the crossing is a
period boundary, or it fired before and has not been told to leave since the previous crossing. -/
def firesNow (s : State) (k : Nat) (step : StepState) (x : Stage) : Bool :=
  s.csq.state.heats && k ≤ s.csq.desc.stages && step = .cover && s.ost.motor = .running && !stopsNow s &&
    !s.ost.doorOpen && !s.ost.airHold && !s.ost.tripped && !sensorFault s &&
    ((x.state = .firing && !x.leaves) || (s.pnl.setupDone && positionAfter s = 0))

/-- Stage 1 conducts in the half-cycle that a crossing in PRESENT begins: at the start of the period (R66). -/
def conducts1 (s : State) : Bool :=
  s.pnl.setupDone && firesNow s 1 s.fsu.stage1 s.ost.stage1 &&
    positionAfter s < (if positionAfter s = 0 then s.ost.stage1.pending else s.ost.stage1.active)

/-- Stage 2 conducts in that half-cycle: at the end of the period (R66). -/
def conducts2 (s : State) : Bool :=
  s.pnl.setupDone && firesNow s 2 s.fsu.stage2 s.ost.stage2 &&
    s.settings.modulus ≤
      positionAfter s + (if positionAfter s = 0 then s.ost.stage2.pending else s.ost.stage2.active)

/-- The Output Stage with the motor stopped at a crossing (R74, R76, R79): the coast timer starts if the run relay was
closed. -/
def motorHalted (o : Output) : Output :=
  { o with motor := .stopped, startWindow := none, stopDue := false, lowRun := 0, goodRun := 0, airHold := false,
           airJudge := false, runRelay := false, coast := if o.runRelay then some 2000000 else o.coast }

/-- The unit at a crossing that stops the motor: the units held for an interrupted start go under release (R75). -/
def startReleased (s : State) : Feeder :=
  if s.ost.motor = .starting && s.fsu.start = .cover then { s.fsu with start := .release } else s.fsu

/-- The motor at a crossing in PRESENT (R74 to R77, R79): the stop first, whose coast timer then holds back a start. -/
def motorCrossed (s : State) : Output :=
  let u := if stopsNow s then { s with ost := motorHalted s.ost, fsu := startReleased s } else s
  if startsNow u then
    { u.ost with reverse := s.csq.state = .guard && s.settings.reverseFitted && !u.ost.reverse,
                 runRelay := true, motor := .starting, startWindow := some 3000000 }
  else u.ost

/-- A crossing in PRESENT as the Output Stage takes it: the modulation, the stages, the motor, and the fired mark;
the stages' states are said apart. -/
def crossed (s : State) : State :=
  let o := motorCrossed s
  let d := regulate s (s.ost.stage1.pending, s.ost.stage2.pending)
  let o := { o with stage1 := { o.stage1 with on := conducts1 s }, stage2 := { o.stage2 with on := conducts2 s } }
  { s with
    csq := { s.csq with fired := s.csq.fired || conducts1 s || conducts2 s },
    ost :=
      if s.pnl.setupDone then
        (if positionAfter s = 0 then
          { o with position := 0, positioned := true,
                   stage1 := { o.stage1 with active := s.ost.stage1.pending, pending := d.1 },
                   stage2 := { o.stage2 with active := s.ost.stage2.pending, pending := d.2 } }
        else { o with position := positionAfter s })
      else o }

/-- A crossing outside PRESENT (R81, R85): relays that a RAIL warning left closed open, a motor stop that is due is
made, and no stage conducts. -/
def crossedDark (s : State) : State :=
  let u := { s with ost := relaysDropped s.ost }
  let o := if stopsNow u then motorHalted u.ost else u.ost
  { s with ost := { o with stage1 := { o.stage1 with on := false }, stage2 := { o.stage2 with on := false } } }

/-- A crossing in PRESENT, with relays that a RAIL warning left closed opened first. -/
def crossedLit (s : State) : State := crossed { s with ost := relaysDropped s.ost }

/-- *Mains back* at the entry to PRESENT with the warning outstanding (R93): the flag and the causes are cleared, the
unit listens in again, the note is set in LOSS, and HOLDOVER_WAIT leads to PLANNING (R20, R133, R181). -/
def mainsReturned (s : State) (m : Mains) : State :=
  let u := { s with mwt := { m with state := .present, blockOpen := false, blockCount := 0, blockSum := 0,
                                    warning := false, causeCrossing := false, causeRail := false },
                    fsu := { s.fsu with listenIn := if s.pnl.setupDone then some 3000000 else s.fsu.listenIn } }
  if s.csq.state = .holdoverWait ∧ s.pnl.resetPending = false then
    { u with csq := { s.csq with state := .planning, ready := .none }, pnl := { s.pnl with evPhase := true },
             rpl := { state := .making, plan := { Plan.reset with blink := true }, basis := none } }
  else { u with csq := { s.csq with mainsBack := s.csq.mainsBack || s.csq.state = .loss } }

/-- The Output Stage, the converter, the port and the unit at a loss warning (R39, R81, R163, R181): `opens` when the
relays open at once, and `half` the drop time otherwise. -/
def dropped (s : State) (opens : Bool) (half : Nat) : State :=
  let o := s.ost
  let turning := o.motor ≠ .stopped
  let o1 := if turning then { o with motor := .stopped, startWindow := none, stopDue := false, lowRun := 0, goodRun := 0,
                                     airHold := false, airJudge := false, coast := some 2000000 } else o
  let s1 := { o.stage1 with active := 0, on := o.stage1.on && !opens }
  let s2 := { o.stage2 with active := 0, on := o.stage2.on && !opens }
  { s with
    ost := { o1 with
      position := 0, positioned := false, stage1 := s1, stage2 := s2,
      runRelay := o.runRelay && !opens,
      coast := if o.runRelay && opens then some 2000000 else o1.coast,
      dropTimer :=
        if opens then none
        else if o.runRelay || o.stage1.on || o.stage2.on then some half else o.dropTimer },
    scv := { s.scv with meas := if s.scv.strapDone then .ref else .strapRef, refValid := false, gateTimer := 0,
                        periodTimer := 0 },
    plp := { s.plp with tx := .empty, slot := none, newer := false, attempts := 0, backoff := none, stuckTimer := 0,
                        drives := false, sent := 0 },
    fsu := { s.fsu with start := .free, stage1 := .free, stage2 := .free, settle := none, listenIn := none,
                        notice := none } }

/-- An erase is being suspended, or is suspended. -/
def suspends : FlashOp → Bool
  | .suspending _ | .suspended _ => true
  | _ => false

/-! ## A second -/

/-- The Output Stage after the airflow judgement of a second (R79): judged only when the motor has run through it. -/
def airJudged (o : Output) (airflowMin : Nat) : Output :=
  if o.airJudge then
    (if o.airCount < airflowMin then
      { o with airLast := o.airCount, lowRun := satInc 5 o.lowRun, goodRun := 0,
               airHold := o.airHold || satInc 5 o.lowRun = 5 }
    else
      { o with airLast := o.airCount, goodRun := satInc 5 o.goodRun, lowRun := 0,
               airHold := o.airHold && satInc 5 o.goodRun != 5 })
  else o

/-- The airflow hold stands at the end of the second, as that second's judgement leaves it. -/
def holdAfter (s : State) : Bool := (airJudged s.ost s.settings.airflowMin).airHold

/-- The Output Stage after a second (R79, R80), but for the report of AIRFLOW_FAULT. -/
def outputAfter (s : State) : Output :=
  { airJudged s.ost s.settings.airflowMin with
    airCount := 0, airJudge := s.ost.motor = .running,
    cumHold := if s.csq.state.heats && holdAfter s then satInc 600 s.ost.cumHold else s.ost.cumHold }

/-- AIRFLOW_FAULT is reported at this second (R80). -/
abbrev holdFires (s : State) : Prop :=
  s.csq.state.heats = true ∧ holdAfter s = true ∧ 599 ≤ s.ost.cumHold ∧ s.ost.airReported = false

/-- The Dryness Window with the sample of a second of HEAT or EXTEND (R53, R54). -/
def sampled (d : Dryness) : Dryness :=
  { d with window := if d.resultSeen then (d.hitSeen :: d.window).take 32 else d.window,
           resultSeen := false, hitSeen := false }

/-- The Dryness Window after a second outside HEAT and EXTEND: no sample is taken. -/
def unsampled (d : Dryness) : Dryness := { d with resultSeen := false, hitSeen := false }

/-- The fault persistence count after a second of HEAT or EXTEND (R11). -/
def faultsAfter (s : State) : Nat := if sensorFault s then s.csq.faultCount + 1 else 0

/-- The state after a second that counted a running phase, with the Cycle Record, the fault persistence count and
the Dryness Window given: the progress timer has risen and the fired mark is cleared (R6, R18). -/
def secondAfter (s : State) (c : CycleRecord) (faults : Nat) (d : Dryness) : State :=
  { s with csq := { s.csq with second := 0, cyc := c, faultCount := faults, progress := s.csq.progress + 1,
                               fired := false },
           dwn := d, ost := outputAfter s }

/-- A heated second counts: a stage fired, and heated_s is below max_heat_s (R6). -/
def heatedAfter (s : State) : Nat :=
  if s.csq.fired && s.csq.cyc.heated < s.csq.desc.maxHeat then s.csq.cyc.heated + 1 else s.csq.cyc.heated

/-- The Cycle Record after a second of HEAT. -/
def heatSecond (s : State) : CycleRecord :=
  { s.csq.cyc with heated := heatedAfter s, phaseElapsed := satInc 65535 s.csq.cyc.phaseElapsed }

/-- The Cycle Record after a second of EXTEND: ext_done_s rises with heated_s. -/
def extendSecond (s : State) : CycleRecord :=
  { s.csq.cyc with heated := heatedAfter s, extDone := s.csq.cyc.extDone + (heatedAfter s - s.csq.cyc.heated),
                   phaseElapsed := satInc 65535 s.csq.cyc.phaseElapsed }

/-- The Cycle Record after a second of COOL: it counts while the motor turns. -/
def coolSecond (s : State) : CycleRecord :=
  { s.csq.cyc with coolElapsed := if s.ost.motor = .stopped then s.csq.cyc.coolElapsed else s.csq.cyc.coolElapsed + 1,
                   phaseElapsed := satInc 65535 s.csq.cyc.phaseElapsed }

/-- The Cycle Record after a second of GUARD: rests always count, bursts while the motor turns, and the burst
timer that reaches 0 begins the other state (R13). -/
def guardSecond (s : State) : CycleRecord :=
  let c := { s.csq.cyc with phaseElapsed := satInc 65535 s.csq.cyc.phaseElapsed }
  if s.csq.cyc.burst = .tumble ∧ s.ost.motor = .stopped then c
  else if 1 < s.csq.cyc.burstTimer then
    { c with guardRemaining := c.guardRemaining - 1, burstTimer := c.burstTimer - 1 }
  else if s.csq.cyc.burst = .rest then
    { c with guardRemaining := c.guardRemaining - 1, burst := .tumble, burstTimer := s.csq.desc.guardTumble }
  else { c with guardRemaining := c.guardRemaining - 1, burst := .rest, burstTimer := s.csq.desc.guardRest }

/-- The dry-point verdict that a second of HEAT reaches: 32 samples, the minimum heat, the quiet run, and few enough
hits, all with the second's own sample and count (R56). -/
def verdictAfter (s : State) : Verdict :=
  { full := (sampled s.dwn).window.length = 32,
    heat := s.csq.desc.minHeat ≤ heatedAfter s,
    quiet := s.csq.desc.dryRun ≤ ((sampled s.dwn).window.takeWhile (!·)).length,
    hits := (sampled s.dwn).window.countP id ≤ s.csq.desc.dryHits }

/-- The dry point is reached at this second and reported (R56, R57). -/
abbrev dryFires (s : State) : Prop := (verdictAfter s).all = true ∧ s.dwn.reported = false

/-- The Dryness Window after a second of HEAT. -/
def heatWindow (s : State) : Dryness :=
  { sampled s.dwn with verdict := verdictAfter s, reported := s.dwn.reported || (verdictAfter s).all }

/-- The cool-down is over after this second (R12). -/
abbrev coolEnds (s : State) : Prop :=
  (s.scv.exhFault = .none ∧ s.scv.refFault = false ∧ s.dwn.exh ≤ s.csq.desc.coolTarget ∧
    s.csq.desc.coolMin ≤ (coolSecond s).coolElapsed) ∨ s.csq.desc.coolMax ≤ (coolSecond s).coolElapsed

/-- A cycle state entered with the phase-change event. -/
def entered (s : State) (st : CycleState) (c : CycleRecord) : State :=
  { s with csq := { s.csq with state := st, ready := .none, cyc := c }, pnl := { s.pnl with evPhase := true } }

/-- DONE entered with an end reason and the phase-change event. -/
def ended (s : State) (reason : EndReason) (c : CycleRecord) : State :=
  entered { s with csq := { s.csq with endReason := reason } } .done { c with phase := .ended, before := .none }

/-- COOL entered from heating. -/
def cooled (s : State) (c : CycleRecord) : State :=
  entered s .cool { c with phase := .cool, phaseElapsed := 0, coolElapsed := 0 }

/-! ## Resets and the passing of time -/

/-- The door view changes from CLOSED to OPEN in the course of successive views, from the view `v` on (R128). -/
def opensIn (v : DoorView) (views : List Bool) : Prop :=
  ∃ i, ((v != .closed) :: views)[i]? = some false ∧ ((v != .closed) :: views)[i + 1]? = some true

/-- The Holdover Domain after a main-domain reset during which the door view took successive values (R126 to R128):
the last of them stands, and a change from CLOSED to OPEN has set the latch. -/
def DoorsWatched (h : Holdover) (views : List Bool) (g : Holdover) : Prop :=
  g = { h with view := g.view, doorLatch := g.doorLatch } ∧
  g.view = (match views.getLast? with | none => h.view | some true => .opened | some false => .closed) ∧
  (g.doorLatch = true ↔ h.doorLatch = true ∨ opensIn h.view views)

/-- The write pointer and the erase queue after a program, verified or not (R104, R105, R107): the pointer goes on by one
slot; past slot 63 its sector is FULL, and an ERASED next sector is opened at its slot 0; at slot 32 or beyond, the next
sector joins the queue if it is neither ERASED, ERASING nor SUSPENDED and not in it. The sector of a `halted` erase may
run on. -/
def pointerAdvanced (s t : State) (halted : Option Nat) : Prop :=
  let j := s.pjr
  let next := (j.ptrSector + 1) % 4
  let opens := j.ptrSlot = 63 ∧ j.sector next = .erased
  j.ptrSector < 4 → j.ptrSlot ≤ 63 →
    t.pjr.ptrSector = (if opens then next else j.ptrSector) ∧
    t.pjr.ptrSlot = (if opens then 0 else j.ptrSlot + 1) ∧
    (∀ q, q < 4 → halted ≠ some q → t.pjr.sector q =
      if j.ptrSlot = 63 ∧ q = j.ptrSector then .full else if opens ∧ q = next then .active else j.sector q) ∧
    t.pjr.queue = j.queue ++
      (if ¬ opens ∧ 32 ≤ j.ptrSlot + 1 ∧ j.sector next ∉ [SectorState.erased, .erasing, .suspended] ∧ next ∉ j.queue
       then [next] else [])

/-- After a program that failed in the pointer's slot there is a slot for the record again (R102, R105). -/
abbrev roomAfter (s : State) (urgent : Bool) : Prop :=
  s.pjr.ptrSlot ≤ 60 ∨ s.pjr.sector ((s.pjr.ptrSector + 1) % 4) = .erased ∨ (urgent = true ∧ s.pjr.ptrSlot ≤ 62)

/-- A crystal cycle may come in this microsecond: it is the crystal's time for it, or the crystal has been taken to
have stopped (R123, R124). -/
abbrev crystalDue (h : Holdover) : Prop := h.crystalRuns = false ∨ 15625 ≤ h.crystalPhase + 512

/-- The Holdover Domain after one microsecond, in which a crystal cycle that is due `comes` or not (R123, R124). -/
def holdoverLater (h : Holdover) (comes : Bool) : Holdover :=
  if h.powered = false then h
  else if crystalDue h ∧ comes = true then
    { h with crystalPhase := h.crystalPhase + 512 - 15625, prescaler := satInc 32767 h.prescaler,
             crystalRuns := true, crystalQuiet := 0 }
  else
    { h with crystalPhase := if crystalDue h then h.crystalPhase else h.crystalPhase + 512,
             crystalQuiet := satInc 8000 h.crystalQuiet }

/-- A frame begins by itself: a notice waits, the line is idle, and no line fault stands (R155). -/
abbrev frameBegins (p : Port) : Prop :=
  p.tx = .pending ∧ p.lineHigh = true ∧ 1146 ≤ p.idleTimer ∧ p.fault = false

/-- The port with a frame begun (R155). -/
def frameBegun (p : Port) : Port :=
  { p with tx := .sending, line := p.slot, echo := (match p.slot with | some n => noticeBytes n | none => []),
           newer := false, drives := true, sent := 0, lineHigh := false, idleTimer := 0, stuckTimer := 0,
           reader := { p.reader with last := false, before := false, place := some 0, bits := [] } }

/-- The output through the microsecond `us` of a frame: low at a bit that is zero; 19 200 bits a second (R151). -/
def drivenLow (line : Option Notice) (us : Nat) : Bool :=
  match line with
  | some n => (frameBits n)[us * 12 / 625]? == some false
  | none => false

/-- The sampling as a row leaves it that ends a character with the line at a level (log entry 15). -/
def readerAt (r : LineReader) (high : Bool) : LineReader :=
  { r with last := high, before := high, place := none, bits := [] }

/-- The sampling through a microsecond of a wire at the level `wire`, of a line last read `wasHigh` (R151, R152): 16
samples in a bit time, each of which gives the line the value of two at least of the latest three; a fall begins a
character, whose bits are read 8 samples on and every 16 from there, eleven in all, the first low. -/
def readerLater (r : LineReader) (wasHigh wire : Bool) : LineReader :=
  let high := 2 ≤ [wire, r.last, r.before].count true
  let q := { r with phase := r.phase + 192 - 625, last := wire, before := r.last }
  if r.phase + 192 < 625 then { r with phase := r.phase + 192 }
  else
    match r.place with
    | none => if wasHigh = true ∧ ¬ high then { q with place := some 0, bits := [] } else q
    | some n =>
      if n % 16 ≠ 7 then { q with place := some (n + 1) }
      else if r.bits = [] ∧ high then { q with place := none }
      else { q with place := if r.bits.length = 10 then none else some (n + 1), bits := r.bits ++ [decide high] }

/-- The level at which the line is then read. -/
def levelLater (r : LineReader) (wasHigh wire : Bool) : Bool :=
  if r.phase + 192 < 625 then wasHigh else 2 ≤ [wire, r.last, r.before].count true

/-- The port after one microsecond, in which another `pulls` the line low or not (R151, R152, R155 to R157, R159). -/
def portLater (p : Port) (warning pulls : Bool) : Port :=
  let q := if frameBegins p then frameBegun p else p
  let wire := !((if q.tx = .sending then drivenLow q.line q.sent else q.drives) || pulls)
  let high := levelLater q.reader q.lineHigh wire
  { q with drives := if q.tx = .sending then drivenLow q.line q.sent else q.drives,
           sent := if q.tx = .sending then satInc 4583 q.sent else q.sent,
           lineHigh := high, reader := readerLater q.reader q.lineHigh wire,
           idleTimer := if high then satInc 1146 q.idleTimer else 0,
           stuckTimer := if high || warning then 0 else satInc 11460 q.stuckTimer,
           backoff := q.backoff.map (· - 1), lfsr := lfsrStep q.lfsr }

/-! ## Layouts -/

/-- The number whose bit `i` is the `i`-th flag. -/
def flags : List Bool → Nat
  | [] => 0
  | b :: rest => (if b then 1 else 0) + 2 * flags rest

/-- Fields of bytes, each an offset, a width and a value, stand where they say, least significant byte first. -/
def LaidOut (bs : List Byte) (fields : List (Nat × Nat × Nat)) : Prop :=
  ∀ off w v, (off, w, v) ∈ fields → fieldAt bs off w = v % 256 ^ w

/-- The number of a phase in the table of R193. -/
def phaseNumber (p : Phase) : Nat := [Phase.none, .heat, .extend, .cool, .guard, .paused, .ended].idxOf p

/-- The number of a cycle state in the table of R193. -/
def cycleNumber (x : CycleState) : Nat :=
  [CycleState.config, .idle, .heat, .extend, .cool, .guard, .paused, .loss, .holdoverWait, .planning, .planReady,
    .done, .abandoned].idxOf x

/-- The number of a record kind (R192). -/
def kindNumber (k : RecordKind) : Nat :=
  1 + [RecordKind.start, .progress, .phase, .loss, .resume, .finish].idxOf k

/-- The reason flags (R192). -/
def reasonFlags (r : Reasons) : Nat :=
  flags [r.heatLimit, r.sensorFault, r.airflowFault, r.cancelled, r.doorEnd, r.journalFault]

/-- A Cycle Record's fields from cycle id to guard_remaining_s, from byte `o` (R192). -/
def cycleFields (o : Nat) (c : CycleRecord) : List (Nat × Nat × Nat) :=
  [(o, 2, c.cycleId), (o + 2, 1, phaseNumber c.phase), (o + 3, 1, phaseNumber c.before),
   (o + 4, 1, [Burst.rest, .tumble].idxOf c.burst), (o + 5, 2, c.burstTimer), (o + 7, 2, c.heated),
   (o + 9, 2, c.phaseElapsed), (o + 11, 2, c.tDry), (o + 13, 2, c.extTotal), (o + 15, 2, c.extDone),
   (o + 17, 2, c.coolElapsed), (o + 19, 2, c.guardRemaining)]

/-- A Cycle Descriptor's fields from byte `o` (R192). -/
def descriptorFields (o : Nat) (d : Descriptor) : List (Nat × Nat × Nat) :=
  [(o, 1, d.x), (o + 1, 2, d.minHeat), (o + 3, 2, d.maxHeat), (o + 5, 1, d.exhLimit), (o + 6, 1, d.coolTarget),
   (o + 7, 2, d.coolMin), (o + 9, 2, d.coolMax), (o + 11, 2, d.guardTotal), (o + 13, 2, d.guardRest),
   (o + 15, 1, d.guardTumble), (o + 16, 2, d.guardResumeMin), (o + 18, 1, d.stages), (o + 19, 1, d.dryRun),
   (o + 20, 1, d.dryHits), (o + 21, 2, d.wetThreshold)]

/-- A journal record's fields, of the bytes before the CRC-16 (R192). -/
def recordFields (r : Record) : List (Nat × Nat × Nat) :=
  [(0, 4, r.sequence), (4, 4, r.stamp), (8, 1, kindNumber r.kind),
   (9, 1, [EndReason.none, .complete, .cancelled, .doorEnd, .declined, .hostReset, .abandoned].idxOf r.endReason),
   (31, 1, r.exh), (32, 1, r.inl), (33, 1, reasonFlags r.cyc.reasons), (57, 5, 0)]
    ++ cycleFields 10 r.cyc ++ descriptorFields 34 r.desc

/-- The seven data bytes of a notice before its CRC-8 (R193). -/
def noticeFields (n : Notice) : List (Nat × Nat × Nat) :=
  [(0, 1, n.id + 32 * (if n.farewell then 2 else 1)), (1, 1, n.held), (2, 1, n.want + 64 * flags [n.resume]),
   (3, 2, n.key), (5, 1, n.budget), (6, 1, n.phase)]

/-- A channel record's fields from byte `o` of the status (R194). -/
def channelFields (o : Nat) (r : ChannelRecord) : List (Nat × Nat × Nat) :=
  [(o, 1, flags [r.periodMode, r.oscillation]), (o + 1, 3, r.count), (o + 4, 2, r.period), (o + 6, 2, r.ref),
   (o + 8, 2, r.w), (o + 10, 1, r.results)]

/-- A heater stage's fields from byte `o` of the status (R65, R194); a stage not asked for carries no reason. -/
def stageFields (o : Nat) (s : State) (k : Nat) (step : StepState) (x : Stage) : List (Nat × Nat × Nat) :=
  let asked := s.csq.state.heats && k ≤ s.csq.desc.stages
  [(o, 1, [StageState.off, .heldOff, .firing].idxOf x.state),
   (o + 1, 1, if asked then
      flags [step != .cover, s.ost.motor != .running, s.ost.doorOpen, s.ost.airHold, s.ost.tripped, sensorFault s,
        s.mwt.state != .present] else 0),
   (o + 2, 1, x.active), (o + 3, 1, x.pending)]

/-- The number of a thermistor's fault flag (R194). -/
def thermNumber (f : ThermFault) : Nat := [ThermFault.none, .opened, .short].idxOf f

/-- The number of a sector state (R194). -/
def sectorNumber (x : SectorState) : Nat :=
  if x = .unknown then 255
  else [SectorState.erased, .active, .full, .erasing, .suspended, .torn].idxOf x

/-- The flash operation's byte (R194). -/
def operationNumber : FlashOp → Nat
  | .ready => 0
  | .programming _ _ halted => 1 + 8 * flags [halted.isSome]
  | .erasing _ => 2
  | .suspending _ => 3
  | .suspended _ => 4

/-- The pending record's byte (R194). -/
def pendingNumber : Option PendingRecord → Nat
  | none => 0
  | some p => kindNumber p.copy.kind + 16 * flags [p.urgent, p.orderly]

/-- The unit state's number (R166, R194): LISTEN_IN 0, QUIET 1, INTENT 2, READY 3, HOLDING 4. -/
def unitNumber (s : State) : Nat :=
  if s.mwt.warning then 1
  else if s.pnl.setupDone = false ∨ s.fsu.listenIn.isSome = true ∨ s.scv.strapDone = false then 0
  else if held s = 0 ∧ s.fsu.want = 0 then 1
  else if held s < s.fsu.want then (if s.fsu.settle.isSome then 2 else 3)
  else 4

/-- The number of a step state (R194). -/
def stepNumber (x : StepState) : Nat := [StepState.free, .pending, .cover, .release].idxOf x

/-- The number of the cause of ISOLATED (R194). -/
def causeNumber (c : Option IsoCause) : Nat :=
  [none, some IsoCause.txFail, some .lineFault, some .noId].idxOf c

/-- Whole milliseconds left of a timer, rounded down (log entry 47). -/
def millis (t : Option Nat) : Nat := t.getD 0 / 1000

/-- The fields of the status snapshot, bytes 0 to 87 (R194). -/
def cycleStatusFields (s : State) : List (Nat × Nat × Nat) :=
  [(0, 1, cycleNumber s.csq.state), (1, 1, [ReadyReason.none, .doorOpen, .confirm].idxOf s.csq.ready),
   (2, 1, flags [s.pnl.evPhase, s.pnl.evPlan, s.pnl.evFault, s.pnl.evLine, s.pnl.setupDone, s.pnl.resetEnable]),
   (24, 1, reasonFlags s.csq.cyc.reasons),
   (48, 1, flags [s.scv.refFault] + 2 * thermNumber s.scv.exhFault + 8 * thermNumber s.scv.inlFault),
   (82, 1, s.dwn.exh), (83, 1, s.dwn.inl), (84, 1, s.dwn.window.length), (85, 1, s.dwn.window.countP id),
   (86, 1, (s.dwn.window.takeWhile (!·)).length),
   (87, 1, flags [s.dwn.verdict.full, s.dwn.verdict.heat, s.dwn.verdict.quiet, s.dwn.verdict.hits, s.dwn.reported])]
    ++ cycleFields 3 s.csq.cyc ++ descriptorFields 25 s.csq.desc ++ channelFields 49 s.scv.moist
    ++ channelFields 60 s.scv.exh ++ channelFields 71 s.scv.inl

/-- The fields of the status snapshot, bytes 88 to 114 (R194). A step under release is still in the cover (R71). -/
def outputStatusFields (s : State) : List (Nat × Nat × Nat) :=
  [(96, 1, s.settings.modulus), (97, 1, s.ost.position),
   (98, 1, flags
     [s.fsu.start = .cover || s.fsu.start = .release, s.fsu.stage1 = .cover || s.fsu.stage1 = .release,
      s.fsu.stage2 = .cover || s.fsu.stage2 = .release, false, s.fsu.start = .release, s.fsu.stage1 = .release,
      s.fsu.stage2 = .release]),
   (99, 1, flags [s.ost.tripped] + 2 * [MotorState.stopped, .starting, .running].idxOf s.ost.motor
     + 8 * flags [s.ost.reverse, s.ost.doorOpen, s.ost.airHold]),
   (100, 2, millis s.ost.startWindow), (102, 2, millis s.ost.coast), (104, 1, min s.ost.airLast 255),
   (105, 1, s.ost.lowRun), (106, 1, s.ost.goodRun), (107, 2, s.ost.cumHold),
   (109, 1, [MainsState.measuring, .present, .lossWarning, .returning, .lineFault].idxOf s.mwt.state),
   (110, 1, [LineClass.unknown, .hz50, .hz60].idxOf s.mwt.cls), (111, 2, s.mwt.lastHalf),
   (113, 1, flags [s.mwt.railTripped, s.mwt.warning, s.mwt.causeCrossing, s.mwt.causeRail]),
   (114, 1, s.mwt.returnCount)]
    ++ stageFields 88 s 1 s.fsu.stage1 s.ost.stage1 ++ stageFields 92 s 2 s.fsu.stage2 s.ost.stage2

/-- The fields of the status snapshot, bytes 115 to 153 (R194). -/
def unitStatusFields (s : State) : List (Nat × Nat × Nat) :=
  [(115, 1, sectorNumber s.pjr.sector0), (116, 1, sectorNumber s.pjr.sector1), (117, 1, sectorNumber s.pjr.sector2),
   (118, 1, sectorNumber s.pjr.sector3), (119, 1, if s.pjr.scanDone then s.pjr.ptrSector else 255),
   (120, 1, if s.pjr.scanDone then s.pjr.ptrSlot else 255), (121, 4, s.pjr.nextSeq),
   (125, 1, operationNumber s.pjr.op), (126, 1, pendingNumber s.pjr.pend), (127, 1, s.pjr.queue.getD 0 255),
   (128, 1, s.pjr.queue.getD 1 255), (129, 1, s.pjr.queue.getD 2 255),
   (130, 1, flags [s.pjr.lossMark, s.pjr.fault, s.pjr.newestBad, s.pjr.factoryGood]), (131, 4, s.hdm.clock),
   (135, 1, flags [s.hdm.clockLost, s.hdm.doorLatch] + 4 * [DoorView.unknown, .closed, .opened].idxOf s.hdm.view
     + 16 * flags [!s.mainPowered || s.csq.state = .loss || s.csq.state = .holdoverWait]),
   (136, 1, [TxState.empty, .pending, .backoff, .sending].idxOf s.plp.tx
     + 4 * (match s.plp.slot with | none => 0 | some n => if n.farewell then 2 else 1)
     + 16 * [RxState.idle, .receiving, .discard].idxOf s.plp.rx + 64 * flags [s.plp.fault]),
   (137, 1, s.plp.attempts), (138, 1, s.plp.consecutive), (139, 1, unitNumber s), (140, 1, held s),
   (141, 1, s.fsu.want), (142, 1, s.fsu.cls), (143, 2, s.fsu.key),
   (145, 1, stepNumber s.fsu.start + 4 * stepNumber s.fsu.stage1 + 16 * stepNumber s.fsu.stage2),
   (146, 2, millis s.fsu.settle), (148, 2, millis s.fsu.listenIn), (150, 2, millis s.fsu.notice),
   (152, 1, s.fsu.effective),
   (153, 1, flags [s.fsu.mismatch, s.fsu.isolated.isSome] + 4 * causeNumber s.fsu.isolated)]

/-- The fields of the Plan record that READ_PLAN returns (R194). -/
def planFields (p : Plan) : List (Nat × Nat × Nat) :=
  [(0, 1, [PlanOutcome.none, .resumeHeat, .resumeExtend, .resumeCool, .resumeGuard, .resumePaused, .endedDoor,
      .abandonedWindow, .abandonedClock].idxOf p.outcome),
   (1, 1, flags [p.unclean, p.fallback, p.tempUnknown, p.outage.isNone]),
   (2, 1, [Disposition.pending, .executed, .declined, .abandoned, .forced].idxOf p.disposition),
   (3, 1, flags [p.blink]), (4, 1, phaseNumber p.phaseAtLoss), (5, 1, phaseNumber p.remembered),
   (6, 4, p.sourceSeq), (10, 4, p.outage.getD 0), (14, 2, p.waited), (16, 1, p.tLoss), (17, 1, p.tRet),
   (18, 1, p.deltaT), (19, 2, p.reheat), (21, 2, p.newExt), (23, 2, p.newGuard)]

/-- The fields of one entry of the Peer Table dump (R194). -/
def peerFields (p : Peer) : List (Nat × Nat × Nat) :=
  [(0, 1, p.id), (1, 1, p.held), (2, 1, p.want), (3, 2, p.key), (5, 1, p.budget),
   (6, 1, p.phase % 16 + 16 * flags [p.resume]), (7, 1, min (p.age / 1000000) 3)]

/-- The counters in the order of R188. -/
def counterFields (s : State) : List (Nat × Nat × Nat) :=
  let c := s.pjr.counters
  [(0, 2, c.written), (2, 2, c.replaced), (4, 1, c.verifyFailures), (5, 1, c.abandoned), (6, 1, c.dropped),
   (7, 2, c.erases), (9, 1, c.eraseFailures), (10, 2, c.suspends), (12, 1, s.plp.collisions),
   (13, 1, s.plp.rxErrors), (14, 1, s.plp.txFailures), (15, 1, s.plp.clashes), (16, 1, s.fsu.tableFull),
   (17, 1, s.fsu.sheds), (18, 1, s.mwt.rejected)]

/-- The identity (R194). -/
def identFields (s : State) : List (Nat × Nat × Nat) :=
  [(0, 1, flags [s.pjr.factoryGood]), (1, 6, s.pjr.serial), (7, 2, s.pjr.product),
   (9, 1, flags [s.scv.strapDone, s.scv.strapFault]), (10, 1, s.scv.levelA.getD 255),
   (11, 1, s.scv.levelB.getD 255), (12, 1, s.scv.stationId)]

/-- Microseconds for which the line has stood at the level of a character's stop bit, at that bit's middle: the half
bit, and the bits before it of the same value (R151, R152). -/
def stopRun (data : Byte) (flag stop : Bool) : Nat :=
  let bits := [false, data.getLsbD 0, data.getLsbD 1, data.getLsbD 2, data.getLsbD 3, data.getLsbD 4, data.getLsbD 5,
    data.getLsbD 6, data.getLsbD 7, flag]
  (2 * (bits.reverse.takeWhile (· = stop)).length + 1) * 625 / 24

/-! ## The ring as the scan reads it -/

/-- A sector is TORN (R114): a programmed slot follows a BLANK one, or a later VALID record does not carry the higher
sequence. -/
def Torn (slots : List SlotRead) : Prop :=
  (∃ (i j : Nat) (x : SlotRead), i < j ∧ slots[i]? = some .blank ∧ slots[j]? = some x ∧ x ≠ .blank) ∨
  (∃ (i j : Nat) (r q : Record), i < j ∧ slots[i]? = some (.valid r) ∧ slots[j]? = some (.valid q) ∧
    q.sequence ≤ r.sequence)

/-- Every slot of a sector is BLANK. -/
def Blank (slots : List SlotRead) : Prop := ∀ x ∈ slots, x = .blank

/-- The newest valid record stands in slot `i` of sector `k` (R115); of two with one sequence number, which R103 does
not let the part write before its numbers are exhausted, the lower sector's counts (log entry 22). -/
def NewestAt (m : List Host.Cell) (k i : Nat) (n : Record) : Prop :=
  k < 4 ∧ ¬ Torn (readSector m k) ∧ (readSector m k)[i]? = some (.valid n) ∧
  ∀ (q j : Nat) (r : Record), q < 4 → ¬ Torn (readSector m q) → (readSector m q)[j]? = some (.valid r) →
    r.sequence < n.sequence ∨ (r.sequence = n.sequence ∧ k ≤ q)


/-- Every field of a Cycle Record fits its bytes of the journal record (R192). -/
abbrev cycleFits (c : CycleRecord) : Prop :=
  c.cycleId < 65536 ∧ c.burstTimer < 65536 ∧ c.heated < 65536 ∧ c.phaseElapsed < 65536 ∧ c.tDry < 65536 ∧
  c.extTotal < 65536 ∧ c.extDone < 65536 ∧ c.coolElapsed < 65536 ∧ c.guardRemaining < 65536

/-- Every field of a Cycle Descriptor fits its bytes (R192). -/
abbrev descriptorFits (d : Descriptor) : Prop :=
  d.x < 256 ∧ d.minHeat < 65536 ∧ d.maxHeat < 65536 ∧ d.exhLimit < 256 ∧ d.coolTarget < 256 ∧ d.coolMin < 65536 ∧
  d.coolMax < 65536 ∧ d.guardTotal < 65536 ∧ d.guardRest < 65536 ∧ d.guardTumble < 256 ∧
  d.guardResumeMin < 65536 ∧ d.stages < 256 ∧ d.dryRun < 256 ∧ d.dryHits < 256 ∧ d.wetThreshold < 65536

/-- Every field of a record fits its bytes (R192). -/
abbrev recordFits (r : Record) : Prop :=
  r.sequence < 4294967296 ∧ r.stamp < 4294967296 ∧ cycleFits r.cyc ∧ r.exh < 256 ∧ r.inl < 256 ∧
  descriptorFits r.desc

/-- Every field of a notice fits its character, with a sender and a budget that the checks of R161 accept. -/
abbrev noticeFits (n : Notice) : Prop :=
  1 ≤ n.id ∧ n.id ≤ 31 ∧ n.held < 64 ∧ n.want < 64 ∧ n.key < 32768 ∧ n.budget < 64 ∧
  (n.farewell = false → n.budget ≠ 0) ∧ n.phase < 16

/-! ## What every step keeps -/

/-- The flash is in canonical form. -/
abbrev FlashOk (s : State) : Prop := Memory.wf s.flash = true

/-- The backoff generator's value is never 0 (R157). -/
abbrev GeneratorOk (s : State) : Prop := s.plp.lfsr ≠ 0

/-- The wet-hit window holds at most 32 samples (R54). -/
abbrev WindowOk (s : State) : Prop := s.dwn.window.length ≤ 32

/-- The converter is in the strap phase until STRAP_DONE, its station id is 0 until then and at most 31 ever
(R43). -/
abbrev StrapsOk (s : State) : Prop :=
  (s.scv.strapDone = true ↔ (s.scv.meas ≠ .strapRef ∧ s.scv.meas ≠ .strapGate)) ∧ s.scv.stationId ≤ 31 ∧
  (s.scv.strapDone = false → s.scv.stationId = 0)

/-- The Peer Table holds at most 30 entries, at most one per station id, none for id 0, none above 31 and
none for the station's own id (R171); none before STRAP_DONE, since no notice is received before it (R160). -/
abbrev PeersOk (s : State) : Prop :=
  s.fsu.peers.length ≤ 30 ∧ (s.fsu.peers.map Peer.id).Pairwise (· < ·) ∧
  (∀ p ∈ s.fsu.peers, 1 ≤ p.id ∧ p.id ≤ 31 ∧ (s.scv.stationId ≠ 0 → p.id ≠ s.scv.stationId)) ∧
  (s.scv.strapDone = false → s.fsu.peers = [])

/-- A step is in the cover, a release not yet confirmed counting as in it (R69, R71). -/
abbrev Covered (x : StepState) : Prop := x = .cover ∨ x = .release

/-- The feeder units that the closed relays and a motor in its start window draw (R69). -/
def energized (s : State) : Nat :=
  (if s.ost.stage1.on then s.settings.weight1 else 0) + (if s.ost.stage2.on then s.settings.weight2 else 0)
    + (if s.ost.motor = .starting then s.settings.startUnits else 0)

/-- What rules out a load without its units: before SETUP the sequencer is in CONFIG with the motor STOPPED and no
plan awaited (R21);
the mains is not PRESENT under an outstanding warning, nor does the motor turn outside PRESENT (R81, R93); and in
PRESENT a stage that conducts and a motor in its start window have their steps in the cover (R69). -/
abbrev EnergizedOk (s : State) : Prop :=
  (s.pnl.setupDone = false → s.csq.state = .config ∧ s.ost.motor = .stopped ∧ s.rpl.state ≠ .making) ∧
  (s.mwt.warning = true → s.mwt.state ≠ .present) ∧
  (s.mwt.state ≠ .present → s.ost.motor = .stopped) ∧
  (s.mwt.state = .present →
    (s.ost.stage1.on = true → Covered s.fsu.stage1) ∧ (s.ost.stage2.on = true → Covered s.fsu.stage2) ∧
    (s.ost.motor = .starting → Covered s.fsu.start ∨ s.settings.startUnits = 0))

/-- The pending record is empty while JOURNAL_FAULT stands (R106). -/
abbrev FaultOk (s : State) : Prop := s.pjr.fault = true → s.pjr.pend = none

/-- The phase follows the cycle state in HEAT, EXTEND, COOL, GUARD and PAUSED, and is ENDED in DONE and
ABANDONED (R5). -/
def PhaseOk (s : State) : Prop :=
  match s.csq.state with
  | .heat => s.csq.cyc.phase = .heat
  | .extend => s.csq.cyc.phase = .extend
  | .cool => s.csq.cyc.phase = .cool
  | .guard => s.csq.cyc.phase = .guard
  | .paused => s.csq.cyc.phase = .paused
  | .done | .abandoned => s.csq.cyc.phase = .ended
  | .config | .idle | .loss | .holdoverWait | .planning | .planReady => True

end Sys2Proof.Safety
end

