-- ==== Sys2Proof/Certificates/Slice0/Obligations.lean ====
section
/-! DEFINITION. The statements for the provers. -/

open Sys2Proof Sys2Proof.Machine Sys2Proof.Safety

/-! ## The machine -/

/-- A step runs the command at the front of the queue on the state with the queue's rest. -/
def Obligations.StepRunsTheFrontCommand : Prop :=
  ∀ (s : State) (c : Instr) (rest : List Instr), s.pending = c :: rest →
    step s = exec c { s with pending := rest }

/-- On an empty queue one microsecond passes (the model's choice, log entry 1), and the whole state after it is this:
every running timer has counted, the journal has begun what a free array lets it begin and the port a frame that may
begin, the frame being sent drives the line, the backoff generator has stepped, and nothing else has changed. Timers
stop at their limits and wait there for their rows (log entries 1 and 34); the crystal's time is the model's own count
(log entry 9), whether its cycle comes and whether another station holds the line low are free values (log entries 32
and 42), and the rail healthy timer counts from the latest trip (log entry 49). Without the main supply the Holdover
Domain alone runs on. -/
def Obligations.IdleStepIsOneMicrosecond : Prop :=
  ∀ s : State, s.pending = [] →
    let h := holdoverLater s.hdm (Config.crystalCycle s.freeCount)
    (s.mainPowered = false → step s = .next { s with hdm := h, freeCount := s.freeCount + 1 }) ∧
    (s.mainPowered = true → step s = .next { s with
      hdm := h,
      freeCount := s.freeCount + 1,
      csq := { s.csq with second := satInc 1000000 s.csq.second },
      scv := { s.scv with
        periodTimer := if s.scv.meas = .period then satInc 65535 s.scv.periodTimer else s.scv.periodTimer,
        gateTimer := if s.scv.meas = .period then s.scv.gateTimer else satInc 20000 s.scv.gateTimer },
      ost := { s.ost with startWindow := s.ost.startWindow.map (· - 1), coast := s.ost.coast.map (· - 1),
                          dropTimer := s.ost.dropTimer.map (· - 1) },
      mwt := { s.mwt with
        missing := satInc 65535 s.mwt.missing,
        railHealthy := if s.mwt.railTripped then satInc 20000 s.mwt.railHealthy else s.mwt.railHealthy },
      pjr := { s.pjr.begins with sinceResume := s.pjr.begins.sinceResume.map (satInc 1000) },
      plp := portLater s.plp s.mwt.warning (Config.lineLow s.freeCount),
      fsu := { s.fsu with
        settle := s.fsu.settle.map (· - 1), listenIn := s.fsu.listenIn.map (· - 1),
        notice := s.fsu.notice.map (· - 1),
        peers := s.fsu.peers.map fun p => { p with age := satInc 4000000 p.age } } })

/-- Every command takes a next state in every state, and leaves the queue as it finds it. That a command
whose event cannot occur in the present state changes nothing and yet answers a next state is the model's choice (log
entry 2). -/
def Obligations.EveryCommandCompletes : Prop :=
  ∀ (c : Instr) (s : State), ∃ t, exec c s = .next t ∧ t.pending = s.pending

/-! ## Resets and supplies -/

/-- A main reset (MAIN_RESET), and a host reset that is due (HOST_RESET), put every main-domain block at its value after
reset (R2, R5, R18, R26, R45, R62, R83, R95, R121, R150, R165, R182,
R191), leave the Holdover Domain as it stands but for what the door did in the meantime, with the watch ON (R127), and
change no flash byte but those of the operation they cut off. The row carries those changes of the door view (log entry
16); the marks of a stage, of the want and of a frame being sent are the model's own fields, and a cycle id of 0 until
the scan sets it is the model's choice (log entry 13). -/
def Obligations.MainDomainReset : Prop :=
  ∀ (s : State) (c : Instr) (views : List Bool),
    (c = .mainReset ⟨false, views⟩ ∧ s.hdm.powered = true) ∨
      (c = .hostReset ⟨false, views⟩ ∧ s.mainPowered = true ∧ s.pnl.resetPending = true ∧ s.csq.endAwaited = false) →
    FlashOk s → ∃ t, exec c s = .next t ∧ t.mainPowered = true ∧ DoorsWatched s.hdm views t.hdm ∧
      t.csq.state = .config ∧ t.csq.cyc = ⟨0, .none, .none, .rest, 0, 0, 0, 0, 0, 0, 0, 0, Reasons.clear⟩ ∧
      t.csq.desc = ⟨0, 0, 0, 0, 0, 0, 0, 0, 0, 0, 0, 0, 0, 0, 0⟩ ∧ t.csq.progress = 0 ∧ t.csq.faultCount = 0 ∧
      t.csq.fired = false ∧ t.csq.mainsBack = false ∧ t.csq.ready = .none ∧ t.csq.endReason = .none ∧
      t.scv.meas = .strapRef ∧ t.scv.pair = 1 ∧ t.scv.attempt = 1 ∧ t.scv.refFault = false ∧
      t.scv.exhFault = .none ∧ t.scv.inlFault = .none ∧ t.scv.stationId = 0 ∧ t.scv.strapDone = false ∧
      t.scv.strapFault = false ∧ t.scv.levelA = none ∧ t.scv.levelB = none ∧ t.scv.passLevels = [] ∧
      t.scv.moist = ⟨false, 0, 0, 0, true, 0, 0⟩ ∧ t.scv.exh = ⟨false, 0, 0, 0, true, 0, 0⟩ ∧
      t.scv.inl = ⟨false, 0, 0, 0, true, 0, 0⟩ ∧
      t.ost.stage1 = ⟨.off, false, 0, 0, false⟩ ∧ t.ost.stage2 = ⟨.off, false, 0, 0, false⟩ ∧ t.ost.position = 0 ∧
      t.ost.tripped = false ∧ t.ost.motor = .stopped ∧ t.ost.runRelay = false ∧ t.ost.startWindow = none ∧
      t.ost.coast = none ∧ t.ost.reverse = false ∧ t.ost.doorOpen = true ∧ t.ost.airCount = 0 ∧
      t.ost.lowRun = 0 ∧ t.ost.goodRun = 0 ∧ t.ost.airHold = false ∧ t.ost.cumHold = 0 ∧
      t.ost.airReported = false ∧
      t.mwt.state = .measuring ∧ t.mwt.cls = .unknown ∧ t.mwt.lastHalf = 0 ∧ t.mwt.blockCount = 0 ∧
      t.mwt.blockSum = 0 ∧ t.mwt.missing = 0 ∧ t.mwt.railTripped = false ∧ t.mwt.warning = false ∧
      t.mwt.causeCrossing = false ∧ t.mwt.causeRail = false ∧ t.mwt.returnCount = 0 ∧
      t.mwt.returnCrossings = 0 ∧ t.mwt.rejected = 0 ∧
      t.pjr.nextSeq = 0 ∧ t.pjr.pend = none ∧ t.pjr.op = .ready ∧ t.pjr.sinceResume = none ∧ t.pjr.queue = [] ∧
      t.pjr.lossMark = false ∧ t.pjr.consecutive = 0 ∧ t.pjr.fault = false ∧ t.pjr.newest = none ∧
      t.pjr.newestBad = false ∧ t.pjr.scanDone = false ∧ t.pjr.activeFound = false ∧
      t.pjr.factoryGood = false ∧ t.pjr.serial = 0 ∧ t.pjr.product = 0 ∧
      t.pjr.counters = ⟨0, 0, 0, 0, 0, 0, 0, 0⟩ ∧
      t.pjr.sector0 = .unknown ∧ t.pjr.sector1 = .unknown ∧ t.pjr.sector2 = .unknown ∧ t.pjr.sector3 = .unknown ∧
      t.dwn = ⟨0, 0, false, false, [], ⟨false, false, false, false⟩, false⟩ ∧
      t.rpl = ⟨.empty, ⟨.none, false, false, false, .pending, false, .none, .none, 0, none, 0, 0, 0, 0, 0, 0, 0⟩,
        none⟩ ∧
      t.plp.tx = .empty ∧ t.plp.slot = none ∧ t.plp.newer = false ∧ t.plp.attempts = 0 ∧ t.plp.backoff = none ∧
      t.plp.line = none ∧ t.plp.drives = false ∧ t.plp.sent = 0 ∧ t.plp.echo = [] ∧ t.plp.rx = .idle ∧ t.plp.gathered = [] ∧ t.plp.idleTimer = 0 ∧
      t.plp.stuckTimer = 0 ∧ t.plp.fault = false ∧ t.plp.consecutive = 0 ∧ t.plp.lfsr = 1 ∧
      t.plp.collisions = 0 ∧ t.plp.rxErrors = 0 ∧ t.plp.txFailures = 0 ∧ t.plp.clashes = 0 ∧
      t.fsu.start = .free ∧ t.fsu.stage1 = .free ∧ t.fsu.stage2 = .free ∧ t.fsu.want = 0 ∧
      t.fsu.wants = ⟨false, false, false⟩ ∧ t.fsu.cls = 2 ∧ t.fsu.settle = none ∧ t.fsu.notice = none ∧ t.fsu.listenIn = none ∧ t.fsu.peers = [] ∧
      t.fsu.effective = 0 ∧ t.fsu.mismatch = false ∧ t.fsu.isolated = none ∧ t.fsu.tableFull = 0 ∧
      t.fsu.sheds = 0 ∧
      t.pnl.response = none ∧ t.pnl.setupDone = false ∧ t.pnl.evPhase = false ∧ t.pnl.evPlan = false ∧
      t.pnl.evLine = false ∧ t.pnl.evFault = s.hdm.clockLost ∧ t.pnl.resetEnable = false ∧
      t.pnl.resetPending = false ∧
      (s.pjr.op = .ready → t.flash = s.flash ∧ t.freeCount = s.freeCount) ∧
      (∀ a, ¬ inOperation s.pjr a → Memory.read t.flash a = Memory.read s.flash a)

/-- A host reset is not made before its END record is done, nor without a taken RESET, nor without supply (R26); and a
rail input at its trip level as a main reset ends is taken as a trip: MEASURING enters LOSS_WARNING with the cause
RAIL, and the sequencer stays in CONFIG (R89). -/
def Obligations.ResetEdges : Prop :=
  (∀ (s : State) (b : Bool) (views : List Bool),
    s.mainPowered = false ∨ s.pnl.resetPending = false ∨ s.csq.endAwaited = true →
    exec (.hostReset ⟨b, views⟩) s = .next s) ∧
  (∀ (s : State) (views : List Bool), ∃ t, exec (.mainReset ⟨true, views⟩) s = .next t ∧ t.csq.state = .config ∧
    t.mwt.state = .lossWarning ∧ t.mwt.railTripped = true ∧ t.mwt.warning = true ∧ t.mwt.causeRail = true ∧
    t.mwt.causeCrossing = false ∧ t.mwt.cls = .unknown ∧ t.pjr.lossMark = true ∧ t.pjr.pend = none)

/-- The Dryness Window after every main-domain reset (R62); a holdover power-on happens without the main supply alone
(R122), and with it the row changes nothing (the model's choice, log entry 2). -/
def Obligations.DrynessWindowAfterReset : Prop :=
  (∀ (s : State) (b : Bool) (views : List Bool), ∃ t, exec (.mainReset ⟨b, views⟩) s = .next t ∧
    t.dwn = ⟨0, 0, false, false, [], ⟨false, false, false, false⟩, false⟩ ∧
    fillCount t.dwn = 0 ∧ hitCount t.dwn = 0 ∧ quietCount t.dwn = 0) ∧
  (∀ (s : State) (b : Bool) (views : List Bool), s.mainPowered = true → s.pnl.resetPending = true →
    s.csq.endAwaited = false →
    ∃ t, exec (.hostReset ⟨b, views⟩) s = .next t ∧
      t.dwn = ⟨0, 0, false, false, [], ⟨false, false, false, false⟩, false⟩ ∧
      fillCount t.dwn = 0 ∧ hitCount t.dwn = 0 ∧ quietCount t.dwn = 0) ∧
  (∀ s : State, s.mainPowered = true → exec .holdoverPowerOn s = .next s)

/-- The Resume Planner after every main-domain reset (R150); a holdover power-on happens without the main supply alone
(R122), and with it the row changes nothing (the model's choice, log entry 2). -/
def Obligations.PlannerAfterReset : Prop :=
  (∀ (s : State) (b : Bool) (views : List Bool), ∃ t, exec (.mainReset ⟨b, views⟩) s = .next t ∧
    t.rpl = ⟨.empty, ⟨.none, false, false, false, .pending, false, .none, .none, 0, none, 0, 0, 0, 0, 0, 0, 0⟩,
      none⟩) ∧
  (∀ (s : State) (b : Bool) (views : List Bool), s.mainPowered = true → s.pnl.resetPending = true →
    s.csq.endAwaited = false →
    ∃ t, exec (.hostReset ⟨b, views⟩) s = .next t ∧
      t.rpl = ⟨.empty, ⟨.none, false, false, false, .pending, false, .none, .none, 0, none, 0, 0, 0, 0, 0, 0, 0⟩,
        none⟩) ∧
  (∀ s : State, s.mainPowered = true → exec .holdoverPowerOn s = .next s)

/-- The supplies (R122, R125): the Holdover Domain after a holdover power-on, by itself or with a main power-on (log
entry 20);
MAIN_SUPPLY_FAIL stops the main domain and leaves the Holdover Domain and, outside the operation it cuts off, the flash;
HOLDOVER_SUPPLY_LOSS, only without the main supply, takes the Holdover Domain's state and nothing else. -/
def Obligations.Supplies : Prop :=
  (∀ s : State, s.mainPowered = false → s.hdm.powered = false →
    ∃ t, exec .holdoverPowerOn s = .next t ∧ t = { s with hdm := t.hdm } ∧ t.hdm.powered = true ∧
      t.hdm.prescaler = 0 ∧ t.hdm.clock = 0 ∧ t.hdm.clockLost = true ∧ t.hdm.doorLatch = true ∧
      t.hdm.view = .unknown ∧ t.hdm.crystalRuns = true ∧ t.hdm.crystalQuiet = 0 ∧ doorWatch t = true) ∧
  (∀ (s : State) (b : Bool) (views : List Bool), s.hdm.powered = false →
    ∃ t, exec (.mainReset ⟨b, views⟩) s = .next t ∧ t.hdm.powered = true ∧ t.hdm.prescaler = 0 ∧ t.hdm.clock = 0 ∧
      t.hdm.clockLost = true ∧ t.hdm.doorLatch = true ∧ (views = [] → t.hdm.view = .unknown) ∧
      t.pnl.evFault = true) ∧
  (∀ s : State, s.mainPowered = true → FlashOk s → ∃ t, exec .mainSupplyFail s = .next t ∧
    t.mainPowered = false ∧ t.hdm = s.hdm ∧ t.ost.motor = .stopped ∧ t.ost.stage1.on = false ∧
    t.ost.stage2.on = false ∧ t.ost.runRelay = false ∧ doorWatch t = true ∧
    (∀ a, ¬ inOperation s.pjr a → Memory.read t.flash a = Memory.read s.flash a)) ∧
  (∀ s : State, s.mainPowered = false → s.hdm.powered = true → ∃ t, exec .holdoverSupplyLoss s = .next t ∧
    t.hdm.powered = false ∧ t = { s with hdm := t.hdm }) ∧
  (∀ s : State, s.mainPowered = true → exec .holdoverSupplyLoss s = .next s)

/-! ## Frames of the host -/

/-- What every frame of whole bytes comes to before a command's own rule (R183, R184, R190): an empty frame reads the
buffer alone, an unknown code is answered UNKNOWN, a wrong length BAD_LENGTH, and while a reset is pending every
other command BUSY; nothing else changes but the data output and the reset-enable latch. The data output carries the
idle pattern while the buffer is empty, and otherwise the response's status code, length, payload and fill (R194). -/
def Obligations.FramesAnswered : Prop :=
  (∀ s : State, s.mainPowered = true →
    (∀ n, exec (.emptyFrame n) s = .next { s with pnl := { s.pnl with dataOut := clockOut s.pnl.response n } }) ∧
    (∀ code tail, code ∉ commandCodes → code ≠ 0xFF →
      commandOfFrame (code :: tail) = .unknownCommand code tail ∧
      exec (.unknownCommand code tail) s = .next (answered s tail.length false .unknown [])) ∧
    (∀ code tail, code ∈ commandCodes → ¬ carries tail (payloadLength code) →
      exec (commandOfFrame (code :: tail)) s =
        .next (answered s tail.length (code = 0x20 || code = 0x21) .badLength [])) ∧
    (∀ code tail, code ∈ commandCodes → carries tail (payloadLength code) → s.pnl.resetPending = true →
      exec (commandOfFrame (code :: tail)) s =
        .next (answered s tail.length (code = 0x20 || code = 0x21) .busy []))) ∧
  (∀ n i, i < n → (clockOut none n)[i]? = some 0xFF) ∧ (∀ n, (clockOut none n).length = n) ∧
  (∀ (st : Status) (p : List Byte) (n : Nat), (clockOut (some ⟨st, p⟩) n).length = n ∧
    (0 < n → (clockOut (some ⟨st, p⟩) n)[0]? = some (BitVec.ofNat 8 (statusCode st))) ∧
    (1 < n → (clockOut (some ⟨st, p⟩) n)[1]? = some (BitVec.ofNat 8 p.length)) ∧
    (∀ i, i < p.length → i + 2 < n → (clockOut (some ⟨st, p⟩) n)[i + 2]? = p[i]?) ∧
    (∀ i, p.length ≤ i → i + 2 < n → (clockOut (some ⟨st, p⟩) n)[i + 2]? = some 0xFF))

/-- A frame's bytes carry one command, well-formed, and that command's frame is those bytes again, but that an empty
frame's bytes after the first are not kept (R183, R194). -/
def Obligations.FrameOfBytes : Prop :=
  ∀ bs : List Byte, (commandOfFrame bs).wf = true ∧
    (bs.head? ≠ some 0xFF → frameOfCommand (commandOfFrame bs) = some bs) ∧
    (bs.head? = some 0xFF → commandOfFrame bs = .emptyFrame bs.length)

/-- The payloads of SETUP and START, byte by byte (R194). -/
def Obligations.PayloadLayouts : Prop :=
  (∀ b0 b1 b2 b3 b4 b5 b6 b7 b8 b9 b10 b11 b12 : Byte,
    settingsOfBytes [b0, b1, b2, b3, b4, b5, b6, b7, b8, b9, b10, b11, b12] =
      { budget := b0.toNat, weight1 := b1.toNat, weight2 := b2.toNat, startUnits := b3.toNat,
        isolatedCap := b4.toNat, minHeard := b5.toNat = 1, autoResume := b6.toNat = 1,
        resumeWindow := b7.toNat + 256 * b8.toNat, reheatRate := b9.toNat, reverseFitted := b10.toNat = 1,
        modulus := b11.toNat, airflowMin := b12.toNat } ∧
    setupFaults [b0, b1, b2, b3, b4, b5, b6, b7, b8, b9, b10, b11, b12] =
      [!(1 ≤ b0.toNat && b0.toNat ≤ 63), !(1 ≤ b1.toNat && b1.toNat ≤ 31), !(b2.toNat ≤ 31), !(b3.toNat ≤ 15),
       !(b4.toNat ≤ 31), !(b5.toNat ≤ 1), !(b6.toNat ≤ 1), !(60 ≤ b7.toNat + 256 * b8.toNat), !(b9.toNat ≤ 15),
       !(b10.toNat ≤ 1), !(b11.toNat = 16 || b11.toNat = 32 || b11.toNat = 64), false]) ∧
  (∀ d0 d1 d2 d3 d4 d5 d6 d7 d8 d9 d10 d11 d12 d13 d14 d15 d16 d17 d18 d19 d20 d21 d22 : Byte,
    descriptorOfBytes [d0, d1, d2, d3, d4, d5, d6, d7, d8, d9, d10, d11, d12, d13, d14, d15, d16, d17, d18, d19,
        d20, d21, d22] =
      { x := d0.toNat, minHeat := d1.toNat + 256 * d2.toNat, maxHeat := d3.toNat + 256 * d4.toNat,
        exhLimit := d5.toNat, coolTarget := d6.toNat, coolMin := d7.toNat + 256 * d8.toNat,
        coolMax := d9.toNat + 256 * d10.toNat, guardTotal := d11.toNat + 256 * d12.toNat,
        guardRest := d13.toNat + 256 * d14.toNat, guardTumble := d15.toNat,
        guardResumeMin := d16.toNat + 256 * d17.toNat, stages := d18.toNat, dryRun := d19.toNat,
        dryHits := d20.toNat, wetThreshold := d21.toNat + 256 * d22.toNat })

/-- A taken SETUP applies the settings and leaves CONFIG: for PLANNING with an active cycle found, else for IDLE with
the holdover flags cleared; the unit begins its listen-in, and a station known to be of id 0 is isolated, with the
line-mode event unless it already was for another cause (the model's reading of R179, log entry 30). -/
def Obligations.SetupTaken : Prop :=
  ∀ (s : State) (l : Byte) (p : List Byte), s.mainPowered = true → l.toNat = 13 → p.length = 13 →
    s.pnl.resetPending = false → s.pnl.setupDone = false → s.pjr.scanDone = true → s.csq.state = .config →
    (setupFaults p).all (· = false) →
    ∃ t, exec (.setup (l :: p)) s = .next t ∧ Settled
      { s with
        settings := settingsOfBytes p,
        csq := { s.csq with state := if s.pjr.activeFound then .planning else .idle, ready := .none },
        rpl := if s.pjr.activeFound then { state := .making, plan := .reset, basis := none } else s.rpl,
        hdm := if s.pjr.activeFound then s.hdm else { s.hdm with clockLost := false, doorLatch := false },
        fsu := { s.fsu with
          listenIn := some 3000000,
          isolated := if s.scv.strapDone && s.scv.stationId = 0 then some .noId else s.fsu.isolated },
        pnl := { s.pnl with
          response := some ⟨.ok, []⟩, dataOut := clockOut s.pnl.response 15, resetEnable := false,
          setupDone := true, evPhase := true,
          evLine := s.pnl.evLine || (s.scv.strapDone && s.scv.stationId = 0 && s.fsu.isolated.isNone) } } t

/-- Where a command is refused, nothing but its answer changes: a SETUP given again, before the scan is complete, or with
a field out of range (R185), and the cycle commands by the table "Cycle commands by state". -/
def Obligations.CommandsRefused : Prop :=
  (∀ (s : State) (l : Byte) (p : List Byte), s.mainPowered = true → l.toNat = 13 → p.length = 13 →
    s.pnl.resetPending = false →
    (s.pnl.setupDone = true → exec (.setup (l :: p)) s = .next (answered s 14 false .alreadySet [])) ∧
    (s.pnl.setupDone = false → s.pjr.scanDone = false →
      exec (.setup (l :: p)) s = .next (answered s 14 false .busy [])) ∧
    (s.pnl.setupDone = false → s.pjr.scanDone = true → true ∈ setupFaults p →
      exec (.setup (l :: p)) s =
        .next (answered s 14 false .badValue (leBytes 2 (maskNat (setupFaults p)))))) ∧
  (∀ s : State, s.mainPowered = true → s.pnl.resetPending = false →
    (∀ l p, l.toNat = 23 → p.length = 23 →
      (s.csq.state ≠ .idle → s.csq.state ≠ .done → s.csq.state ≠ .abandoned →
        exec (.start (l :: p)) s = .next (answered s 24 false .refusedState [])) ∧
      (s.csq.state = .idle ∨ s.csq.state = .done ∨ s.csq.state = .abandoned → s.ost.doorOpen = true →
        exec (.start (l :: p)) s = .next (answered s 24 false .doorOpen []))) ∧
    (s.csq.state ≠ .heat → s.csq.state ≠ .extend → s.csq.state ≠ .cool → s.csq.state ≠ .guard →
      exec (.pause [0]) s = .next (answered s 1 false .refusedState []) ∧
      (s.csq.state ≠ .paused → exec (.cancel [0]) s = .next (answered s 1 false .refusedState []))) ∧
    (s.csq.state ≠ .paused → exec (.continueCycle [0]) s = .next (answered s 1 false .refusedState [])) ∧
    (s.csq.state = .paused → s.ost.doorOpen = true →
      exec (.continueCycle [0]) s = .next (answered s 1 false .doorOpen [])) ∧
    (s.csq.state ≠ .planReady →
      exec (.confirmResume [0]) s = .next (answered s 1 false .refusedState []) ∧
      exec (.declineResume [0]) s = .next (answered s 1 false .refusedState [])) ∧
    (s.csq.state = .planReady → s.ost.doorOpen = true →
      exec (.confirmResume [0]) s = .next (answered s 1 false .doorOpen [])) ∧
    (s.csq.state ≠ .abandoned → exec (.forceResume [0]) s = .next (answered s 1 false .refusedState [])) ∧
    (s.csq.state = .abandoned → s.ost.doorOpen = true →
      exec (.forceResume [0]) s = .next (answered s 1 false .doorOpen [])))

/-! ## Cycle commands -/

/-- A START taken in IDLE, DONE or ABANDONED with the door closed (R4): the clamped descriptor is stored, the cycle id
rises by one with its wrap, the Cycle Record is cleared, the window too, the pending duties are full, HEAT is
entered and a START record requested; the class is 3 while the motor stands still. -/
def Obligations.StartTaken : Prop :=
  ∀ (s : State) (l : Byte) (p : List Byte), s.mainPowered = true → l.toNat = 23 → p.length = 23 →
    s.pnl.resetPending = false → (s.csq.state = .idle ∨ s.csq.state = .done ∨ s.csq.state = .abandoned) →
    s.ost.doorOpen = false →
    ∀ c, clampDescriptor s.settings.weight2 (descriptorOfBytes p) = c →
    ∃ t, exec (.start (l :: p)) s = .next t ∧ (s.ost.motor = .stopped → t.fsu.cls = 3) ∧ Settled
      (requestRecord
        { s with
          csq := { s.csq with
            state := .heat, ready := .none, desc := c.1, faultCount := 0,
            cyc := ⟨(s.csq.cyc.cycleId + 1) % 65536, .heat, .none, .rest, 0, 0, 0, 0, 0, 0, 0, 0, Reasons.clear⟩ },
          dwn := { s.dwn with resultSeen := false, hitSeen := false, window := [], verdict := .none,
                              reported := false },
          ost := { s.ost with
            stage1 := { s.ost.stage1 with pending := s.settings.modulus },
            stage2 := { s.ost.stage2 with pending := s.settings.modulus }, cumHold := 0, airReported := false },
          pnl := { s.pnl with
            response := some (if c.2.any id then ⟨.clamped, leBytes 2 (maskNat c.2)⟩ else ⟨.ok, []⟩),
            dataOut := clockOut s.pnl.response 25, resetEnable := false, evPhase := true } }
        .start .none) t

/-- R3, whole: the clamps of START. Each field is held to its range, with its default where it has one; cool_max is not left
below cool_min, nor stages_wanted 2 without a stage 2; and the mask names exactly the fields that were changed from
what was given, but for a default, in offset order; a START that is taken stores the clamped descriptor and answers OK, or
CLAMPED with the mask. -/
def Obligations.DescriptorClamps : Prop :=
  ∀ (w2 : Nat) (d e : Descriptor) (m : List Bool), clampDescriptor w2 d = (e, m) →
    e.x = min d.x 63 ∧ e.minHeat = max 60 (min d.minHeat 600) ∧ e.maxHeat = max 600 (min d.maxHeat 7200) ∧
    e.exhLimit = (if d.exhLimit = 255 then 150 else max 120 (min d.exhLimit 220)) ∧
    e.coolTarget = max 40 (min d.coolTarget 160) ∧ e.coolMin = max 60 (min d.coolMin 1800) ∧
    e.coolMax = max (max 120 (min d.coolMax 3600)) e.coolMin ∧ e.guardTotal = min d.guardTotal 7200 ∧
    e.guardRest = max 30 (min d.guardRest 600) ∧ e.guardTumble = max 5 (min d.guardTumble 60) ∧
    e.guardResumeMin = min d.guardResumeMin 3600 ∧
    e.stages = (if w2 = 0 then 1 else max 1 (min d.stages 2)) ∧
    e.dryRun = (if d.dryRun = 255 then 20 else max 8 (min d.dryRun 32)) ∧
    e.dryHits = (if d.dryHits = 255 then 2 else min d.dryHits 8) ∧
    e.wetThreshold = (if d.wetThreshold = 65535 then 64 else max 16 (min d.wetThreshold 4096)) ∧
    m = [e.x != d.x, e.minHeat != d.minHeat, e.maxHeat != d.maxHeat, d.exhLimit != 255 && e.exhLimit != d.exhLimit,
         e.coolTarget != d.coolTarget, e.coolMin != d.coolMin, e.coolMax != d.coolMax,
         e.guardTotal != d.guardTotal, e.guardRest != d.guardRest, e.guardTumble != d.guardTumble,
         e.guardResumeMin != d.guardResumeMin, e.stages != d.stages, d.dryRun != 255 && e.dryRun != d.dryRun,
         d.dryHits != 255 && e.dryHits != d.dryHits, d.wetThreshold != 65535 && e.wetThreshold != d.wetThreshold] ∧
    ∀ (s : State) (l : Byte) (p : List Byte), s.mainPowered = true → l.toNat = 23 → p.length = 23 →
      s.pnl.resetPending = false → (s.csq.state = .idle ∨ s.csq.state = .done ∨ s.csq.state = .abandoned) →
      s.ost.doorOpen = false → s.settings.weight2 = w2 → descriptorOfBytes p = d →
      ∃ t, exec (.start (l :: p)) s = .next t ∧ t.csq.desc = e ∧
        t.pnl.response = some (if m.any id then ⟨.clamped, leBytes 2 (maskNat m)⟩ else ⟨.ok, []⟩)

/-- PAUSE, CONTINUE and CANCEL where they are taken (R15 to R17). -/
def Obligations.PauseContinueCancelTaken : Prop :=
  ∀ s : State, s.mainPowered = true → s.pnl.resetPending = false →
    (∀ _ : s.csq.state = .heat ∨ s.csq.state = .extend ∨ s.csq.state = .cool ∨ s.csq.state = .guard,
      ∃ t, exec (.pause [0]) s = .next t ∧ Settled
        (requestRecord
          { answered s 1 false .ok [] with
            csq := { s.csq with state := .paused, ready := .none,
                                cyc := { s.csq.cyc with before := s.csq.cyc.phase, phase := .paused } },
            pnl := { (answered s 1 false .ok []).pnl with evPhase := true } } .phase .none) t) ∧
    (∀ st, s.csq.state = .paused → s.ost.doorOpen = false →
      ((s.csq.cyc.before = .heat ∧ st = .heat) ∨ (s.csq.cyc.before = .extend ∧ st = .extend) ∨
        (s.csq.cyc.before = .cool ∧ st = .cool) ∨ (s.csq.cyc.before = .guard ∧ st = .guard)) →
      ∃ t, exec (.continueCycle [0]) s = .next t ∧ Settled
        (requestRecord
          { answered s 1 false .ok [] with
            csq := { s.csq with
              state := st, ready := .none,
              faultCount := if st = .heat ∨ st = .extend then 0 else s.csq.faultCount,
              cyc := { s.csq.cyc with
                phase := s.csq.cyc.before, before := .none,
                burst := if st = .guard then .tumble else s.csq.cyc.burst,
                burstTimer := if st = .guard then s.csq.desc.guardTumble else s.csq.cyc.burstTimer } },
            dwn := if st = .heat then { s.dwn with resultSeen := false, hitSeen := false, window := [],
                                                   verdict := .none, reported := false } else s.dwn,
            ost := if st = .heat ∨ st = .extend then { s.ost with
                stage1 := { s.ost.stage1 with pending := s.settings.modulus },
                stage2 := { s.ost.stage2 with pending := s.settings.modulus } } else s.ost,
            pnl := { (answered s 1 false .ok []).pnl with evPhase := true } } .phase .none) t) ∧
    (∀ _ : s.csq.state = .heat ∨ s.csq.state = .extend ∨ s.csq.state = .cool ∨ s.csq.state = .guard ∨
        s.csq.state = .paused,
      ∃ t, exec (.cancel [0]) s = .next t ∧ Settled
        (requestRecord
          { answered s 1 false .ok [] with
            csq := { s.csq with
              state := .done, ready := .none, endReason := .cancelled,
              cyc := { s.csq.cyc with phase := .ended, before := .none,
                                      reasons := { s.csq.cyc.reasons with cancelled := true } } },
            pnl := { (answered s 1 false .ok []).pnl with evPhase := true } } .finish .cancelled) t)

/-- CONFIRM_RESUME with the door closed executes the plan, and DECLINE_RESUME ends the cycle with DECLINED and clears
the holdover flags (R23, R146). -/
def Obligations.ConfirmAndDeclineTaken : Prop :=
  ∀ s : State, s.mainPowered = true → s.pnl.resetPending = false → s.csq.state = .planReady →
    (s.ost.doorOpen = false →
      ∃ t, exec (.confirmResume [0]) s = .next t ∧ t.rpl.plan.disposition = .executed ∧
        Settled (setDisposition (executePlan (answered s 1 false .ok []) s.rpl.plan) .executed) t) ∧
    (∃ t, exec (.declineResume [0]) s = .next t ∧ Settled
      (requestRecord
        { answered s 1 false .ok [] with
          csq := { s.csq with state := .done, ready := .none, endReason := .declined,
                              cyc := { s.csq.cyc with phase := .ended, before := .none } },
          hdm := { s.hdm with clockLost := false, doorLatch := false },
          rpl := { s.rpl with plan := { s.rpl.plan with disposition := .declined } },
          pnl := { (answered s 1 false .ok []).pnl with evPhase := true } } .finish .declined) t)

/-- FORCE_RESUME in ABANDONED with the door closed remakes the plan from the kept record of an active cycle, with the
outage taken as 0 and the disposition FORCED, and executes it (R25, R147); the plan's path is carried over with the two
flags that R147 names (log entry 46). -/
def Obligations.ForceTaken : Prop :=
  ∀ (s : State) (r : Record), s.mainPowered = true → s.pnl.resetPending = false → s.csq.state = .abandoned →
    s.ost.doorOpen = false → s.rpl.basis = some r → r.cyc.phase.active = true →
    let unknown : Bool := s.scv.exhFault ≠ .none || s.scv.refFault
    let p := resumeFrom r s.settings.reheatRate
      { Plan.reset with
        blink := s.rpl.plan.blink, unclean := s.rpl.plan.unclean, fallback := s.rpl.plan.fallback,
        tempUnknown := unknown, tRet := s.dwn.exh, outage := some 0, disposition := .forced,
        phaseAtLoss := r.cyc.phase, remembered := r.cyc.before, sourceSeq := r.sequence, tLoss := r.exh,
        deltaT := if unknown then 0 else r.exh - s.dwn.exh }
    ∃ t, exec (.forceResume [0]) s = .next t ∧ t.rpl.plan = p ∧ t.rpl.basis = some r ∧ t.rpl.state = .made ∧
      t.pnl.evPlan = true ∧
      Settled
        (executePlan
          { answered s 1 false .ok [] with
            csq := { s.csq with desc := r.desc, cyc := r.cyc },
            rpl := { s.rpl with state := .made, plan := p },
            pnl := { (answered s 1 false .ok []).pnl with evPlan := true } } p) t

/-- Executing a plan (R24), from the states in which one is executed: the holdover flags are cleared, the named state is
entered with the plan's amounts and the phase-change event, the class is the outcome's, and a RESUME record is
requested of the state so entered. A guard with nothing left requests its RESUME record and goes on to DONE with
COMPLETE and an END record (log entry 25). -/
def Obligations.PlanExecuted : Prop :=
  ∀ (s : State) (p : Plan) (t : State),
    s.csq.state = .planning ∨ s.csq.state = .planReady ∨ s.csq.state = .abandoned → executePlan s p = t →
    let u := fun (st : CycleState) (cls : Nat) (c : CycleRecord) => { s with
      hdm := { s.hdm with clockLost := false, doorLatch := false }, fsu := { s.fsu with cls := cls },
      csq := { s.csq with state := st, ready := .none, cyc := c }, pnl := { s.pnl with evPhase := true } }
    let full := { s.ost with stage1 := { s.ost.stage1 with pending := s.settings.modulus },
                             stage2 := { s.ost.stage2 with pending := s.settings.modulus } }
    let guardOver := p.newGuard = 0 ∧
      (p.outcome = .resumeGuard ∨ (p.outcome = .resumePaused ∧ s.csq.cyc.before = .guard))
    t.hdm = { s.hdm with clockLost := false, doorLatch := false } ∧ t.csq.desc = s.csq.desc ∧ t.rpl = s.rpl ∧
    t.mwt = s.mwt ∧ t.scv = s.scv ∧ t.plp = s.plp ∧ t.flash = s.flash ∧ t.settings = s.settings ∧
    (p.outcome = .resumeHeat →
      let v := u .heat 1 { s.csq.cyc with phase := .heat, before := .none, phaseElapsed := 0 }
      t.csq.state = .heat ∧ t = requestRecord
        { v with csq := { v.csq with faultCount := 0 }, ost := full,
                 dwn := { s.dwn with resultSeen := false, hitSeen := false, window := [],
                                     verdict := ⟨false, false, false, false⟩, reported := false } }
        .resume .none) ∧
    (p.outcome = .resumeExtend →
      let v := u .extend 0 { s.csq.cyc with phase := .extend, before := .none, phaseElapsed := 0,
                                            extTotal := p.newExt, extDone := 0 }
      t.csq.state = .extend ∧
        t = requestRecord { v with csq := { v.csq with faultCount := 0 }, ost := full } .resume .none) ∧
    (p.outcome = .resumeCool → t.csq.state = .cool ∧ t = requestRecord
      (u .cool 2 { s.csq.cyc with phase := .cool, before := .none, phaseElapsed := 0 }) .resume .none) ∧
    (p.outcome = .resumeGuard → p.newGuard ≠ 0 → t.csq.state = .guard ∧ t = requestRecord
      (u .guard 2 { s.csq.cyc with phase := .guard, before := .none, phaseElapsed := 0, guardRemaining := p.newGuard,
                                   burst := .tumble, burstTimer := 2 * s.csq.desc.guardTumble }) .resume .none) ∧
    (p.outcome = .resumePaused → ¬ guardOver → t.csq.state = .paused ∧ t = requestRecord
      (u .paused (match s.csq.cyc.before with | .heat => 1 | .extend => 0 | _ => 2)
        { s.csq.cyc with
          phase := .paused,
          extTotal := if s.csq.cyc.before = .extend then p.newExt else s.csq.cyc.extTotal,
          extDone := if s.csq.cyc.before = .extend then 0 else s.csq.cyc.extDone,
          guardRemaining := if s.csq.cyc.before = .guard then p.newGuard else s.csq.cyc.guardRemaining })
      .resume .none) ∧
    (guardOver →
      let r := requestRecord { s with hdm := { s.hdm with clockLost := false, doorLatch := false },
                                      fsu := { s.fsu with cls := 2 } } .resume .none
      t.csq.state = .done ∧ t = requestRecord (ended r .complete s.csq.cyc) .finish .complete)

/-! ## Reads and the two-step reset -/

/-- The reads (R149, R187 to R189, R194): READ_STATUS answers the 154 bytes of the snapshot, with the reset-enable latch
as the frame found it (log entry 26), and clears the event flags; READ_PLAN, READ_PEERS, READ_COUNTERS, READ_RECORD and
READ_IDENT change nothing but their answer. The Plan record, a Peer Table entry, the counters and the identity are laid
out byte by byte. -/
def Obligations.Reads : Prop :=
  (∀ s : State, s.mainPowered = true → s.pnl.resetPending = false →
    exec (.readStatus [0]) s = .next
      { answered s 1 false .ok (snapshot s) with
        pnl := { (answered s 1 false .ok (snapshot s)).pnl with
          evPhase := false, evPlan := false, evFault := false, evLine := false } } ∧
    (snapshot s).length = 154 ∧
    (s.rpl.state = .making → exec (.readPlan [0]) s = .next (answered s 1 false .busy [])) ∧
    (s.rpl.state = .made → exec (.readPlan [0]) s = .next (answered s 1 false .ok (planBytes s.rpl.plan))) ∧
    (s.rpl.state = .empty →
      exec (.readPlan [0]) s = .next (answered s 1 false .ok ([0, 8] ++ List.replicate 23 0))) ∧
    exec (.readPeers [0]) s = .next
      (answered s 1 false .ok (BitVec.ofNat 8 s.fsu.peers.length :: (s.fsu.peers.map peerBytes).flatten)) ∧
    exec (.readCounters [0]) s = .next (answered s 1 false .ok (countersBytes s)) ∧
    (s.pjr.scanDone = false → exec (.readRecord [0]) s = .next (answered s 1 false .busy []) ∧
      exec (.readIdent [0]) s = .next (answered s 1 false .busy [])) ∧
    (s.pjr.scanDone = true →
      exec (.readRecord [0]) s =
        .next (answered s 1 false .ok (match s.pjr.newest with | none => [] | some r => recordBytes r)) ∧
      exec (.readIdent [0]) s = .next (answered s 1 false .ok (identBytes s)))) ∧
  (∀ p : Plan, (planBytes p).length = 25 ∧ LaidOut (planBytes p) (planFields p)) ∧
  (∀ p : Peer, (peerBytes p).length = 8 ∧ LaidOut (peerBytes p) (peerFields p)) ∧
  (∀ s : State, (countersBytes s).length = 19 ∧ LaidOut (countersBytes s) (counterFields s) ∧
    (identBytes s).length = 13 ∧ LaidOut (identBytes s) (identFields s))

/-- The status snapshot, whole (R194): every field of its 154 bytes at its offset, with the numeric codes of R192 to R194
written out in their tables' order. Remaining times are in whole milliseconds, rounded down (log entry 47), and of an
airflow count above 255 the byte at 104 shows 255 (the model's choice, log entry 34). -/
def Obligations.SnapshotLayout : Prop :=
  ∀ s : State, LaidOut (snapshot s) (cycleStatusFields s ++ outputStatusFields s ++ unitStatusFields s)

/-- RESET_ENABLE sets its latch; RESET is refused without it, and with it closes an active cycle with an END record of
end reason HOST_RESET, but none in PLANNING (R148), and leaves the reset pending (R26, R190). -/
def Obligations.TwoStepReset : Prop :=
  ∀ s : State, s.mainPowered = true → s.pnl.resetPending = false →
    exec (.resetEnable [0]) s = .next
      { answered s 1 true .ok [] with pnl := { (answered s 1 true .ok []).pnl with resetEnable := true } } ∧
    (s.pnl.resetEnable = false → exec (.reset [0]) s = .next (answered s 1 true .refusedState [])) ∧
    (s.pnl.resetEnable = true →
      ∃ t, exec (.reset [0]) s = .next t ∧ motorRun t = false ∧ heaterWant t = 0 ∧ t.csq.state = s.csq.state ∧
        Settled
          (if s.csq.cyc.phase.active = true ∧ s.csq.state ≠ .planning then
            requestRecord
              { answered s 1 false .ok [] with
                csq := { s.csq with endReason := .hostReset, endAwaited := true },
                pnl := { (answered s 1 false .ok []).pnl with resetPending := true } } .finish .hostReset
          else
            { answered s 1 false .ok [] with
              pnl := { (answered s 1 false .ok []).pnl with resetPending := true } }) t)

/-! ## Records and seconds -/

/-- A record request (R100): the copy enters or replaces the pending record with its marks, the progress timer is 0,
and the loss mark falls with any request but LOSS. With JOURNAL_FAULT the request is dropped and counted; a LOSS
record, or an END that a loss has hurried, is abandoned when no slot can take it and no program is running. In
suspension the erase stays halted for an urgent record with a slot, and for none while the loss mark stands, and is
resumed otherwise (R110); an orderly record cancels a suspend that has not taken effect and resumes one that has
(R112). -/
def Obligations.RecordRequested : Prop :=
  ∀ (s : State) (kind : RecordKind) (reason : EndReason) (t : State), requestRecord s kind reason = t →
    let urgent : Bool := kind = .phase || kind = .loss || kind = .finish || s.pjr.pend.any (·.urgent)
    let host : Bool := (kind = .finish && reason = .hostReset) || s.pjr.pend.any (·.orderly)
    let hurried : Bool := s.pjr.pend.any (·.hurried)
    let mark : Bool := s.pjr.lossMark && kind = .loss
    let copy : Record :=
      { sequence := 0, stamp := s.hdm.clock, kind := kind,
        endReason := if kind = .finish then reason else .none, cyc := s.csq.cyc, exh := s.dwn.exh,
        inl := s.dwn.inl, desc := s.csq.desc }
    let cs := if s.pjr.pend.isSome then
        { s.pjr.counters with replaced := satInc 65535 s.pjr.counters.replaced } else s.pjr.counters
    t.csq.progress = 0 ∧ t = { s with csq := t.csq, pjr := t.pjr, rpl := t.rpl, pnl := t.pnl } ∧
    t.pjr.lossMark = mark ∧
    (s.pjr.fault = true →
      t.pjr = { s.pjr with lossMark := mark,
                           counters := { s.pjr.counters with dropped := satInc 255 s.pjr.counters.dropped } }) ∧
    (s.pjr.fault = false →
      ((kind ≠ .loss ∧ hurried = false) ∨ s.pjr.op.programs = true ∨ (s.pjr.usable urgent).isSome) →
      t.pjr.pend = some ⟨copy, urgent, host, hurried, false⟩ ∧ t.pjr.counters = cs ∧
      t = { s with csq := { s.csq with progress := 0 }, pjr := t.pjr } ∧
      (suspends s.pjr.op = false →
        t.pjr = { s.pjr with lossMark := mark, pend := t.pjr.pend, counters := cs })) ∧
    (s.pjr.fault = false → (kind = .loss ∨ hurried = true) → s.pjr.op.programs = false →
      s.pjr.usable urgent = none →
      t.pjr.pend = none ∧ t.pjr.counters = { cs with abandoned := satInc 255 cs.abandoned }) ∧
    (∀ k, s.pjr.fault = false →
      let gone := (kind = .loss ∨ hurried = true) ∧ s.pjr.usable urgent = none
      let stays := (urgent = true ∧ host = false ∧ (s.pjr.usable urgent).isSome) ∨ (gone ∧ mark = true)
      (s.pjr.op = .suspended k →
        (stays → t.pjr.op = .suspended k ∧ t.pjr.sector k = s.pjr.sector k) ∧
        (¬ stays → t.pjr.op = .erasing k ∧ t.pjr.sector k = .erasing ∧ t.pjr.sinceResume = some 0)) ∧
      (s.pjr.op = .suspending k →
        (host = true → ¬ gone → t.pjr.op = .erasing k ∧ t.pjr.sector k = s.pjr.sector k) ∧
        (host = false → t.pjr.op = .suspending k ∧ t.pjr.sector k = s.pjr.sector k)))

/-- A second with nothing due (SEQUENCER_SECOND; in GUARD also GUARD_BURST_TIMER_EXPIRY, when the burst timer reaches
0, one event of two rows, log entry 18): the counts of R6, R11, R13, R18, R79 and R80 rise, the sample is taken (R53),
and the fired mark is cleared. -/
def Obligations.SecondCounts : Prop :=
  ∀ s : State, s.mainPowered = true → s.pnl.resetPending = false → s.csq.progress < 19 →
    (s.csq.state = .heat → ¬ dryFires s → ¬ holdFires s → faultsAfter s < 30 →
      heatedAfter s < s.csq.desc.maxHeat →
      ∃ t, exec .sequencerSecond s = .next t ∧ Settled
        (secondAfter s (heatSecond s) (faultsAfter s) (heatWindow s)) t) ∧
    (s.csq.state = .extend → ¬ holdFires s → faultsAfter s < 30 → heatedAfter s < s.csq.desc.maxHeat →
      (extendSecond s).extDone < s.csq.cyc.extTotal →
      ∃ t, exec .sequencerSecond s = .next t ∧
        Settled (secondAfter s (extendSecond s) (faultsAfter s) (sampled s.dwn)) t) ∧
    (s.csq.state = .cool → ¬ coolEnds s →
      ∃ t, exec .sequencerSecond s = .next t ∧
        Settled (secondAfter s (coolSecond s) s.csq.faultCount (unsampled s.dwn)) t) ∧
    (s.csq.state = .guard → (guardSecond s).guardRemaining ≠ 0 →
      ∃ t, exec .sequencerSecond s = .next t ∧
        Settled (secondAfter s (guardSecond s) s.csq.faultCount (unsampled s.dwn)) t ∧
        (s.csq.cyc.burstTimer ≤ 1 → (s.csq.cyc.burst = .rest ∨ s.ost.motor ≠ .stopped) →
          exec .guardBurstTimerExpiry s = .next t)) ∧
    (s.csq.state.runs = false →
      ∃ t, exec .sequencerSecond s = .next t ∧
        Settled { s with csq := { s.csq with second := 0, fired := false }, dwn := unsampled s.dwn,
                         ost := outputAfter s } t)

/-- The dry point reached in HEAT and nothing else due (R9, R56, R57): t_dry_s and the extension are set, EXTEND is
entered, or COOL when the extension is 0, and a PHASE record is requested. -/
def Obligations.DryPointReached : Prop :=
  ∀ s : State, s.mainPowered = true → s.pnl.resetPending = false → s.csq.progress < 19 → s.csq.state = .heat →
    dryFires s → holdAfter s = false → faultsAfter s < 30 → heatedAfter s < s.csq.desc.maxHeat →
    let ext := min (min (heatedAfter s * s.csq.desc.x / 64) 1800) (s.csq.desc.maxHeat - heatedAfter s)
    let c := { heatSecond s with tDry := heatedAfter s, extTotal := ext, extDone := 0, phaseElapsed := 0 }
    ∃ t, exec .sequencerSecond s = .next t ∧
      (0 < ext →
        Settled (requestRecord
          (entered (secondAfter s { c with phase := .extend } 0 (heatWindow s)) .extend { c with phase := .extend })
          .phase .none) t) ∧
      (ext = 0 →
        Settled (requestRecord (cooled (secondAfter s (heatSecond s) (faultsAfter s) (heatWindow s)) c)
          .phase .none) t)

/-- R59 with nothing else due: the dry point and the heat limit at one second of HEAT. One of the two orders is taken; each leads to
COOL with one PHASE record, the latch REPORTED and the same heated_s. -/
def Obligations.DryPointAtHeatLimit : Prop :=
  ∀ s : State, s.mainPowered = true → s.pnl.resetPending = false → s.csq.progress < 19 → s.csq.state = .heat →
    dryFires s → holdAfter s = false → faultsAfter s < 30 → heatedAfter s = s.csq.desc.maxHeat →
    s.csq.cyc.tDry = 0 → s.csq.cyc.extTotal = 0 → s.csq.cyc.extDone = 0 →
    let u := { secondAfter s (heatSecond s) (faultsAfter s) (heatWindow s) with freeCount := s.freeCount + 1 }
    ∃ t, exec .sequencerSecond s = .next t ∧ t.csq.state = .cool ∧ t.dwn.reported = true ∧
      t.csq.cyc.heated = s.csq.desc.maxHeat ∧ t.csq.cyc.extTotal = 0 ∧
      (Settled (requestRecord (cooled u { heatSecond s with tDry := s.csq.desc.maxHeat }) .phase .none) t ∨
       Settled (requestRecord
         (cooled u { heatSecond s with reasons := { s.csq.cyc.reasons with heatLimit := true } }) .phase .none) t)

/-- The phase tests with nothing else due (R10, R12, R14): HEAT at its limit, EXTEND done, the cool-down over, the
guard run out. The window takes the sample of the state that the expiry found (the model's choice, log entry 53). -/
def Obligations.PhaseTests : Prop :=
  ∀ s : State, s.mainPowered = true → s.pnl.resetPending = false → s.csq.progress < 19 →
    (s.csq.state = .heat → ¬ dryFires s → holdAfter s = false → faultsAfter s < 30 →
      s.csq.desc.maxHeat ≤ heatedAfter s →
      ∃ t, exec .sequencerSecond s = .next t ∧ Settled (requestRecord
        (cooled (secondAfter s (heatSecond s) (faultsAfter s) (heatWindow s))
          { heatSecond s with reasons := { s.csq.cyc.reasons with heatLimit := true } }) .phase .none) t) ∧
    (s.csq.state = .extend → holdAfter s = false → faultsAfter s < 30 →
      (s.csq.desc.maxHeat ≤ heatedAfter s ∨ s.csq.cyc.extTotal ≤ (extendSecond s).extDone) →
      ∃ t, exec .sequencerSecond s = .next t ∧ Settled (requestRecord
        (cooled (secondAfter s (extendSecond s) (faultsAfter s) (sampled s.dwn)) (extendSecond s))
        .phase .none) t) ∧
    (s.csq.state = .cool → coolEnds s →
      let u := secondAfter s (coolSecond s) s.csq.faultCount (unsampled s.dwn)
      ∃ t, exec .sequencerSecond s = .next t ∧
        (0 < s.csq.desc.guardTotal → Settled (requestRecord
          (entered u .guard
            { coolSecond s with phase := .guard, phaseElapsed := 0, guardRemaining := s.csq.desc.guardTotal,
                                burst := .rest, burstTimer := s.csq.desc.guardRest }) .phase .none) t) ∧
        (s.csq.desc.guardTotal = 0 →
          Settled (requestRecord (ended u .complete (coolSecond s)) .finish .complete) t)) ∧
    (s.csq.state = .guard → (guardSecond s).guardRemaining = 0 →
      ∃ t, exec .sequencerSecond s = .next t ∧ Settled (requestRecord
        (ended (secondAfter s (guardSecond s) s.csq.faultCount (unsampled s.dwn)) .complete (guardSecond s))
        .finish .complete) t)

/-- The fault persistence count at 30 (SENSOR_FAULT_COUNT_EXPIRY) and the cumulative hold count at 600 (AIRFLOW_FAULT),
each with no record of progress due (R11, R80): the reason flag is set, the fault event raised, and COOL entered from
HEAT or EXTEND with a PHASE record; the row and SEQUENCER_SECOND are one event (log entry 18). Where the expiry that
brings the hold count to 600 also reaches the heat limit, either may be taken first: the count does not rise in COOL,
or its report ends the heating, or it reaches the sequencer in COOL and sets the flag alone (R80); which of the three is
a free value (log entry 5). The window takes the sample of the state that the expiry found (the model's choice, log entry
53). -/
def Obligations.HeatingEndsOnFault : Prop :=
  ∀ s : State, s.mainPowered = true → s.pnl.resetPending = false → s.csq.progress < 19 →
    (s.csq.state = .heat ∨ s.csq.state = .extend) →
    let c := if s.csq.state = .heat then heatSecond s else extendSecond s
    let d := if s.csq.state = .heat then heatWindow s else sampled s.dwn
    let flagged := { c with reasons := { s.csq.cyc.reasons with airflowFault := true } }
    (s.csq.state = .heat → ¬ dryFires s) →
    (sensorFault s = true → 29 ≤ s.csq.faultCount → holdAfter s = false →
      ∃ t, exec .sensorFaultCountExpiry s = .next t ∧ exec .sequencerSecond s = .next t ∧ t.pnl.evFault = true ∧
        Settled (requestRecord (cooled (raiseFault (secondAfter s c (s.csq.faultCount + 1) d))
          { c with reasons := { s.csq.cyc.reasons with sensorFault := true } }) .phase .none) t) ∧
    (holdFires s → s.ost.cumHold ≤ 600 → faultsAfter s < 30 → heatedAfter s < s.csq.desc.maxHeat →
      (s.csq.state = .extend → (extendSecond s).extDone < s.csq.cyc.extTotal) →
      let u := secondAfter s c (faultsAfter s) d
      ∃ t, exec .airflowFault s = .next t ∧ exec .sequencerSecond s = .next t ∧ t.pnl.evFault = true ∧
        Settled (requestRecord
          (cooled (raiseFault { u with ost := { u.ost with cumHold := 600, airReported := true } }) flagged)
          .phase .none) t) ∧
    (holdFires s → s.ost.cumHold ≤ 600 → faultsAfter s < 30 → s.csq.state = .heat →
      s.csq.desc.maxHeat ≤ heatedAfter s →
      let u := { secondAfter s c (faultsAfter s) d with freeCount := s.freeCount + 2 }
      let counted := { u with ost := { u.ost with cumHold := 600, airReported := true } }
      let limit := { s.csq.cyc.reasons with heatLimit := true }
      let moved := requestRecord (cooled counted { c with reasons := limit }) .phase .none
      ∃ t, exec .airflowFault s = .next t ∧ exec .sequencerSecond s = .next t ∧ t.csq.state = .cool ∧
        (Settled (requestRecord
            (cooled { u with ost := { u.ost with cumHold := s.ost.cumHold } } { c with reasons := limit })
            .phase .none) t ∨
         (t.pnl.evFault = true ∧ Settled (requestRecord (cooled (raiseFault counted) flagged) .phase .none) t) ∨
         (t.pnl.evFault = true ∧ Settled { moved with csq := { moved.csq with cyc := { moved.csq.cyc with
            reasons := { moved.csq.cyc.reasons with airflowFault := true } } } } t)))

/-- The progress timer at 20 (PROGRESS_TIMER_EXPIRY) in a running phase with nothing else due: a PROGRESS record is
requested with the counts of the second, and the timer is 0 again (R18); the row and SEQUENCER_SECOND are one event
(log entry 18). -/
def Obligations.ProgressRecorded : Prop :=
  ∀ (s : State) (c : CycleRecord) (f : Nat) (d : Dryness), s.mainPowered = true → s.pnl.resetPending = false →
    19 ≤ s.csq.progress → ¬ holdFires s →
    ((s.csq.state = .heat ∧ c = heatSecond s ∧ f = faultsAfter s ∧ ¬ dryFires s ∧ f < 30 ∧
        heatedAfter s < s.csq.desc.maxHeat ∧ d = heatWindow s) ∨
      (s.csq.state = .extend ∧ c = extendSecond s ∧ f = faultsAfter s ∧ f < 30 ∧
        heatedAfter s < s.csq.desc.maxHeat ∧ c.extDone < s.csq.cyc.extTotal ∧ d = sampled s.dwn) ∨
      (s.csq.state = .cool ∧ c = coolSecond s ∧ f = s.csq.faultCount ∧ ¬ coolEnds s ∧ d = unsampled s.dwn) ∨
      (s.csq.state = .guard ∧ c = guardSecond s ∧ f = s.csq.faultCount ∧ c.guardRemaining ≠ 0 ∧
        d = unsampled s.dwn)) →
    ∃ t, exec .progressTimerExpiry s = .next t ∧ exec .sequencerSecond s = .next t ∧
      Settled (requestRecord (secondAfter s c f d) .progress .none) t

/-- The airflow hold is set by the fifth low second in a row (AIRFLOW_HOLD_SET) and cleared by the fifth good one
(AIRFLOW_HOLD_CLEAR), whatever else the second brings (R79); the rows and SEQUENCER_SECOND are one event (log entry
18). -/
def Obligations.AirflowHold : Prop :=
  ∀ s : State, s.mainPowered = true → s.ost.airJudge = true →
    (s.ost.airCount < s.settings.airflowMin → s.ost.lowRun = 4 → s.ost.airHold = false →
      ∃ t, exec .airflowHoldSet s = .next t ∧ exec .sequencerSecond s = .next t ∧ t.ost.airHold = true ∧
        t.ost.lowRun = 5 ∧ t.ost.goodRun = 0 ∧ t.ost.airLast = s.ost.airCount ∧ t.ost.airCount = 0 ∧
        heaterWant t = 0 ∧ t.ost.motor = s.ost.motor ∧ t.ost.doorOpen = s.ost.doorOpen ∧
        t.ost.tripped = s.ost.tripped ∧ t.mwt = s.mwt ∧ t.scv = s.scv ∧ t.hdm = s.hdm ∧ t.rpl = s.rpl ∧
        t.settings = s.settings ∧ t.flash = s.flash) ∧
    (s.settings.airflowMin ≤ s.ost.airCount → s.ost.goodRun = 4 → s.ost.airHold = true →
      ∃ t, exec .airflowHoldClear s = .next t ∧ exec .sequencerSecond s = .next t ∧ t.ost.airHold = false ∧
        t.ost.goodRun = 5 ∧ t.ost.lowRun = 0 ∧ t.ost.airLast = s.ost.airCount ∧ t.ost.airCount = 0 ∧
        t.ost.motor = s.ost.motor ∧ t.ost.doorOpen = s.ost.doorOpen ∧ t.ost.tripped = s.ost.tripped ∧
        t.mwt = s.mwt ∧ t.scv = s.scv ∧ t.hdm = s.hdm ∧ t.rpl = s.rpl ∧ t.settings = s.settings ∧
        t.flash = s.flash)
/-! ## Converter and Dryness Window -/

/-- R42, whole: the strap decode. -/
def Obligations.StrapDecode : Prop :=
  (∀ W k, strapLevel W = some k ↔
    k ≤ 7 ∧ 4 * (8192 / 2 ^ k) ≤ 5 * W ∧ 4 * W ≤ 5 * (8192 / 2 ^ k)) ∧
  (∀ W k, strapLevel W = some k ↔
    (k = 0 ∧ 6554 ≤ W ∧ W ≤ 10240) ∨ (k = 1 ∧ 3277 ≤ W ∧ W ≤ 5120) ∨ (k = 2 ∧ 1639 ≤ W ∧ W ≤ 2560) ∨
    (k = 3 ∧ 820 ≤ W ∧ W ≤ 1280) ∨ (k = 4 ∧ 410 ≤ W ∧ W ≤ 640) ∨ (k = 5 ∧ 205 ≤ W ∧ W ≤ 320) ∨
    (k = 6 ∧ 103 ≤ W ∧ W ≤ 160) ∨ (k = 7 ∧ 52 ≤ W ∧ W ≤ 80)) ∧
  (∀ (s : State) (n : Nat), s.mainPowered = true → s.scv.meas = .strapGate →
    (s.scv.refValid = true ∧ n < 64) ∨ (s.scv.refValid = false ∧ 3 ≤ s.scv.attempt) →
    ∃ t, exec (.strapGateEnd n) s = .next t ∧ t.scv.passLevels = s.scv.passLevels ++ [none])

/-- The strap phase (R40, R41, R43): a reference, then a strap; a pair with a bad reference is taken again up to three
times; four pairs give two levels a strap, whose agreement gives the station id, the seed of the backoff generator
and, for id 0 after SETUP, the isolation, with the line-mode event unless the station was already isolated for another
cause (the model's reading of R179, log entry 30). -/
def Obligations.StrapPhase : Prop :=
  ∀ (s : State) (n : Nat), s.mainPowered = true →
    let c := min n 1048575
    let level := if s.scv.refValid && 64 ≤ c then strapLevel (min (1024 * c / s.scv.nRef) 65535) else none
    (s.scv.meas = .strapRef →
      exec (.strapRefGateEnd n) s = .next { s with scv := { s.scv with
        meas := .strapGate, refValid := 1000 ≤ c && c ≤ 20000, nRef := c, gateTimer := 0 } }) ∧
    (s.scv.meas = .strapGate → s.scv.refValid = false → s.scv.attempt < 3 →
      ∃ t, exec (.strapGateEnd n) s = .next t ∧ Settled { s with scv := { s.scv with
        meas := .strapRef, attempt := s.scv.attempt + 1, gateTimer := 0 } } t) ∧
    (s.scv.meas = .strapGate → (s.scv.refValid = true ∨ 3 ≤ s.scv.attempt) → s.scv.pair < 4 →
      ∃ t, exec (.strapGateEnd n) s = .next t ∧ Settled { s with scv := { s.scv with
        meas := .strapRef, pair := s.scv.pair + 1, attempt := 1, refValid := false, gateTimer := 0,
        passLevels := s.scv.passLevels ++ [level] } } t) ∧
    (∀ a b d, s.scv.meas = .strapGate → (s.scv.refValid = true ∨ 3 ≤ s.scv.attempt) → s.scv.pair = 4 →
      s.scv.passLevels = [a, b, d] →
      let la := if a = d then a else none
      let lb := if b = level then b else none
      let id := match la, lb with
        | some x, some y => if 8 * x + y ≤ 31 then 8 * x + y else 0
        | _, _ => 0
      let bad := match la, lb with
        | some x, some y => decide (31 < 8 * x + y)
        | _, _ => true
      let seed := BitVec.ofNat 16 s.pjr.serial ^^^ BitVec.ofNat 16 (2053 * id)
      let alone := s.pnl.setupDone && id = 0
      ∃ t, exec (.strapGateEnd n) s = .next t ∧ (bad = true → t.pnl.evFault = true) ∧
        Settled { s with
          scv := { s.scv with meas := .ref, pair := 1, attempt := 1, refValid := false, gateTimer := 0,
                              passLevels := [a, b, d, level], levelA := la, levelB := lb, stationId := id,
                              strapFault := bad, strapDone := true },
          plp := { s.plp with lfsr := if seed = 0 then 1 else seed },
          fsu := { s.fsu with isolated := if alone then some .noId else s.fsu.isolated },
          pnl := { s.pnl with evLine := s.pnl.evLine || (alone && s.fsu.isolated.isNone) } } t)

/-- The reference and the sensor of a pair (R32 to R38, R46, R47, R72): REF_GATE_END, SENSOR_GATE_END, PERIOD_END and
PERIOD_TIMEOUT, at a pair for which no planner waits; and the faults at a gate end that raise the fault event: a
thermistor turned OPEN or SHORT, a high limit tripped. -/
def Obligations.SensorMeasurements : Prop :=
  ∀ (s : State) (n : Nat), s.mainPowered = true →
    let c := min n 1048575
    let ok : Bool := 1000 ≤ c && c ≤ 20000
    (s.scv.meas = .ref →
      ∃ t, exec (.refGateEnd n) s = .next t ∧ (ok = false → s.scv.refFault = false → t.pnl.evFault = true) ∧
        Settled { s with scv := { s.scv with
          meas := .gate, refValid := ok, nRef := c, refFault := !ok, gateTimer := 0 } } t) ∧
    (s.scv.meas = .gate → s.scv.refValid = true → n < 64 →
      ∃ t, exec (.sensorGateEnd n) s = .next t ∧ Settled { s with scv := { s.scv with
        meas := .period, nSensor := n, gateTimer := 0, periodTimer := 0 } } t) ∧
    (¬ planWaits s →
      (s.scv.meas = .gate → s.scv.refValid = false →
        ∃ t, exec (.sensorGateEnd n) s = .next t ∧ Settled (afterInvalid s) t) ∧
      (s.scv.meas = .gate → s.scv.refValid = true → 64 ≤ n →
        ∃ t, exec (.sensorGateEnd n) s = .next t ∧
          Settled (afterResult s false c 0 (some (min (1024 * c / s.scv.nRef) 65535))) t) ∧
      (s.scv.meas = .period →
        (∃ t, exec (.periodEnd n) s = .next t ∧
          Settled (afterResult s true s.scv.nSensor n (some (min (20480000 / (n * s.scv.nRef)) 65535))) t) ∧
        (∃ t, exec .periodTimeout s = .next t ∧ Settled (afterResult s true s.scv.nSensor 0 none) t))) ∧
    (s.scv.meas = .gate → s.scv.refValid = true → 64 ≤ n →
      let w := min (1024 * min n 1048575 / s.scv.nRef) 65535
      (s.scv.pair = 2 → (w < 160 ∧ s.scv.exhFault ≠ .opened) ∨ (30000 < w ∧ s.scv.exhFault ≠ .short) →
        ∃ t, exec (.sensorGateEnd n) s = .next t ∧ t.pnl.evFault = true ∧
          t.scv.exhFault = (if w < 160 then .opened else .short) ∧ t.dwn.exh = s.dwn.exh ∧ heaterWant t = 0) ∧
      (s.scv.pair = 4 → (w < 160 ∧ s.scv.inlFault ≠ .opened) ∨ (30000 < w ∧ s.scv.inlFault ≠ .short) →
        ∃ t, exec (.sensorGateEnd n) s = .next t ∧ t.pnl.evFault = true ∧
          t.scv.inlFault = (if w < 160 then .opened else .short) ∧ t.dwn.inl = s.dwn.inl ∧ heaterWant t = 0) ∧
      (s.scv.pair = 4 → 160 ≤ w → w ≤ 30000 → 220 ≤ codeOfRatio w → s.ost.tripped = false →
        ∃ t, exec (.sensorGateEnd n) s = .next t ∧ t.pnl.evFault = true ∧ t.ost.tripped = true ∧
          t.dwn.inl = codeOfRatio w ∧ heaterWant t = 0))

/-- R49, whole: the temperature code of a ratio that passed the thermistor check. -/
def Obligations.TemperatureCode : Prop :=
  (∀ W, 160 ≤ W → W ≤ 312 → codeOfRatio W = 0) ∧ (∀ W, 24382 ≤ W → W ≤ 30000 → codeOfRatio W = 240) ∧
  (∀ W lo clo hi chi, (lo, clo, hi, chi) ∈
      [(313, 0, 1024, 50), (1024, 50, 1921, 80), (1921, 80, 2844, 100), (2844, 100, 4096, 120),
       (4096, 120, 5785, 140), (5785, 140, 8000, 160), (8000, 160, 14422, 200), (14422, 200, 24381, 240)] →
    lo ≤ W → W ≤ hi → codeOfRatio W = clo + (W - lo) * (chi - clo) / (hi - lo)) ∧
  (∀ V W, 160 ≤ V → V ≤ W → W ≤ 30000 → codeOfRatio V ≤ codeOfRatio W ∧ codeOfRatio W ≤ 240)

/-! ## Resume Planner and Holdover Domain -/

/-- MAKE_PLAN: the end of the EXH pair for which the planner waits makes the plan from the state with that result
delivered and raises the plan-ready event (R134); in PLANNING the sequencer loads the source and acts on the outcome
(R22, R144), but from a taken RESET on it stays where it is (R26, log entry 31). The measurement row that carries the
same ending is the same event (log entry 18). -/
def Obligations.PlanMade : Prop :=
  ∀ (s u : State) (e : ExhEnd) (valid : Bool), s.mainPowered = true → planWaits s → pairEnds s e u valid →
    let p := decidePlan u valid
    let src := planSource u
    let made := { u with rpl := { state := .made, plan := p, basis := src }, pnl := { u.pnl with evPlan := true } }
    let w := { made with
      csq := match src with | some r => { u.csq with desc := r.desc, cyc := r.cyc } | none => u.csq }
    let bare := { w with hdm := { s.hdm with clockLost := false, doorLatch := false } }
    let ready := fun reason => { entered w .planReady w.csq.cyc with
      csq := { w.csq with state := .planReady, ready := reason } }
    let resumes := p.outcome = .resumeHeat ∨ p.outcome = .resumeExtend ∨ p.outcome = .resumeCool ∨
      p.outcome = .resumeGuard ∨ p.outcome = .resumePaused
    ∃ t, exec (.makePlan e) s = .next t ∧ exec (rowOf e) s = .next t ∧ t.rpl.state = .made ∧
      t.rpl.basis = src ∧ t.pnl.evPlan = true ∧
      (s.pnl.resetPending = true → Settled made t) ∧
      (s.pnl.resetPending = false → s.csq.state = .planning → t.pnl.evPhase = true ∧
        (p.outcome = .none →
          Settled (setDisposition (entered bare .idle bare.csq.cyc) .executed) t) ∧
        (p.outcome = .endedDoor →
          Settled (requestRecord (ended (setDisposition bare .executed) .doorEnd
            { w.csq.cyc with reasons := { w.csq.cyc.reasons with doorEnd := true } }) .finish .doorEnd) t) ∧
        (p.outcome = .abandonedWindow ∨ p.outcome = .abandonedClock →
          Settled (requestRecord (entered (setDisposition
            { bare with csq := { w.csq with endReason := .abandoned } } .abandoned) .abandoned
            { w.csq.cyc with phase := .ended }) .finish .abandoned) t) ∧
        (resumes → s.settings.autoResume = false → Settled (ready .confirm) t) ∧
        (resumes → s.settings.autoResume = true → s.ost.doorOpen = true → Settled (ready .doorOpen) t) ∧
        (resumes → s.settings.autoResume = true → s.ost.doorOpen = false →
          Settled (setDisposition (executePlan w p) .executed) t))

/-- The source of a plan (R135), its flags (R136), the tests of R137 in their order, and by the phase at the loss the
outcome and the amounts of a resume (R139 to R143); the remaining extension never exceeds 1800 s nor the heating that
max_heat_s leaves. Without a source T_loss and the cooling are 0 (log entry 45), and a stamp above the clock, which
R138 excludes, gives an outage of 0 (log entry 44). -/
def Obligations.PlanDecided : Prop :=
  (∀ (s : State) (valid : Bool),
    let live : Bool := s.csq.cyc.phase.active
    let unknown : Bool := !valid || s.scv.exhFault != .none
    (planSource s = match s.pjr.newest with
      | none => none
      | some r =>
        if s.rpl.plan.blink then
          (if live && r.kind != RecordKind.finish && r.cyc.cycleId = s.csq.cyc.cycleId then some r else none)
        else if s.pjr.activeFound then some r else none) ∧
    (planSource s = none → decidePlan s valid =
      { Plan.reset with blink := s.rpl.plan.blink, unclean := s.rpl.plan.blink && live,
                        fallback := s.pjr.newestBad, tempUnknown := unknown, tRet := s.dwn.exh }) ∧
    (∀ r, planSource s = some r →
      let q := { Plan.reset with
        blink := s.rpl.plan.blink, unclean := r.kind != RecordKind.loss, fallback := s.pjr.newestBad,
        tempUnknown := unknown, tRet := s.dwn.exh, phaseAtLoss := r.cyc.phase, remembered := r.cyc.before,
        sourceSeq := r.sequence, tLoss := r.exh, deltaT := if unknown then 0 else r.exh - s.dwn.exh }
      let out := s.hdm.clock - r.stamp
      decidePlan s valid =
        if s.hdm.clockLost then { q with outcome := .abandonedClock }
        else if s.settings.resumeWindow < out then { q with outage := some out, outcome := .abandonedWindow }
        else if s.hdm.doorLatch then { q with outage := some out, outcome := .endedDoor }
        else resumeFrom r s.settings.reheatRate { q with outage := some out })) ∧
  (∀ (r : Record) (rate : Nat) (p : Plan),
    let heat := min (p.deltaT * rate) 600
    let ext := min (min (r.cyc.extTotal - r.cyc.extDone + heat) 1800) (r.desc.maxHeat - r.cyc.heated)
    let guard := min (max r.cyc.guardRemaining r.desc.guardResumeMin) r.desc.guardTotal
    (r.cyc.phase = .heat → resumeFrom r rate p = { p with outcome := .resumeHeat }) ∧
    (r.cyc.phase = .extend →
      resumeFrom r rate p = { p with outcome := .resumeExtend, reheat := heat, newExt := ext }) ∧
    (r.cyc.phase = .cool →
      resumeFrom r rate p =
        if p.tempUnknown = false ∧ p.tRet ≤ r.desc.coolTarget ∧ r.desc.coolMin ≤ r.cyc.coolElapsed then
          { p with outcome := .resumeGuard, newGuard := r.desc.guardTotal }
        else { p with outcome := .resumeCool }) ∧
    (r.cyc.phase = .guard → resumeFrom r rate p = { p with outcome := .resumeGuard, newGuard := guard }) ∧
    (r.cyc.phase = .paused →
      (r.cyc.before = .extend →
        resumeFrom r rate p = { p with outcome := .resumePaused, reheat := heat, newExt := ext }) ∧
      (r.cyc.before = .guard → resumeFrom r rate p = { p with outcome := .resumePaused, newGuard := guard }) ∧
      (r.cyc.before ≠ .extend → r.cyc.before ≠ .guard →
        resumeFrom r rate p = { p with outcome := .resumePaused })) ∧
    ext ≤ 1800 ∧ ext ≤ r.desc.maxHeat - r.cyc.heated ∧ guard ≤ r.desc.guardTotal)

/-- The Holdover Domain's own events (R123, R124, R126 to R128) and the window of PLAN_READY (R145): HOLDOVER_SECOND,
CRYSTAL_STOP and DOOR_VIEW_CHANGE. The model's choices: a second's row sets its own fraction of a crystal cycle to 0 (log
entry 9) and finds the crystal running, and CRYSTAL_STOP leaves the interval at 8 ms (log entry 32), waited_s stops at 65 535 (log entry 34), and a pending reset
keeps the sequencer in PLAN_READY at the expiry, after which the plan expires no second time (log entry 31). -/
def Obligations.HoldoverEvents : Prop :=
  ∀ s : State, s.hdm.powered = true →
    let h := { s.hdm with prescaler := 0, crystalPhase := 0, crystalRuns := true, crystalQuiet := 0,
                          clock := if s.hdm.clock < 4294967295 then s.hdm.clock + 1 else s.hdm.clock }
    let waits := s.mainPowered = true ∧ s.csq.state = .planReady ∧ s.hdm.clock < 4294967295
    let waited := satInc 65535 s.rpl.plan.waited
    let passed := s.settings.resumeWindow < s.rpl.plan.outage.getD 0 + waited
    let expired := { s.rpl.plan with
      waited := waited, outcome := .abandonedWindow, reheat := 0, newExt := 0, newGuard := 0,
      disposition := .abandoned }
    (¬ waits → exec .holdoverSecond s = .next { s with hdm := h }) ∧
    (waits → ¬ passed ∨ (s.pnl.resetPending = true ∧ s.rpl.plan.disposition = .abandoned) →
      exec .holdoverSecond s =
        .next { s with hdm := h, rpl := { s.rpl with plan := { s.rpl.plan with waited := waited } } }) ∧
    (waits → passed → s.pnl.resetPending = true → s.rpl.plan.disposition ≠ .abandoned →
      exec .holdoverSecond s =
        .next { s with hdm := h, rpl := { s.rpl with plan := expired }, pnl := { s.pnl with evPlan := true } }) ∧
    (waits → passed → s.pnl.resetPending = false →
      exec .holdoverSecond s = .next (requestRecord
        (entered { s with
          hdm := { h with clockLost := false, doorLatch := false },
          rpl := { s.rpl with plan := expired },
          csq := { s.csq with endReason := .abandoned }, pnl := { s.pnl with evPlan := true } } .abandoned
          { s.csq.cyc with phase := .ended }) .finish .abandoned)) ∧
    exec .crystalStop s = .next { s with
      hdm := { s.hdm with clockLost := true, crystalRuns := false, crystalQuiet := 8000 },
      pnl := { s.pnl with evFault := s.pnl.evFault || (s.mainPowered && !s.hdm.clockLost) } } ∧
    exec (.doorViewChange false) s = .next { s with hdm := { s.hdm with view := .closed } } ∧
    exec (.doorViewChange true) s = .next { s with hdm := { s.hdm with
      view := .opened, doorLatch := s.hdm.doorLatch ||
        ((!s.mainPowered || s.csq.state = .loss || s.csq.state = .holdoverWait) && s.hdm.view = .closed) } }

/-! ## Mains and outputs -/

/-- An edge (R85): within the blanking interval it is counted as noise; accepted in PRESENT it moves the modulation, the
stages and the motor (R64 to R67, R74, R76, R77), with relays that a RAIL warning left closed opened first (R81). The
crossing that begins position 0 is PERIOD_BOUNDARY (log entry 18). The operand counts from the missing-crossing timer,
and a rejected edge adds it (log entry 4); a stop that has come due is made though the request is RUN again (log entry
29); a stage that leaves FIRING at a boundary where no reason stands goes back into it (log entry 43). -/
def Obligations.CrossingInPresent : Prop :=
  ∀ (s : State) (us : Nat), s.mainPowered = true →
    (¬ accepts s us →
      exec (.zeroCrossEdge us) s = .next { s with mwt := { s.mwt with
        rejected := satInc 255 s.mwt.rejected, missing := s.mwt.missing + us } }) ∧
    (accepts s us → s.mwt.state = .present →
      let u := { s with mwt := edgeRecorded s us, ost := relaysDropped s.ost }
      ∃ t, exec (.zeroCrossEdge us) s = .next t ∧ Settled (crossed u) t ∧
        (t.ost.stage1.state = .firing ↔ firesNow u 1 s.fsu.stage1 s.ost.stage1 = true) ∧
        (t.ost.stage2.state = .firing ↔ firesNow u 2 s.fsu.stage2 s.ost.stage2 = true) ∧
        (t.ost.stage1.state = .off ↔ askedFor s 1 = false) ∧
        (t.ost.stage2.state = .off ↔ askedFor s 2 = false) ∧
        (s.pnl.setupDone = true → positionAfter s = 0 → exec (.periodBoundary us) s = .next t))

/-- The regulation of the pending duties at a period boundary, once the active ones are loaded (R68, whole). While heating
with a sound EXH, at the limit or above one step is taken away, from stage 2 first; 5 degrees or more below it one step
is given back, to stage 1 first; a duty stays within the modulus; and every period boundary in PRESENT loads and
regulates so. -/
def Obligations.DutiesRegulated : Prop :=
  ∀ (s : State) (d1 d2 : Nat),
    let m := s.settings.modulus
    let sound := s.csq.state.heats = true ∧ s.scv.exhFault = .none ∧ s.scv.refFault = false
    let hot := s.csq.desc.exhLimit ≤ s.dwn.exh
    let cold := s.dwn.exh + 10 ≤ s.csq.desc.exhLimit
    (¬ sound → regulate s (d1, d2) = (d1, d2)) ∧
    (sound → ¬ hot → ¬ cold → regulate s (d1, d2) = (d1, d2)) ∧
    (sound → hot → s.csq.desc.stages = 2 → 0 < d2 → regulate s (d1, d2) = (d1, d2 - m / 8)) ∧
    (sound → hot → s.csq.desc.stages ≠ 2 ∨ d2 = 0 → regulate s (d1, d2) = (d1 - m / 8, d2)) ∧
    (sound → cold → d1 < m → regulate s (d1, d2) = (min m (d1 + m / 8), d2)) ∧
    (sound → cold → m ≤ d1 → s.csq.desc.stages = 2 → regulate s (d1, d2) = (d1, min m (d2 + m / 8))) ∧
    (sound → cold → m ≤ d1 → s.csq.desc.stages ≠ 2 → regulate s (d1, d2) = (d1, d2)) ∧
    (d1 ≤ m → d2 ≤ m → (regulate s (d1, d2)).1 ≤ m ∧ (regulate s (d1, d2)).2 ≤ m) ∧
    (∀ us, d1 = s.ost.stage1.pending → d2 = s.ost.stage2.pending → s.mainPowered = true → accepts s us →
      s.mwt.state = .present → s.pnl.setupDone = true → positionAfter s = 0 →
      ∃ t, exec (.periodBoundary us) s = .next t ∧ t.ost.stage1.active = d1 ∧ t.ost.stage2.active = d2 ∧
        (t.ost.stage1.pending, t.ost.stage2.pending) = regulate s (d1, d2))

/-- Crossings in MEASURING and LINE_FAULT (R86, R87, R93): the block of 16 half-periods, and the class that it gives
(CLASSIFY_BLOCK), by which PRESENT is entered and an outstanding warning answered with *mains back*, which leads from
HOLDOVER_WAIT to PLANNING (R20); a block without a class leads to LINE_FAULT. The interval is the missing-crossing timer
with the operand added (log entry 4), CLASSIFY_BLOCK is the crossing itself (log entry 18), and the crossing that brings
LINE_FAULT opens the next block (log entry 33), and PRESENT holds an empty one (log entry 50). A motor stop that has come due is made at the crossing (log entry 29). -/
def Obligations.MainsMeasured : Prop :=
  ∀ (s : State) (us : Nat), s.mainPowered = true → accepts s us →
    (s.mwt.state = .measuring ∨ s.mwt.state = .lineFault) →
    let i := s.mwt.missing + us
    let m := edgeRecorded s us
    let avg := (s.mwt.blockSum + i) / 16
    let full := s.mwt.blockOpen = true ∧ i ≤ 16500 ∧ s.mwt.blockCount = 15
    (s.mwt.blockOpen = false ∨ 16500 < i →
      ∃ t, exec (.zeroCrossEdge us) s = .next t ∧ Settled
        (crossedDark { s with mwt := { m with blockOpen := true, blockCount := 0, blockSum := 0 } }) t) ∧
    (s.mwt.blockOpen = true → i ≤ 16500 → s.mwt.blockCount < 15 →
      ∃ t, exec (.zeroCrossEdge us) s = .next t ∧ Settled
        (crossedDark { s with mwt := { m with blockCount := m.blockCount + 1, blockSum := m.blockSum + i } }) t) ∧
    (∀ c, full → (c = .hz50 ∧ 9000 ≤ avg ∧ avg ≤ 11000) ∨ (c = .hz60 ∧ 7500 ≤ avg ∧ avg ≤ 8999) →
      let m1 := { m with state := .present, cls := c, blockOpen := false, blockCount := 0, blockSum := 0 }
      ∃ t, exec (.classifyBlock us) s = .next t ∧ exec (.zeroCrossEdge us) s = .next t ∧
        (s.mwt.warning = false → Settled (crossedLit { s with mwt := m1 }) t) ∧
        (s.mwt.warning = true → Settled (crossedLit (mainsReturned s m1)) t ∧
          (s.csq.state = .holdoverWait → s.pnl.resetPending = false → t.csq.state = .planning))) ∧
    (full → avg < 7500 ∨ 11000 < avg →
      ∃ t, exec (.classifyBlock us) s = .next t ∧ exec (.zeroCrossEdge us) s = .next t ∧
        (s.mwt.state = .measuring → t.pnl.evFault = true) ∧ Settled (crossedDark { s with mwt := { m with
          state := .lineFault, cls := if s.mwt.state = .measuring then .unknown else m.cls,
          blockOpen := true, blockCount := 0, blockSum := 0 } }) t)

/-- Crossings in LOSS_WARNING and RETURNING (R91 to R93), which also open what a RAIL warning left closed (R81): the
return begins, its good half-periods are counted, eight in a row bring PRESENT with *mains back* (RETURN_COMPLETE),
which in HOLDOVER_WAIT enters PLANNING; 64 crossings without them bring LINE_FAULT (RETURN_TIMEOUT). The interval is the
missing-crossing timer with the operand added (log entry 4), RETURN_COMPLETE and RETURN_TIMEOUT are the crossing itself
(log entry 18), the 64th crossing opens the next block (log entry 33), PRESENT holds an empty one (log entry 50), and a
motor stop that has come due is made at the
crossing (log entry 29). -/
def Obligations.MainsReturns : Prop :=
  ∀ (s : State) (us : Nat), s.mainPowered = true → accepts s us →
    let i := s.mwt.missing + us
    let m := edgeRecorded s us
    let good := (s.mwt.cls = .hz50 ∧ 9000 ≤ i ∧ i ≤ 11000) ∨ (s.mwt.cls = .hz60 ∧ 7500 ≤ i ∧ i ≤ 9166)
    (s.mwt.state = .lossWarning →
      ∃ t, exec (.zeroCrossEdge us) s = .next t ∧ Settled (crossedDark { s with mwt :=
        if s.mwt.railTripped then m
        else if s.mwt.cls = .unknown then
          { m with state := .measuring, blockOpen := true, blockCount := 0, blockSum := 0 }
        else { m with state := .returning, returnCount := 0, returnCrossings := 0 } }) t) ∧
    (s.mwt.state = .returning →
      (good → s.mwt.returnCount < 7 → s.mwt.returnCrossings < 63 →
        ∃ t, exec (.zeroCrossEdge us) s = .next t ∧ Settled (crossedDark { s with mwt :=
          { m with returnCount := m.returnCount + 1, returnCrossings := m.returnCrossings + 1 } }) t) ∧
      (¬ good → s.mwt.returnCrossings < 63 →
        ∃ t, exec (.zeroCrossEdge us) s = .next t ∧ Settled (crossedDark { s with mwt :=
          { m with returnCount := 0, returnCrossings := m.returnCrossings + 1 } }) t) ∧
      (good → s.mwt.returnCount = 7 → s.mwt.warning = true →
        ∃ t, exec (.returnComplete us) s = .next t ∧ exec (.zeroCrossEdge us) s = .next t ∧
          t.mwt.state = .present ∧ t.mwt.warning = false ∧
          (s.csq.state = .holdoverWait → s.pnl.resetPending = false → t.csq.state = .planning ∧ t.rpl.state = .making) ∧
          Settled (crossedLit (mainsReturned s
            { m with returnCount := 8, returnCrossings := m.returnCrossings + 1 })) t) ∧
      (¬ (good ∧ s.mwt.returnCount = 7) → (good → s.mwt.returnCount < 7) → s.mwt.returnCrossings = 63 →
        ∃ t, exec (.returnTimeout us) s = .next t ∧ exec (.zeroCrossEdge us) s = .next t ∧ t.pnl.evFault = true ∧
          Settled (crossedDark { s with mwt := { m with
            state := .lineFault, cls := .unknown, returnCrossings := 64,
            returnCount := if inBand s.mwt.cls i then m.returnCount + 1 else 0, blockOpen := true, blockCount := 0,
            blockSum := 0 } }) t))

/-- The loss of the mains with no warning outstanding (R81, R88 to R90, R111, R112, R163, R181):
MISSING_CROSSING_TIMEOUT in PRESENT, and RAIL_TRIP outside LOSS_WARNING. Every load is dropped, at a RAIL warning with
the relays still closed for a moment though the motor is STOPPED and coasting already (log entry 28); the warning goes
to every block, the journal takes its loss mark and an END record of a host reset loses its orderly mark. A running or
paused cycle requests its LOSS record and enters LOSS; IDLE, DONE, ABANDONED and PLAN_READY pass through LOSS to
HOLDOVER_WAIT, whatever record is pending; LOSS loses its mains-back note, and CONFIG, PLANNING and HOLDOVER_WAIT stay
(R19, R20). From a taken RESET on no cycle state moves (R26, log entry 31). -/
def Obligations.LossOfMains : Prop :=
  (∀ (s : State) (c : Instr), s.mainPowered = true → s.mwt.warning = false →
    let rail : Bool := c = .railTrip
    (c = .missingCrossingTimeout ∧ s.mwt.state = .present) ∨
      (c = .railTrip ∧ s.mwt.railTripped = false ∧ s.mwt.state ≠ .lossWarning) →
    let limit := if s.mwt.cls = .hz60 then 12500 else 15000
    let m := if rail then
        { s.mwt with
          state := .lossWarning, warning := true, railTripped := true, railHealthy := 0, causeRail := true,
          returnCount := if s.mwt.state = .returning then 0 else s.mwt.returnCount,
          returnCrossings := if s.mwt.state = .returning then 0 else s.mwt.returnCrossings }
      else { s.mwt with state := .lossWarning, warning := true, causeCrossing := true,
                        missing := max s.mwt.missing limit }
    let j := journalLoss (dropped { s with mwt := m } (!rail) (if s.mwt.cls = .hz60 then 8333 else 10000))
    let u := { j with csq := { j.csq with mainsBack := false } }
    ∃ t, exec c s = .next t ∧ held t = 0 ∧ (t.fsu.start = .free ∧ t.fsu.stage1 = .free ∧ t.fsu.stage2 = .free) ∧
      t.csq.mainsBack = false ∧ t.csq.cyc = s.csq.cyc ∧
      (s.pnl.resetPending = false → s.csq.state.runs = true ∨ s.csq.state = .paused →
        Settled (requestRecord
          { u with csq := { u.csq with state := .loss, ready := .none },
                   pnl := { u.pnl with evPhase := true } } .loss .none) t) ∧
      (s.pnl.resetPending = false → s.csq.endAwaited = false →
        s.csq.state = .idle ∨ s.csq.state = .done ∨ s.csq.state = .abandoned ∨ s.csq.state = .planReady →
        Settled { u with csq := { u.csq with state := .holdoverWait, ready := .none },
                         pnl := { u.pnl with evPhase := true } } t) ∧
      (s.csq.state = .config ∨ s.csq.state = .planning ∨ s.csq.state = .holdoverWait ∨ s.pnl.resetPending = true →
        Settled u t) ∧
      (s.csq.state = .loss → s.pjr.holdsOrderly = false → t.csq.state = .loss ∧ Settled u t)) ∧
  (∀ s : State,
    (s.pjr.pend = none → journalLoss s = { s with pjr := { s.pjr with lossMark := true } }) ∧
    (∀ p, s.pjr.pend = some p → p.orderly = false →
      journalLoss s = { s with pjr := { s.pjr with lossMark := true } }) ∧
    (∀ p, s.pjr.pend = some p → p.orderly = true →
      (s.pjr.op.programs = true ∨ (s.pjr.usable p.urgent).isSome) →
      (journalLoss s).pjr.lossMark = true ∧
      (journalLoss s).pjr.pend = some { p with orderly := false, hurried := true } ∧
      journalLoss s = { s with pjr := (journalLoss s).pjr }) ∧
    (∀ p, s.pjr.pend = some p → p.orderly = true → s.pjr.op.programs = false → s.pjr.usable p.urgent = none →
      (journalLoss s).pjr.pend = none ∧
      (journalLoss s).pjr.counters.abandoned = satInc 255 s.pjr.counters.abandoned))

/-- The events of the mains that change the Mains Watch alone: MISSING_CROSSING_TIMEOUT outside PRESENT (R86, R92), a
repeated RAIL_TRIP and one under an outstanding warning (R89, R92), and RAIL_HEALTHY (R89). -/
def Obligations.MainsWatchAlone : Prop :=
  ∀ s : State, s.mainPowered = true →
    let limit := if s.mwt.cls = .hz60 then 12500 else 15000
    (s.mwt.state = .measuring ∨ s.mwt.state = .lineFault →
      ∃ t, exec .missingCrossingTimeout s = .next t ∧ Settled { s with mwt := { s.mwt with
        missing := max s.mwt.missing 16500, blockOpen := false, blockCount := 0, blockSum := 0 } } t) ∧
    (s.mwt.state = .returning →
      ∃ t, exec .missingCrossingTimeout s = .next t ∧ Settled { s with mwt := { s.mwt with
        missing := max s.mwt.missing limit, returnCount := 0 } } t) ∧
    (s.mwt.state = .lossWarning → exec .missingCrossingTimeout s = .next s) ∧
    (s.mwt.railTripped = true →
      (∃ t, exec .railTrip s = .next t ∧ Settled { s with mwt := { s.mwt with railHealthy := 0 } } t) ∧
      exec .railHealthy s =
        .next { s with mwt := { s.mwt with railTripped := false, railHealthy := 0 } }) ∧
    (s.mwt.railTripped = false → s.mwt.state = .lossWarning ∨ s.mwt.warning = true →
      ∃ t, exec .railTrip s = .next t ∧ Settled { s with mwt := { s.mwt with
        state := .lossWarning, railTripped := true, railHealthy := 0, causeRail := true,
        returnCount := if s.mwt.state = .returning then 0 else s.mwt.returnCount,
        returnCrossings := if s.mwt.state = .returning then 0 else s.mwt.returnCrossings } } t)

/-- The motor's timers, the vane, the drop timer and the door (R14, R15, R74, R75, R78, R79, R81). From a taken RESET on the
door moves no cycle (R26, log entry 31); the coast timer of a RAIL warning starts again as the run relay opens (log entry
28); a start window whose stop has come due does not end in RUNNING (log entry 29); and the vane count has no upper limit
(log entry 34). -/
def Obligations.MotorAndDoor : Prop :=
  ∀ s : State, s.mainPowered = true →
    (s.ost.motor = .starting → s.ost.stopDue = false → s.fsu.start ≠ .release →
      ∃ t, exec .startWindowEnd s = .next t ∧
        Settled { s with ost := { s.ost with motor := .running, startWindow := none } } t ∧
        t.fsu.start = .free ∧ startWant t = 0) ∧
    (s.ost.coast ≠ none → exec .coastTimeout s = .next { s with ost := { s.ost with coast := none } }) ∧
    (s.ost.dropTimer ≠ none →
      exec .railDropTimeout s = .next { s with ost := { s.ost with
        runRelay := false, coast := if s.ost.runRelay then some 2000000 else s.ost.coast, dropTimer := none,
        stage1 := { s.ost.stage1 with on := false }, stage2 := { s.ost.stage2 with on := false } } }) ∧
    exec .airflowPulse s = .next { s with ost := { s.ost with airCount := s.ost.airCount + 1 } } ∧
    (s.ost.doorOpen = true →
      ∃ t, exec .doorClosed s = .next t ∧ Settled { s with ost := { s.ost with doorOpen := false } } t) ∧
    (s.ost.doorOpen = false →
      let u := { s with ost := { s.ost with doorOpen := true } }
      ∃ t, exec .doorOpened s = .next t ∧ heaterWant t = 0 ∧ (s.ost.motor ≠ .stopped → t.ost.stopDue = true) ∧
        (s.pnl.resetPending = false → s.csq.state = .heat ∨ s.csq.state = .extend ∨ s.csq.state = .cool →
          Settled (requestRecord (entered u .paused
            { s.csq.cyc with before := s.csq.cyc.phase, phase := .paused }) .phase .none) t) ∧
        (s.pnl.resetPending = false → s.csq.state = .guard →
          Settled (requestRecord (ended u .doorEnd
            { s.csq.cyc with reasons := { s.csq.cyc.reasons with doorEnd := true } }) .finish .doorEnd) t) ∧
        (s.pnl.resetPending = true ∨ s.csq.state.runs = false → Settled u t))
/-! ## Progress Journal -/

/-- Programming a record (R96, R102 to R107, R20): PROGRAM_BEGIN takes the usable slot, with the next sector opened where
the pointer's is used up; a program that reads back as meant stands in its slot and is the newest record, and its
record is done; one that does not leaves the slot BAD and the record waiting, or JOURNAL_FAULT at the second in a row. A
LOSS record and one whose orderly mark a loss warning cleared are abandoned where no slot is left for them (R111, R112).
After either the pointer has gone on and the erase-ahead test is applied; a verified 4294967294, or above it after a main
reset (log entry 22), uses the numbers up and sets JOURNAL_FAULT. -/
def Obligations.ProgramRuns : Prop :=
  ∀ (s : State) (p : PendingRecord) (k i : Nat) (halted : Option Nat), s.mainPowered = true → s.pjr.pend = some p →
    (s.pjr.usable p.urgent =
      if s.pjr.ptrSlot ≤ 61 then some (s.pjr.ptrSector, s.pjr.ptrSlot)
      else if s.pjr.sector ((s.pjr.ptrSector + 1) % 4) = .erased then some ((s.pjr.ptrSector + 1) % 4, 0)
      else if p.urgent && s.pjr.ptrSlot ≤ 63 then some (s.pjr.ptrSector, s.pjr.ptrSlot) else none) ∧
    (s.pjr.fault = false → s.pjr.usable p.urgent = some (k, i) →
      ((s.pjr.op = .ready ∧ halted = none) ∨
        (∃ e, s.pjr.op = .suspended e ∧ halted = some e ∧ p.urgent = true ∧ p.orderly = false)) →
      let j := if k = s.pjr.ptrSector then s.pjr
        else { (s.pjr.setSector s.pjr.ptrSector .full).setSector k .active with ptrSector := k, ptrSlot := 0 }
      exec .programBegin s = .next { s with pjr := { j with
        op := .programming k i halted, prog := some { p.copy with sequence := s.pjr.nextSeq },
        pend := some { p with inFlight := true } } }) ∧
    (∀ r, s.pjr.op = .programming k i halted → s.pjr.prog = some r → FlashOk s →
      (p.inFlight = true → s.pjr.fault = false →
        let used := 4294967294 ≤ r.sequence
        let told := used ∧ s.pnl.resetPending = false
        let cyc := { s.csq.cyc with reasons := { s.csq.cyc.reasons with
          journalFault := s.csq.cyc.reasons.journalFault || decide told } }
        ∃ t, exec (.programComplete true) s = .next t ∧
          Memory.bytes t.flash (slotBase k i) 64 = recordBytes r ∧
          (∀ a, a < slotBase k i ∨ slotBase k i + 64 ≤ a → Memory.read t.flash a = Memory.read s.flash a) ∧
          t.pjr.newest = some r ∧ t.pjr.newestBad = false ∧ t.pjr.pend = none ∧ t.pjr.prog = none ∧
          t.pjr.consecutive = 0 ∧ (t.pjr.fault = true ↔ used) ∧
          t.pjr.nextSeq = satInc 4294967295 s.pjr.nextSeq ∧
          t.pjr.counters = { s.pjr.counters with written := satInc 65535 s.pjr.counters.written } ∧
          t.pjr.op = (match halted with
            | none => .ready
            | some e => if used ∨ s.pjr.lossMark = true then .suspended e else .erasing e) ∧
          pointerAdvanced s t halted ∧ (told → t.pnl.evFault = true) ∧
          (s.csq.state = .loss → s.csq.endAwaited = false → s.pnl.resetPending = false →
            t.csq.state = if s.csq.mainsBack then .planning else .holdoverWait) ∧
          (s.csq.state ≠ .loss → t.csq = { s.csq with endAwaited := false, cyc := cyc }) ∧
          t.csq.cyc = cyc ∧ t.ost = s.ost ∧ t.mwt = s.mwt ∧ t.fsu = s.fsu ∧ t.hdm = s.hdm) ∧
      (s.pjr.consecutive = 0 → s.pjr.ptrSector < 4 → s.pjr.ptrSlot ≤ 63 →
        let kept := (p.copy.kind ≠ .loss ∧ p.hurried = false) ∨ roomAfter s p.urgent
        ∃ t, exec (.programComplete false) s = .next t ∧ readSlot t.flash k i = .bad ∧
          (∀ a, a < slotBase k i ∨ slotBase k i + 64 ≤ a → Memory.read t.flash a = Memory.read s.flash a) ∧
          t.pjr.newestBad = true ∧ t.pjr.newest = s.pjr.newest ∧ t.pjr.prog = none ∧
          t.pjr.consecutive = 1 ∧ t.pjr.fault = s.pjr.fault ∧ t.pjr.nextSeq = s.pjr.nextSeq ∧
          t.pjr.counters = { s.pjr.counters with
            verifyFailures := satInc 255 s.pjr.counters.verifyFailures,
            abandoned := if kept then s.pjr.counters.abandoned else satInc 255 s.pjr.counters.abandoned } ∧
          pointerAdvanced s t halted ∧
          (halted = none → t.pjr.op = .ready) ∧
          (∀ e, halted = some e → s.pjr.fault = false → t.pjr.op =
            if (p.urgent = true ∧ p.orderly = false ∧ roomAfter s p.urgent) ∨ (¬ kept ∧ s.pjr.lossMark = true)
            then .suspended e else .erasing e) ∧
          (kept → t.pjr.pend = some { p with inFlight := false } ∧ t.csq = s.csq) ∧
          (¬ kept → t.pjr.pend = none ∧ t.csq.cyc = s.csq.cyc ∧
            (s.csq.state = .loss → s.csq.endAwaited = false → s.pnl.resetPending = false →
              t.csq.state = if s.csq.mainsBack then .planning else .holdoverWait) ∧
            (s.csq.state ≠ .loss → t.csq = { s.csq with endAwaited := false }))) ∧
      (s.pjr.consecutive = 1 →
        ∃ t, exec (.programComplete false) s = .next t ∧ readSlot t.flash k i = .bad ∧
          (∀ a, a < slotBase k i ∨ slotBase k i + 64 ≤ a → Memory.read t.flash a = Memory.read s.flash a) ∧
          t.pjr.fault = true ∧ t.pjr.pend = none ∧ t.pjr.nextSeq = s.pjr.nextSeq ∧ pointerAdvanced s t halted ∧
          t.pjr.op = (match halted with | none => .ready | some e => .suspended e) ∧
          (s.pnl.resetPending = false → t.csq.cyc.reasons.journalFault = true ∧ t.pnl.evFault = true)))

/-- Erasing ahead (R101, R107 to R110): ERASE_BEGIN, ERASE_COMPLETE, SUSPEND_REQUEST and SUSPEND_EFFECT. A sector that
reads back blank is ERASED; one that does not is erased once more, and then FULL with JOURNAL_FAULT. An urgent record
halts an erase and is programmed at once. -/
def Obligations.EraseRuns : Prop :=
  ∀ (s : State) (k : Nat), s.mainPowered = true → k < 4 →
    (∀ rest, s.pjr.op = .ready → s.pjr.pend = none → s.pjr.fault = false → s.pjr.queue = k :: rest →
      exec .eraseBegin s = .next { s with pjr := { s.pjr.setSector k .erasing with
        op := .erasing k, queue := rest, eraseAgain := false } }) ∧
    ((s.pjr.op = .erasing k ∨ s.pjr.op = .suspending k) → s.pjr.pend = none →
      (∃ t, exec (.eraseComplete true) s = .next t ∧
        (∀ a, Memory.read t.flash a = if k * 4096 ≤ a ∧ a < k * 4096 + 4096 then 0xFF else Memory.read s.flash a) ∧
        t.pjr.op = .ready ∧ t.pjr.eraseAgain = false ∧
        t.pjr.counters = { s.pjr.counters with erases := satInc 65535 s.pjr.counters.erases } ∧
        t = { s with flash := t.flash, pjr := t.pjr } ∧
        (s.pjr.ptrSlot = 64 → k = (s.pjr.ptrSector + 1) % 4 →
          t.pjr.sector k = .active ∧ t.pjr.ptrSector = k ∧ t.pjr.ptrSlot = 0) ∧
        (s.pjr.ptrSlot < 64 → t.pjr.sector k = .erased ∧ t.pjr.ptrSector = s.pjr.ptrSector ∧
          t.pjr.ptrSlot = s.pjr.ptrSlot)) ∧
      (FlashOk s → ∃ t, exec (.eraseComplete false) s = .next t ∧ sectorBlank t.flash k = false ∧
        (∀ a, a < k * 4096 ∨ k * 4096 + 4096 ≤ a → Memory.read t.flash a = Memory.read s.flash a) ∧
        t.pjr.counters = { s.pjr.counters with eraseFailures := satInc 255 s.pjr.counters.eraseFailures } ∧
        (s.pjr.eraseAgain = false → s.pjr.fault = false → t.pjr.op = .erasing k ∧ t.pjr.eraseAgain = true ∧
          t.pjr.fault = false ∧ t.csq = s.csq) ∧
        (s.pjr.eraseAgain = true → t.pjr.op = .ready ∧ t.pjr.sector k = .full ∧ t.pjr.fault = true ∧
          (s.pnl.resetPending = false → t.csq.cyc.reasons.journalFault = true ∧ t.pnl.evFault = true)))) ∧
    (∀ p a, s.pjr.pend = some p → p.urgent = true → p.orderly = false → s.pjr.usable true = some a →
      (s.pjr.op = .erasing k → (∀ t, s.pjr.sinceResume = some t → 1000 ≤ t) →
        exec .suspendRequest s = .next { s with pjr := { s.pjr with op := .suspending k } }) ∧
      (∀ t, s.pjr.op = .erasing k → s.pjr.sinceResume = some t → t < 1000 → exec .suspendRequest s = .next s) ∧
      (s.pjr.op = .suspending k → s.pjr.fault = false → k ≠ a.1 → k ≠ s.pjr.ptrSector →
        ∃ t, exec .suspendEffect s = .next t ∧ t = { s with pjr := t.pjr } ∧
          t.pjr.op = .programming a.1 a.2 (some k) ∧ t.pjr.sector k = .suspended ∧
          t.pjr.prog = some { p.copy with sequence := s.pjr.nextSeq } ∧
          t.pjr.pend = some { p with inFlight := true } ∧
          t.pjr.counters = { s.pjr.counters with suspends := satInc 65535 s.pjr.counters.suspends }))

/-- The start-up scan (R5, R107, R114 to R119): the newest record is the VALID one of highest sequence in the sectors not
TORN; the next sequence, the cycle id, the active-cycle verdict and the newest-slot-bad flag follow from it. The pointer
stands at the first BLANK slot after it, or at slot 64 of a sector with none, from which an ERASED next sector is opened
at once; with no valid record it stands at the lowest ERASED sector, or at slot 64 of sector 3. Every sector has its
state, the TORN ones stand in the erase queue from the sector after the pointer's on, and the erase-ahead test is
applied last; a bad factory record raises the fault event. The numbers do not wrap (R103): a scan that finds 4294967295
sets JOURNAL_FAULT, so that no record is given that number again (log entry 22). Of two records with one highest number
the lower sector's is taken, and the pointer's own sector never joins the queue (log entry 23). -/
def Obligations.ScanCompletes : Prop :=
  ∀ s : State, s.mainPowered = true → s.pjr.scanDone = false →
    let ring := readSector s.flash
    ∃ t, exec .scanComplete s = .next t ∧
      let used := t.pjr.newest.any fun n => n.sequence = 4294967295
      let told := used && !s.pnl.resetPending
      (used = false ∨ s.pjr.pend = none →
        t = { s with
          pjr := t.pjr,
          csq := { s.csq with cyc := { s.csq.cyc with
            cycleId := t.csq.cyc.cycleId,
            reasons := { s.csq.cyc.reasons with journalFault := s.csq.cyc.reasons.journalFault || told } } },
          pnl := { s.pnl with evFault := s.pnl.evFault || (readFactory s.flash).isNone || told } }) ∧
      t.flash = s.flash ∧ t.csq.cyc.reasons.journalFault = (s.csq.cyc.reasons.journalFault || told) ∧
      t.pjr.fault = (s.pjr.fault || used) ∧ t.pjr.pend = (if used then none else s.pjr.pend) ∧
      t.pjr.scanDone = true ∧ t.pjr.op = s.pjr.op ∧
      t.pjr.lossMark = s.pjr.lossMark ∧ t.pjr.counters = s.pjr.counters ∧
      (∀ (k i : Nat) (n : Record), NewestAt s.flash k i n →
        let next := (k + 1) % 4
        t.pjr.newest = some n ∧ t.pjr.nextSeq = satInc 4294967295 n.sequence ∧
        t.csq.cyc.cycleId = n.cyc.cycleId ∧ (t.pjr.activeFound = true ↔ n.kind ≠ .finish) ∧
        (61 ≤ i → Blank ((ring k).drop (i + 1)) →
          (t.pjr.newestBad = true ↔
            ¬ Torn (ring next) ∧ (∀ r, SlotRead.valid r ∉ ring next) ∧ (ring next)[0]? = some .bad)) ∧
        (i < 61 ∨ ¬ Blank ((ring k).drop (i + 1)) →
          (t.pjr.newestBad = true ↔ (ring k)[i + 1]? = some .bad)) ∧
        (∀ j, i < j → (ring k)[j]? = some .blank → (∀ l, i < l → l < j → (ring k)[l]? ≠ some .blank) →
          t.pjr.ptrSector = k ∧ t.pjr.ptrSlot = j ∧ t.pjr.sector k = .active) ∧
        ((∀ j, i < j → (ring k)[j]? ≠ some .blank) →
          (Blank (ring next) → t.pjr.ptrSector = next ∧ t.pjr.ptrSlot = 0 ∧ t.pjr.sector next = .active ∧
            t.pjr.sector k = .full) ∧
          (¬ Blank (ring next) → t.pjr.ptrSector = k ∧ t.pjr.ptrSlot = 64 ∧ t.pjr.sector k = .full))) ∧
      ((∀ (k i : Nat) (r : Record), k < 4 → ¬ Torn (ring k) → (ring k)[i]? ≠ some (.valid r)) →
        t.pjr.newest = none ∧ t.pjr.newestBad = false ∧ t.pjr.nextSeq = 1 ∧ t.csq.cyc.cycleId = 0 ∧
        t.pjr.activeFound = false ∧
        (∀ k, k < 4 → Blank (ring k) → (∀ q, q < k → ¬ Blank (ring q)) →
          t.pjr.ptrSector = k ∧ t.pjr.ptrSlot = 0 ∧ t.pjr.sector k = .active) ∧
        ((∀ k, k < 4 → ¬ Blank (ring k)) → t.pjr.ptrSector = 3 ∧ t.pjr.ptrSlot = 64)) ∧
      (∀ k, k < 4 → k ≠ t.pjr.ptrSector ∨ t.pjr.ptrSlot = 64 →
        (Torn (ring k) → t.pjr.sector k = .torn) ∧ (Blank (ring k) → t.pjr.sector k = .erased) ∧
        (¬ Torn (ring k) → ¬ Blank (ring k) → t.pjr.sector k = .full)) ∧
      (let p := t.pjr.ptrSector
       t.pjr.queue = ([(p + 1) % 4, (p + 2) % 4, (p + 3) % 4].filter (t.pjr.sector · = .torn)) ++
         (if 32 ≤ t.pjr.ptrSlot ∧ t.pjr.sector ((p + 1) % 4) = .full then [(p + 1) % 4] else [])) ∧
      (t.pjr.factoryGood, t.pjr.serial, t.pjr.product) =
        (match readFactory s.flash with | none => (false, 0, 0) | some (n, c) => (true, n, c))

/-! ## Party Line Port and Feeder Share Unit -/

/-- Receiving (R151, R152, R160 to R162, R171): CHARACTER_RECEIVED and LINE_IDLE. A fall of the line that is over at the
middle of the start bit begins no character. Eight characters, of which the first alone carries the address flag, are
judged; a good HEAT of another station makes or replaces its entry, a FAREWELL removes it, an own frame is the echo, and
another's with the own id a clash. A character's row stands at the middle of its stop bit, and leaves the line and its
two timers as that bit and the equal bits before it make them (log entry 15); the stuck-low timer is held at 0 while
the loss warning stands (R159). -/
def Obligations.LineReceives : Prop :=
  ∀ (s : State) (d : Byte), s.mainPowered = true →
    let heard := fun flag ok => { s.plp with
      lineHigh := ok, idleTimer := if ok then stopRun d flag ok else 0,
      stuckTimer := if ok || s.mwt.warning then 0 else stopRun d flag ok, reader := readerAt s.plp.reader ok }
    let h := heard false true
    let errors := satInc 255 s.plp.rxErrors
    (∀ flag ok, exec (.characterReceived none flag ok) s =
      .next { s with plp := { s.plp with
        lineHigh := true, idleTimer := 0, stuckTimer := 0, reader := readerAt s.plp.reader true } }) ∧
    (∀ flag ok, s.scv.strapDone = false →
      exec (.characterReceived (some d) flag ok) s = .next { s with plp := heard flag ok }) ∧
    (s.scv.strapDone = true →
      (∀ flag, exec (.characterReceived (some d) flag false) s = .next { s with plp :=
        match s.plp.rx with
        | .idle => { heard flag false with rxErrors := errors, rx := .discard }
        | .receiving => { heard flag false with rxErrors := errors, rx := .discard, gathered := [], echo := [] }
        | .discard => heard flag false }) ∧
      (exec (.characterReceived (some d) true true) s = .next { s with plp :=
        match s.plp.rx with
        | .idle | .discard => { heard true true with rx := .receiving, gathered := [d] }
        | .receiving => { heard true true with rxErrors := errors, rx := .receiving, gathered := [d],
                                               echo := [] } }) ∧
      (s.plp.rx ≠ .receiving ∨ s.plp.gathered.length < 7 →
        exec (.characterReceived (some d) false true) s = .next { s with plp :=
          match s.plp.rx with
          | .idle => { h with rxErrors := errors, rx := .discard }
          | .receiving => { h with gathered := s.plp.gathered ++ [d] }
          | .discard => h }) ∧
      (s.plp.rx = .receiving → s.plp.gathered.length = 7 →
        let bs := s.plp.gathered ++ [d]
        let e := { h with rx := .idle, gathered := [], echo := [] }
        (noticeOfBytes bs = none →
          exec (.characterReceived (some d) false true) s = .next { s with plp := { e with rxErrors := errors } }) ∧
        (∀ n, noticeOfBytes bs = some n →
          (n.id = s.scv.stationId → bs = s.plp.echo →
            exec (.characterReceived (some d) false true) s = .next { s with plp := e }) ∧
          (n.id = s.scv.stationId → bs ≠ s.plp.echo →
            exec (.characterReceived (some d) false true) s = .next { s with
              plp := { e with clashes := satInc 255 s.plp.clashes },
              pnl := { s.pnl with evFault := s.pnl.evFault || s.plp.clashes = 0 } }) ∧
          (n.id ≠ s.scv.stationId → s.pnl.setupDone = false →
            exec (.characterReceived (some d) false true) s = .next { s with plp := e }) ∧
          (n.id ≠ s.scv.stationId → s.pnl.setupDone = true →
            ∃ t, exec (.characterReceived (some d) false true) s = .next t ∧
              Settled { s with plp := e, fsu := { s.fsu with peers := t.fsu.peers, tableFull := t.fsu.tableFull } } t ∧
              ((∃ p ∈ s.fsu.peers, p.id = n.id) ∨ (n.farewell = false ∧ s.fsu.peers.length < 30) →
                mismatchFormed s t) ∧
              (n.farewell = true → t.fsu.tableFull = s.fsu.tableFull ∧
                ∀ p, p ∈ t.fsu.peers ↔ p ∈ s.fsu.peers ∧ p.id ≠ n.id) ∧
              (n.farewell = false → (∃ p ∈ s.fsu.peers, p.id = n.id) ∨ s.fsu.peers.length < 30 →
                t.fsu.tableFull = s.fsu.tableFull ∧
                ∀ p, p ∈ t.fsu.peers ↔
                  (p ∈ s.fsu.peers ∧ p.id ≠ n.id) ∨
                  p = ⟨n.id, n.held, n.want, n.key, n.budget, n.phase, n.resume, 0⟩) ∧
              (n.farewell = false → (∀ p ∈ s.fsu.peers, p.id ≠ n.id) → 30 ≤ s.fsu.peers.length →
                t.fsu.peers = s.fsu.peers ∧ t.fsu.tableFull = satInc 255 s.fsu.tableFull))))) ∧
    (∃ t, exec .lineIdle s = .next t ∧ t.plp.fault = false ∧ Settled { s with plp := { s.plp with
      lineHigh := true, idleTimer := max s.plp.idleTimer 1146, stuckTimer := 0, fault := false, rx := .idle,
      reader := readerAt s.plp.reader true,
      gathered := if s.plp.rx = .receiving then [] else s.plp.gathered,
      echo := if s.plp.rx = .receiving then [] else s.plp.echo,
      rxErrors := if s.plp.rx = .receiving then errors else s.plp.rxErrors } } t)

/-- Sending (R151, R155 to R159, R168, R170, R174, R179): FRAME_BEGIN, NOTICE_SENT, COLLISION, BACKOFF_EXPIRY and
STUCK_LOW. A notice sent brings the pending steps that it announced into the cover, and no others, and ends an isolation
of the line; the transmitter goes on with a newer notice or is EMPTY, unless the unit hands it another. At a collision the
output is released and the line stands at the level read, high where the bit sent was a zero and low where it was a one
(log entry 15). The sixteenth collision of a notice fails it: the pending steps that it announced leave held and a fresh
HEAT notice is handed, and none for a FAREWELL. Three failures in a row isolate the station, as a stuck line does, and as
ISOLATED becomes set its pending steps join the cover. A second cause of isolation takes the place of the first without
another event, but none takes that of NO_ID (log entry 30). -/
def Obligations.LineSends : Prop :=
  ∀ s : State, s.mainPowered = true →
    let n1 := satInc 255 s.plp.collisions
    let lineDown := s.fsu.isolated = some .txFail ∨ s.fsu.isolated = some .lineFault
    let cause := fun c => if s.fsu.isolated = some .noId then some .noId else some c
    let released := fun one : Bool => { s.plp with
      drives := false, sent := 0, lineHigh := one, idleTimer := if one then s.plp.idleTimer else 0,
      stuckTimer := if one then 0 else s.plp.stuckTimer,
      reader := { s.plp.reader with last := one, before := one } }
    (∀ n, s.plp.tx = .pending → s.plp.slot = some n → s.plp.lineHigh = true → 1146 ≤ s.plp.idleTimer →
      s.plp.fault = false →
      exec .frameBegin s = .next { s with plp := { s.plp with
        tx := .sending, line := some n, echo := noticeBytes n, newer := false, drives := true, sent := 0,
        lineHigh := false, idleTimer := 0, stuckTimer := 0,
        reader := { readerAt s.plp.reader false with place := some 0 } } }) ∧
    (s.plp.tx = .sending →
      ∃ t, exec .noticeSent s = .next t ∧ t.plp.tx ≠ .sending ∧
        (∀ n, s.plp.line = some n → n.annStart = true → s.fsu.start = .pending → wanted t .start = true →
          t.fsu.start = .cover) ∧
        (∀ n k, s.plp.line = some n → stepOf s.fsu k = .pending → wanted t k = true → withinCap s →
          stepOf t.fsu k = if announces n k then .cover else .pending) ∧
        (let stays := if s.plp.newer
           then t.plp.tx = .pending ∧ t.plp.attempts = 0 ∧ t.plp.slot.map blurNotice = s.plp.slot.map blurNotice
           else t.plp.tx = .empty ∧ t.plp.slot = none
         t.plp.newer = false ∧
         (stays ∨ (t.plp.tx = .pending ∧ t.plp.attempts = 0 ∧
           ∃ n, t.plp.slot = some n ∧ (heatOf t n ∨ farewellOf t n))) ∧
         (held t = held s → t.fsu.want = s.fsu.want → t.fsu.wants = s.fsu.wants →
           (∀ k, stepOf s.fsu k ≠ .release ∧ (stepOf t.fsu k = .pending → stepOf s.fsu k = .pending)) → stays)) ∧
        Settled { s with
          plp := { released true with tx := .empty, consecutive := 0, reader := readerAt s.plp.reader true },
          fsu := { s.fsu with isolated := if lineDown then none else s.fsu.isolated,
                              listenIn := if lineDown then some 3000000 else s.fsu.listenIn },
          pnl := { s.pnl with evLine := s.pnl.evLine || decide lineDown } } t) ∧
    (s.plp.tx = .sending → s.plp.attempts < 15 →
      ∃ t, exec .collision s = .next t ∧ t.plp.attempts = s.plp.attempts + 1 ∧
        Settled { s with plp := { released s.plp.drives with
          tx := .backoff, backoff := some ((s.plp.lfsr.toNat % 16 + 1) * 2 * 11000000 / 19200),
          collisions := n1 } } t) ∧
    (s.plp.tx = .sending → 15 ≤ s.plp.attempts →
      let third := s.plp.consecutive + 1 = 3
      ∃ t, exec .collision s = .next t ∧ Settled { s with
        plp := { released s.plp.drives with
          tx := .empty, txFailures := satInc 255 s.plp.txFailures, collisions := n1,
          consecutive := if third then 0 else s.plp.consecutive + 1 },
        fsu := { s.fsu with isolated := if third then cause .txFail else s.fsu.isolated },
        pnl := { s.pnl with evLine := s.pnl.evLine || (decide third && s.fsu.isolated.isNone) } } t ∧
        (∀ n, s.plp.slot = some n →
          (¬ third → n.farewell = false → (∃ k, announces n k = true ∧ stepOf s.fsu k = .pending) → entrySteady s t →
            (∀ k, stepOf t.fsu k =
              if announces n k = true ∧ stepOf s.fsu k = .pending then .free else stepOf s.fsu k) ∧
            (mayAnnounce t → t.plp.tx = .pending ∧ t.plp.attempts = 0 ∧ ∃ m, t.plp.slot = some m ∧ heatOf t m)) ∧
          (n.farewell = false → mayAnnounce t → 0 < held t ∨ 0 < t.fsu.want →
            t.plp.tx = .pending ∧ t.plp.attempts = 0 ∧ ∃ m, t.plp.slot = some m ∧ m.farewell = false) ∧
          (n.farewell = true → held s = 0 → s.fsu.want = 0 → held t = 0 → t.fsu.want = 0 →
            t.plp.tx = .empty ∧ t.plp.slot = none) ∧
          (third → s.fsu.isolated = none → withinCap s → ∀ k, stepOf s.fsu k = .pending → wanted t k = true →
            n.farewell = true ∨ announces n k = false → stepOf t.fsu k = .cover))) ∧
    (s.plp.tx = .backoff →
      exec .backoffExpiry s = .next { s with plp := { s.plp with tx := .pending, backoff := none } }) ∧
    (s.plp.fault = false → s.mwt.warning = false →
      ∃ t, exec .stuckLow s = .next t ∧ t.pnl.evFault = true ∧
        (s.fsu.isolated = none → withinCap s → ∀ k, stepOf s.fsu k = .pending → wanted t k = true →
          stepOf t.fsu k = .cover) ∧ Settled { s with
        plp := { s.plp with fault := true, lineHigh := false, idleTimer := 0,
                            stuckTimer := max s.plp.stuckTimer 11460,
                            reader := { s.plp.reader with last := false, before := false } },
        fsu := { s.fsu with isolated := cause .lineFault },
        pnl := { s.pnl with evLine := s.pnl.evLine || s.fsu.isolated.isNone } } t)

/-- The unit's timers, what an evaluation does, and what follows a change of the want (R168 to R180). NOTICE_TIMER_EXPIRY
hands a HEAT notice while held or want is above 0, with the key formed anew (log entry 35); SETTLE_EXPIRY,
LISTEN_IN_EXPIRY and PEER_AGE_OUT are evaluations, which form the effective budget and BUDGET_MISMATCH anew. After the
settle window free steps that are wanted are granted in their order while they fit what the peers leave: pending with a
notice that announces them, or in the cover at once while ISOLATED. An overrun that falls to the station of the largest
key sheds STAGE2, and STAGE1 if it still stands, each under release until its load has stopped. With every wanted step in
the cover and heat wanted the class is 2 (R170).
After every row that may move the want (the second, a crossing, the door, a measurement, the commands on the cycle and the
like) the want taken is the present one. Each step newly wanted starts the settle timer, whatever the sum of the wants
does (the model's reading of R175, log entry 40); a fall to held or below stops it. A step no longer wanted leaves held if
it was pending, and goes under release until its load has stopped, at which moment it is free (R168, R169, R71). A change
of held or of want hands a HEAT notice, or a FAREWELL where both have become 0, which stops the notice timer (R173). -/
def Obligations.UnitTimers : Prop :=
  ∀ s : State, s.mainPowered = true →
    let budget := fun ps : List Peer =>
      if s.fsu.isolated.isSome then min (heardBudget s ps) s.settings.isolatedCap else heardBudget s ps
    let taken := (s.fsu.peers.map Peer.held).sum
    let waiting := fun key => (s.fsu.peers.map fun p => if p.key < key then p.want - p.held else 0).sum
    let listens := s.pnl.setupDone = true ∧ s.mwt.warning = false ∧ s.fsu.listenIn = none ∧ s.scv.strapDone = true
    let settled := s.fsu.settle ≠ none ∧ wantTaken s
    let grant := if s.fsu.isolated.isSome then StepState.cover else .pending
    (s.fsu.notice ≠ none → held s = 0 → s.fsu.want = 0 →
      exec .noticeTimerExpiry s = .next { s with fsu := { s.fsu with notice := none } }) ∧
    (s.fsu.notice ≠ none → 0 < held s ∨ 0 < s.fsu.want → mayAnnounce s →
      ∃ t n, exec .noticeTimerExpiry s = .next t ∧ Settled s t ∧ t.plp.slot = some n ∧ heatOf s n ∧
        t.fsu.notice = some (1000000 + s.plp.lfsr.toNat % 128 * 1000) ∧ t.fsu.key = claimKey s) ∧
    (s.fsu.settle ≠ none →
      ∃ t, exec .settleExpiry s = .next t ∧ Settled s t ∧ t.fsu.effective = budget s.fsu.peers ∧
        mismatchFormed s t ∧ (settled → t.fsu.settle = none)) ∧
    (settled → listens → s.fsu.start = .free → s.fsu.stage1 = .free → s.fsu.stage2 = .free →
      (wanted s .start = true → s.ost.motor = .stopped →
        taken + waiting (claimKey s) + s.settings.startUnits ≤ budget s.fsu.peers →
        ∃ t, exec .settleExpiry s = .next t ∧ t.fsu.start = grant ∧ t.fsu.stage1 = .free ∧ t.fsu.stage2 = .free ∧
          (s.fsu.isolated = none → 1 ≤ s.scv.stationId → s.scv.stationId ≤ 31 →
            ∃ n, t.plp.slot = some n ∧ n.farewell = false ∧ n.annStart = true ∧ n.annStage1 = false ∧
              n.annStage2 = false ∧ n.held = s.settings.startUnits ∧ n.want = s.settings.startUnits)) ∧
      (wanted s .stage1 = true → 0 < s.settings.weight1 →
        let room := budget s.fsu.peers - (taken + waiting (claimKey s))
        ∃ t, exec .settleExpiry s = .next t ∧ t.fsu.start = .free ∧
          t.fsu.stage1 = (if s.settings.weight1 ≤ room then grant else .free) ∧
          t.fsu.stage2 =
            (if wanted s .stage2 = true ∧ s.settings.weight1 + s.settings.weight2 ≤ room then grant else .free))) ∧
    (settled → listens → s.fsu.cls = 2 → s.fsu.start = .free → s.fsu.stage1 = .cover → s.fsu.stage2 = .cover →
      wanted s .stage2 = true → s.mwt.state = .present → s.ost.stage1.on = true → s.ost.stage2.on = true →
      let w1 := s.settings.weight1
      let falls := (∀ p ∈ s.fsu.peers, p.held = 0 ∨ p.key ≤ claimKey s) ∧
        budget s.fsu.peers < w1 + s.settings.weight2 + taken
      ∃ t, exec .settleExpiry s = .next t ∧ t.fsu.start = .free ∧
        t.fsu.stage2 = (if falls then .release else .cover) ∧
        t.fsu.stage1 = (if falls ∧ 0 < w1 ∧ budget s.fsu.peers < w1 + taken then .release else .cover) ∧
        (falls → 0 < w1 → t.fsu.sheds =
          (if budget s.fsu.peers < w1 + taken then satInc 255 (satInc 255 s.fsu.sheds)
           else satInc 255 s.fsu.sheds)) ∧
        (falls → s.ost.stage2.state = .firing → t.ost.stage2.leaves = true)) ∧
    (s.fsu.listenIn ≠ none →
      ∃ t, exec .listenInExpiry s = .next t ∧ Settled { s with fsu := { s.fsu with listenIn := none } } t ∧
        t.fsu.effective = budget s.fsu.peers ∧ mismatchFormed s t) ∧
    (∀ id, (∃ p ∈ s.fsu.peers, p.id = id) →
      ∃ t, exec (.peerAgeOut id) s = .next t ∧
        Settled { s with fsu := { s.fsu with peers := s.fsu.peers.filter (fun p => p.id ≠ id) } } t ∧
        t.fsu.effective = budget (s.fsu.peers.filter fun p => p.id ≠ id) ∧ mismatchFormed s t) ∧
    (∀ c, (c = .settleExpiry ∧ s.fsu.settle ≠ none) ∨ (c = .noticeSent ∧ s.plp.tx = .sending) →
      ∃ t, exec c s = .next t ∧
        (0 < heaterWant t → (∀ k, wanted t k = true → stepOf t.fsu k = .cover) → t.fsu.cls = 2) ∧
        (t.fsu.cls = s.fsu.cls ∨ (t.fsu.cls = 2 ∧ 0 < heaterWant t))) ∧
    (∀ c, movesWant c = true → ∃ t, exec c s = .next t ∧
      (wantTaken s → wantTaken t ∧ (t.mwt.warning = false →
        (∀ k, wanted s k = false → wanted t k = true → t.fsu.settle = some 2500000) ∧
        (t.fsu.want < s.fsu.want → (∀ k, wanted t k = true → wanted s k = true) → t.fsu.want ≤ held t →
          t.fsu.settle = none))) ∧
      (∀ k, wanted t k = false →
        wanted s k = true ∨ (stepOf s.fsu k = .release ∧ loadDraws s k = true) →
        stepOf t.fsu k =
          (if (stepOf s.fsu k = .cover ∨ stepOf s.fsu k = .release) ∧ loadDraws t k = true then .release
           else .free)) ∧
      (mayAnnounce t → held t ≠ held s ∨ t.fsu.want ≠ s.fsu.want → ∃ n, t.plp.slot = some n ∧
        (held t = 0 → t.fsu.want = 0 → farewellOf t n ∧ t.fsu.notice = none) ∧
        (0 < held t ∨ 0 < t.fsu.want →
          heatOf t n ∧ t.fsu.notice = some (1000000 + s.plp.lfsr.toNat % 128 * 1000))))

/-- A grant never overruns the effective budget (R176): after it, what the station holds, what its live peers hold, and
what better-placed peers still wait for stay within the budget; and steps are granted in the order START, STAGE1,
STAGE2, none past the first that does not fit. -/
def Obligations.GrantKeepsBudget : Prop :=
  ∀ s t : State, grantTest s = t →
    (t ≠ s → held t + committed s.fsu.peers + ahead s.fsu.key s.fsu.peers ≤ s.fsu.effective) ∧
    t = { s with fsu := { s.fsu with start := t.fsu.start, stage1 := t.fsu.stage1, stage2 := t.fsu.stage2 } } ∧
    (∀ k, stepOf s.fsu k ≠ .free → stepOf t.fsu k = stepOf s.fsu k) ∧
    (∀ k, stepOf t.fsu k ≠ stepOf s.fsu k →
      wanted s k = true ∧ stepOf t.fsu k = if s.fsu.isolated.isSome then .cover else .pending) ∧
    (stepOf t.fsu .stage2 ≠ stepOf s.fsu .stage2 →
      (wanted s .start = true → t.fsu.start ≠ .free) ∧ (wanted s .stage1 = true → t.fsu.stage1 ≠ .free))
/-! ## Layouts that read back -/

/-- The eight data bytes of a notice hold its fields as R193 places them, with the CRC-8 of the first seven last (R153);
they go out as eight characters of eleven bits, each with its start bit, its byte least significant bit first, the
address flag set in the first alone, and its stop bit (R152); and received, they are the notice sent, but for the
sender's own marks (R161). -/
def Obligations.NoticeRoundTrip : Prop :=
  ∀ n : Notice, noticeFits n →
    (noticeBytes n).length = 8 ∧ LaidOut (noticeBytes n) (noticeFields n) ∧
    (noticeBytes n)[7]? = some (crc8 ((noticeBytes n).take 7)) ∧
    (frameBits n).length = 88 ∧
    (∀ i d, (noticeBytes n)[i]? = some d →
      ((frameBits n).drop (11 * i)).take 11 =
        [false, d.getLsbD 0, d.getLsbD 1, d.getLsbD 2, d.getLsbD 3, d.getLsbD 4, d.getLsbD 5, d.getLsbD 6,
          d.getLsbD 7, i = 0, true]) ∧
    noticeOfBytes (noticeBytes n) = some (blurNotice n)

/-- The 64 bytes of a record hold its fields as R192 places them, with the CRC-16 of bytes 0 to 61 last; they read as
VALID with that record (R97), and so does the slot into which they are programmed. -/
def Obligations.RecordRoundTrip : Prop :=
  ∀ r : Record, recordFits r →
    (recordBytes r).length = 64 ∧ LaidOut (recordBytes r) (recordFields r) ∧
    fieldAt (recordBytes r) 62 2 = (crc16 ((recordBytes r).take 62)).toNat ∧
    readSlotBytes (recordBytes r) = .valid r ∧
    ∀ (m : List Host.Cell) (k i : Nat), Memory.wf m = true →
      readSlot (putSlot m k i (recordBytes r)) k i = .valid r

/-! ## What every step keeps -/

/-- Every step keeps the flash in canonical form. -/
def Obligations.FlashKept : Prop :=
  ∀ s t : State, FlashOk s → step s = .next t → FlashOk t

/-- Every step keeps the line's properties: the generator off 0 (R157), the straps and the station id (R43), and the
Peer Table with at most 30 entries, one a station, none of the own id (R171). -/
def Obligations.LineInvariantsKept : Prop :=
  ∀ s t : State, GeneratorOk s → StrapsOk s → PeersOk s → step s = .next t → GeneratorOk t ∧ StrapsOk t ∧ PeersOk t

/-- Every step keeps the window at 32 samples (R54), the pending record empty under JOURNAL_FAULT (R106), and the phase
in agreement with the cycle state (R5). -/
def Obligations.CycleInvariantsKept : Prop :=
  ∀ s t : State, WindowOk s → FaultOk s → PhaseOk s → step s = .next t → WindowOk t ∧ FaultOk t ∧ PhaseOk t

/-- Every step keeps the loads covered (R69, R71, R75, R81). -/
def Obligations.CoverKept : Prop :=
  ∀ s t : State, EnergizedOk s → step s = .next t → EnergizedOk t

/-- What the loads draw while the mains state is PRESENT is within the units that the station holds (R69, R167). After a
RAIL warning the relays stay closed for at most a half-period with held at 0 (R81, R181), and the state is not PRESENT
then. -/
def Obligations.DrawnWithinHeld : Prop :=
  ∀ s : State, EnergizedOk s → s.mwt.state = .present → energized s ≤ held s

/-- The holdover clock never decreases, except where the holdover supply is or becomes absent, which leaves the clock at
0 with CLOCK_LOST and the door latch set (R122, R123, R125); what stands in the block without its supply is the model's
choice (log entry 48). -/
def Obligations.ClockNeverFalls : Prop :=
  ∀ s t : State, step s = .next t →
    s.hdm.clock ≤ t.hdm.clock ∨
      ((s.hdm.powered = false ∨ t.hdm.powered = false) ∧ t.hdm.clock = 0 ∧ t.hdm.clockLost = true ∧
        t.hdm.doorLatch = true)

/-- The state after reset has every property that the steps keep. -/
def Obligations.ResetHasInvariants : Prop :=
  FlashOk State.reset ∧ GeneratorOk State.reset ∧ StrapsOk State.reset ∧ PeersOk State.reset ∧
  WindowOk State.reset ∧ FaultOk State.reset ∧ PhaseOk State.reset ∧ EnergizedOk State.reset
end

