-- ==== Sys2Proof/Laws/State.lean ====
section
/-! SUPPORT. What replacing one block of the state does to each block: one lemma per block and field. -/

namespace Sys2Proof.Machine

variable (s : State)

@[simp] theorem State.setCsq_mainPowered (x : Sequencer) : (s.setCsq x).mainPowered = s.mainPowered := rfl
@[simp] theorem State.setCsq_csq (x : Sequencer) : (s.setCsq x).csq = x := rfl
@[simp] theorem State.setCsq_scv (x : Sequencer) : (s.setCsq x).scv = s.scv := rfl
@[simp] theorem State.setCsq_dwn (x : Sequencer) : (s.setCsq x).dwn = s.dwn := rfl
@[simp] theorem State.setCsq_ost (x : Sequencer) : (s.setCsq x).ost = s.ost := rfl
@[simp] theorem State.setCsq_mwt (x : Sequencer) : (s.setCsq x).mwt = s.mwt := rfl
@[simp] theorem State.setCsq_pjr (x : Sequencer) : (s.setCsq x).pjr = s.pjr := rfl
@[simp] theorem State.setCsq_hdm (x : Sequencer) : (s.setCsq x).hdm = s.hdm := rfl
@[simp] theorem State.setCsq_rpl (x : Sequencer) : (s.setCsq x).rpl = s.rpl := rfl
@[simp] theorem State.setCsq_plp (x : Sequencer) : (s.setCsq x).plp = s.plp := rfl
@[simp] theorem State.setCsq_fsu (x : Sequencer) : (s.setCsq x).fsu = s.fsu := rfl
@[simp] theorem State.setCsq_pnl (x : Sequencer) : (s.setCsq x).pnl = s.pnl := rfl
@[simp] theorem State.setCsq_settings (x : Sequencer) : (s.setCsq x).settings = s.settings := rfl
@[simp] theorem State.setCsq_flash (x : Sequencer) : (s.setCsq x).flash = s.flash := rfl
@[simp] theorem State.setCsq_freeCount (x : Sequencer) : (s.setCsq x).freeCount = s.freeCount := rfl
@[simp] theorem State.setCsq_pending (x : Sequencer) : (s.setCsq x).pending = s.pending := rfl

@[simp] theorem State.setScv_mainPowered (x : Converter) : (s.setScv x).mainPowered = s.mainPowered := rfl
@[simp] theorem State.setScv_csq (x : Converter) : (s.setScv x).csq = s.csq := rfl
@[simp] theorem State.setScv_scv (x : Converter) : (s.setScv x).scv = x := rfl
@[simp] theorem State.setScv_dwn (x : Converter) : (s.setScv x).dwn = s.dwn := rfl
@[simp] theorem State.setScv_ost (x : Converter) : (s.setScv x).ost = s.ost := rfl
@[simp] theorem State.setScv_mwt (x : Converter) : (s.setScv x).mwt = s.mwt := rfl
@[simp] theorem State.setScv_pjr (x : Converter) : (s.setScv x).pjr = s.pjr := rfl
@[simp] theorem State.setScv_hdm (x : Converter) : (s.setScv x).hdm = s.hdm := rfl
@[simp] theorem State.setScv_rpl (x : Converter) : (s.setScv x).rpl = s.rpl := rfl
@[simp] theorem State.setScv_plp (x : Converter) : (s.setScv x).plp = s.plp := rfl
@[simp] theorem State.setScv_fsu (x : Converter) : (s.setScv x).fsu = s.fsu := rfl
@[simp] theorem State.setScv_pnl (x : Converter) : (s.setScv x).pnl = s.pnl := rfl
@[simp] theorem State.setScv_settings (x : Converter) : (s.setScv x).settings = s.settings := rfl
@[simp] theorem State.setScv_flash (x : Converter) : (s.setScv x).flash = s.flash := rfl
@[simp] theorem State.setScv_freeCount (x : Converter) : (s.setScv x).freeCount = s.freeCount := rfl
@[simp] theorem State.setScv_pending (x : Converter) : (s.setScv x).pending = s.pending := rfl

@[simp] theorem State.setDwn_mainPowered (x : Dryness) : (s.setDwn x).mainPowered = s.mainPowered := rfl
@[simp] theorem State.setDwn_csq (x : Dryness) : (s.setDwn x).csq = s.csq := rfl
@[simp] theorem State.setDwn_scv (x : Dryness) : (s.setDwn x).scv = s.scv := rfl
@[simp] theorem State.setDwn_dwn (x : Dryness) : (s.setDwn x).dwn = x := rfl
@[simp] theorem State.setDwn_ost (x : Dryness) : (s.setDwn x).ost = s.ost := rfl
@[simp] theorem State.setDwn_mwt (x : Dryness) : (s.setDwn x).mwt = s.mwt := rfl
@[simp] theorem State.setDwn_pjr (x : Dryness) : (s.setDwn x).pjr = s.pjr := rfl
@[simp] theorem State.setDwn_hdm (x : Dryness) : (s.setDwn x).hdm = s.hdm := rfl
@[simp] theorem State.setDwn_rpl (x : Dryness) : (s.setDwn x).rpl = s.rpl := rfl
@[simp] theorem State.setDwn_plp (x : Dryness) : (s.setDwn x).plp = s.plp := rfl
@[simp] theorem State.setDwn_fsu (x : Dryness) : (s.setDwn x).fsu = s.fsu := rfl
@[simp] theorem State.setDwn_pnl (x : Dryness) : (s.setDwn x).pnl = s.pnl := rfl
@[simp] theorem State.setDwn_settings (x : Dryness) : (s.setDwn x).settings = s.settings := rfl
@[simp] theorem State.setDwn_flash (x : Dryness) : (s.setDwn x).flash = s.flash := rfl
@[simp] theorem State.setDwn_freeCount (x : Dryness) : (s.setDwn x).freeCount = s.freeCount := rfl
@[simp] theorem State.setDwn_pending (x : Dryness) : (s.setDwn x).pending = s.pending := rfl

@[simp] theorem State.setOst_mainPowered (x : Output) : (s.setOst x).mainPowered = s.mainPowered := rfl
@[simp] theorem State.setOst_csq (x : Output) : (s.setOst x).csq = s.csq := rfl
@[simp] theorem State.setOst_scv (x : Output) : (s.setOst x).scv = s.scv := rfl
@[simp] theorem State.setOst_dwn (x : Output) : (s.setOst x).dwn = s.dwn := rfl
@[simp] theorem State.setOst_ost (x : Output) : (s.setOst x).ost = x := rfl
@[simp] theorem State.setOst_mwt (x : Output) : (s.setOst x).mwt = s.mwt := rfl
@[simp] theorem State.setOst_pjr (x : Output) : (s.setOst x).pjr = s.pjr := rfl
@[simp] theorem State.setOst_hdm (x : Output) : (s.setOst x).hdm = s.hdm := rfl
@[simp] theorem State.setOst_rpl (x : Output) : (s.setOst x).rpl = s.rpl := rfl
@[simp] theorem State.setOst_plp (x : Output) : (s.setOst x).plp = s.plp := rfl
@[simp] theorem State.setOst_fsu (x : Output) : (s.setOst x).fsu = s.fsu := rfl
@[simp] theorem State.setOst_pnl (x : Output) : (s.setOst x).pnl = s.pnl := rfl
@[simp] theorem State.setOst_settings (x : Output) : (s.setOst x).settings = s.settings := rfl
@[simp] theorem State.setOst_flash (x : Output) : (s.setOst x).flash = s.flash := rfl
@[simp] theorem State.setOst_freeCount (x : Output) : (s.setOst x).freeCount = s.freeCount := rfl
@[simp] theorem State.setOst_pending (x : Output) : (s.setOst x).pending = s.pending := rfl

@[simp] theorem State.setMwt_mainPowered (x : Mains) : (s.setMwt x).mainPowered = s.mainPowered := rfl
@[simp] theorem State.setMwt_csq (x : Mains) : (s.setMwt x).csq = s.csq := rfl
@[simp] theorem State.setMwt_scv (x : Mains) : (s.setMwt x).scv = s.scv := rfl
@[simp] theorem State.setMwt_dwn (x : Mains) : (s.setMwt x).dwn = s.dwn := rfl
@[simp] theorem State.setMwt_ost (x : Mains) : (s.setMwt x).ost = s.ost := rfl
@[simp] theorem State.setMwt_mwt (x : Mains) : (s.setMwt x).mwt = x := rfl
@[simp] theorem State.setMwt_pjr (x : Mains) : (s.setMwt x).pjr = s.pjr := rfl
@[simp] theorem State.setMwt_hdm (x : Mains) : (s.setMwt x).hdm = s.hdm := rfl
@[simp] theorem State.setMwt_rpl (x : Mains) : (s.setMwt x).rpl = s.rpl := rfl
@[simp] theorem State.setMwt_plp (x : Mains) : (s.setMwt x).plp = s.plp := rfl
@[simp] theorem State.setMwt_fsu (x : Mains) : (s.setMwt x).fsu = s.fsu := rfl
@[simp] theorem State.setMwt_pnl (x : Mains) : (s.setMwt x).pnl = s.pnl := rfl
@[simp] theorem State.setMwt_settings (x : Mains) : (s.setMwt x).settings = s.settings := rfl
@[simp] theorem State.setMwt_flash (x : Mains) : (s.setMwt x).flash = s.flash := rfl
@[simp] theorem State.setMwt_freeCount (x : Mains) : (s.setMwt x).freeCount = s.freeCount := rfl
@[simp] theorem State.setMwt_pending (x : Mains) : (s.setMwt x).pending = s.pending := rfl

@[simp] theorem State.setPjr_mainPowered (x : Journal) : (s.setPjr x).mainPowered = s.mainPowered := rfl
@[simp] theorem State.setPjr_csq (x : Journal) : (s.setPjr x).csq = s.csq := rfl
@[simp] theorem State.setPjr_scv (x : Journal) : (s.setPjr x).scv = s.scv := rfl
@[simp] theorem State.setPjr_dwn (x : Journal) : (s.setPjr x).dwn = s.dwn := rfl
@[simp] theorem State.setPjr_ost (x : Journal) : (s.setPjr x).ost = s.ost := rfl
@[simp] theorem State.setPjr_mwt (x : Journal) : (s.setPjr x).mwt = s.mwt := rfl
@[simp] theorem State.setPjr_pjr (x : Journal) : (s.setPjr x).pjr = x := rfl
@[simp] theorem State.setPjr_hdm (x : Journal) : (s.setPjr x).hdm = s.hdm := rfl
@[simp] theorem State.setPjr_rpl (x : Journal) : (s.setPjr x).rpl = s.rpl := rfl
@[simp] theorem State.setPjr_plp (x : Journal) : (s.setPjr x).plp = s.plp := rfl
@[simp] theorem State.setPjr_fsu (x : Journal) : (s.setPjr x).fsu = s.fsu := rfl
@[simp] theorem State.setPjr_pnl (x : Journal) : (s.setPjr x).pnl = s.pnl := rfl
@[simp] theorem State.setPjr_settings (x : Journal) : (s.setPjr x).settings = s.settings := rfl
@[simp] theorem State.setPjr_flash (x : Journal) : (s.setPjr x).flash = s.flash := rfl
@[simp] theorem State.setPjr_freeCount (x : Journal) : (s.setPjr x).freeCount = s.freeCount := rfl
@[simp] theorem State.setPjr_pending (x : Journal) : (s.setPjr x).pending = s.pending := rfl

@[simp] theorem State.setHdm_mainPowered (x : Holdover) : (s.setHdm x).mainPowered = s.mainPowered := rfl
@[simp] theorem State.setHdm_csq (x : Holdover) : (s.setHdm x).csq = s.csq := rfl
@[simp] theorem State.setHdm_scv (x : Holdover) : (s.setHdm x).scv = s.scv := rfl
@[simp] theorem State.setHdm_dwn (x : Holdover) : (s.setHdm x).dwn = s.dwn := rfl
@[simp] theorem State.setHdm_ost (x : Holdover) : (s.setHdm x).ost = s.ost := rfl
@[simp] theorem State.setHdm_mwt (x : Holdover) : (s.setHdm x).mwt = s.mwt := rfl
@[simp] theorem State.setHdm_pjr (x : Holdover) : (s.setHdm x).pjr = s.pjr := rfl
@[simp] theorem State.setHdm_hdm (x : Holdover) : (s.setHdm x).hdm = x := rfl
@[simp] theorem State.setHdm_rpl (x : Holdover) : (s.setHdm x).rpl = s.rpl := rfl
@[simp] theorem State.setHdm_plp (x : Holdover) : (s.setHdm x).plp = s.plp := rfl
@[simp] theorem State.setHdm_fsu (x : Holdover) : (s.setHdm x).fsu = s.fsu := rfl
@[simp] theorem State.setHdm_pnl (x : Holdover) : (s.setHdm x).pnl = s.pnl := rfl
@[simp] theorem State.setHdm_settings (x : Holdover) : (s.setHdm x).settings = s.settings := rfl
@[simp] theorem State.setHdm_flash (x : Holdover) : (s.setHdm x).flash = s.flash := rfl
@[simp] theorem State.setHdm_freeCount (x : Holdover) : (s.setHdm x).freeCount = s.freeCount := rfl
@[simp] theorem State.setHdm_pending (x : Holdover) : (s.setHdm x).pending = s.pending := rfl

@[simp] theorem State.setRpl_mainPowered (x : Planner) : (s.setRpl x).mainPowered = s.mainPowered := rfl
@[simp] theorem State.setRpl_csq (x : Planner) : (s.setRpl x).csq = s.csq := rfl
@[simp] theorem State.setRpl_scv (x : Planner) : (s.setRpl x).scv = s.scv := rfl
@[simp] theorem State.setRpl_dwn (x : Planner) : (s.setRpl x).dwn = s.dwn := rfl
@[simp] theorem State.setRpl_ost (x : Planner) : (s.setRpl x).ost = s.ost := rfl
@[simp] theorem State.setRpl_mwt (x : Planner) : (s.setRpl x).mwt = s.mwt := rfl
@[simp] theorem State.setRpl_pjr (x : Planner) : (s.setRpl x).pjr = s.pjr := rfl
@[simp] theorem State.setRpl_hdm (x : Planner) : (s.setRpl x).hdm = s.hdm := rfl
@[simp] theorem State.setRpl_rpl (x : Planner) : (s.setRpl x).rpl = x := rfl
@[simp] theorem State.setRpl_plp (x : Planner) : (s.setRpl x).plp = s.plp := rfl
@[simp] theorem State.setRpl_fsu (x : Planner) : (s.setRpl x).fsu = s.fsu := rfl
@[simp] theorem State.setRpl_pnl (x : Planner) : (s.setRpl x).pnl = s.pnl := rfl
@[simp] theorem State.setRpl_settings (x : Planner) : (s.setRpl x).settings = s.settings := rfl
@[simp] theorem State.setRpl_flash (x : Planner) : (s.setRpl x).flash = s.flash := rfl
@[simp] theorem State.setRpl_freeCount (x : Planner) : (s.setRpl x).freeCount = s.freeCount := rfl
@[simp] theorem State.setRpl_pending (x : Planner) : (s.setRpl x).pending = s.pending := rfl

@[simp] theorem State.setPlp_mainPowered (x : Port) : (s.setPlp x).mainPowered = s.mainPowered := rfl
@[simp] theorem State.setPlp_csq (x : Port) : (s.setPlp x).csq = s.csq := rfl
@[simp] theorem State.setPlp_scv (x : Port) : (s.setPlp x).scv = s.scv := rfl
@[simp] theorem State.setPlp_dwn (x : Port) : (s.setPlp x).dwn = s.dwn := rfl
@[simp] theorem State.setPlp_ost (x : Port) : (s.setPlp x).ost = s.ost := rfl
@[simp] theorem State.setPlp_mwt (x : Port) : (s.setPlp x).mwt = s.mwt := rfl
@[simp] theorem State.setPlp_pjr (x : Port) : (s.setPlp x).pjr = s.pjr := rfl
@[simp] theorem State.setPlp_hdm (x : Port) : (s.setPlp x).hdm = s.hdm := rfl
@[simp] theorem State.setPlp_rpl (x : Port) : (s.setPlp x).rpl = s.rpl := rfl
@[simp] theorem State.setPlp_plp (x : Port) : (s.setPlp x).plp = x := rfl
@[simp] theorem State.setPlp_fsu (x : Port) : (s.setPlp x).fsu = s.fsu := rfl
@[simp] theorem State.setPlp_pnl (x : Port) : (s.setPlp x).pnl = s.pnl := rfl
@[simp] theorem State.setPlp_settings (x : Port) : (s.setPlp x).settings = s.settings := rfl
@[simp] theorem State.setPlp_flash (x : Port) : (s.setPlp x).flash = s.flash := rfl
@[simp] theorem State.setPlp_freeCount (x : Port) : (s.setPlp x).freeCount = s.freeCount := rfl
@[simp] theorem State.setPlp_pending (x : Port) : (s.setPlp x).pending = s.pending := rfl

@[simp] theorem State.setFsu_mainPowered (x : Feeder) : (s.setFsu x).mainPowered = s.mainPowered := rfl
@[simp] theorem State.setFsu_csq (x : Feeder) : (s.setFsu x).csq = s.csq := rfl
@[simp] theorem State.setFsu_scv (x : Feeder) : (s.setFsu x).scv = s.scv := rfl
@[simp] theorem State.setFsu_dwn (x : Feeder) : (s.setFsu x).dwn = s.dwn := rfl
@[simp] theorem State.setFsu_ost (x : Feeder) : (s.setFsu x).ost = s.ost := rfl
@[simp] theorem State.setFsu_mwt (x : Feeder) : (s.setFsu x).mwt = s.mwt := rfl
@[simp] theorem State.setFsu_pjr (x : Feeder) : (s.setFsu x).pjr = s.pjr := rfl
@[simp] theorem State.setFsu_hdm (x : Feeder) : (s.setFsu x).hdm = s.hdm := rfl
@[simp] theorem State.setFsu_rpl (x : Feeder) : (s.setFsu x).rpl = s.rpl := rfl
@[simp] theorem State.setFsu_plp (x : Feeder) : (s.setFsu x).plp = s.plp := rfl
@[simp] theorem State.setFsu_fsu (x : Feeder) : (s.setFsu x).fsu = x := rfl
@[simp] theorem State.setFsu_pnl (x : Feeder) : (s.setFsu x).pnl = s.pnl := rfl
@[simp] theorem State.setFsu_settings (x : Feeder) : (s.setFsu x).settings = s.settings := rfl
@[simp] theorem State.setFsu_flash (x : Feeder) : (s.setFsu x).flash = s.flash := rfl
@[simp] theorem State.setFsu_freeCount (x : Feeder) : (s.setFsu x).freeCount = s.freeCount := rfl
@[simp] theorem State.setFsu_pending (x : Feeder) : (s.setFsu x).pending = s.pending := rfl

@[simp] theorem State.setPnl_mainPowered (x : Panel) : (s.setPnl x).mainPowered = s.mainPowered := rfl
@[simp] theorem State.setPnl_csq (x : Panel) : (s.setPnl x).csq = s.csq := rfl
@[simp] theorem State.setPnl_scv (x : Panel) : (s.setPnl x).scv = s.scv := rfl
@[simp] theorem State.setPnl_dwn (x : Panel) : (s.setPnl x).dwn = s.dwn := rfl
@[simp] theorem State.setPnl_ost (x : Panel) : (s.setPnl x).ost = s.ost := rfl
@[simp] theorem State.setPnl_mwt (x : Panel) : (s.setPnl x).mwt = s.mwt := rfl
@[simp] theorem State.setPnl_pjr (x : Panel) : (s.setPnl x).pjr = s.pjr := rfl
@[simp] theorem State.setPnl_hdm (x : Panel) : (s.setPnl x).hdm = s.hdm := rfl
@[simp] theorem State.setPnl_rpl (x : Panel) : (s.setPnl x).rpl = s.rpl := rfl
@[simp] theorem State.setPnl_plp (x : Panel) : (s.setPnl x).plp = s.plp := rfl
@[simp] theorem State.setPnl_fsu (x : Panel) : (s.setPnl x).fsu = s.fsu := rfl
@[simp] theorem State.setPnl_pnl (x : Panel) : (s.setPnl x).pnl = x := rfl
@[simp] theorem State.setPnl_settings (x : Panel) : (s.setPnl x).settings = s.settings := rfl
@[simp] theorem State.setPnl_flash (x : Panel) : (s.setPnl x).flash = s.flash := rfl
@[simp] theorem State.setPnl_freeCount (x : Panel) : (s.setPnl x).freeCount = s.freeCount := rfl
@[simp] theorem State.setPnl_pending (x : Panel) : (s.setPnl x).pending = s.pending := rfl

@[simp] theorem State.setSettings_mainPowered (x : Settings) : (s.setSettings x).mainPowered = s.mainPowered := rfl
@[simp] theorem State.setSettings_csq (x : Settings) : (s.setSettings x).csq = s.csq := rfl
@[simp] theorem State.setSettings_scv (x : Settings) : (s.setSettings x).scv = s.scv := rfl
@[simp] theorem State.setSettings_dwn (x : Settings) : (s.setSettings x).dwn = s.dwn := rfl
@[simp] theorem State.setSettings_ost (x : Settings) : (s.setSettings x).ost = s.ost := rfl
@[simp] theorem State.setSettings_mwt (x : Settings) : (s.setSettings x).mwt = s.mwt := rfl
@[simp] theorem State.setSettings_pjr (x : Settings) : (s.setSettings x).pjr = s.pjr := rfl
@[simp] theorem State.setSettings_hdm (x : Settings) : (s.setSettings x).hdm = s.hdm := rfl
@[simp] theorem State.setSettings_rpl (x : Settings) : (s.setSettings x).rpl = s.rpl := rfl
@[simp] theorem State.setSettings_plp (x : Settings) : (s.setSettings x).plp = s.plp := rfl
@[simp] theorem State.setSettings_fsu (x : Settings) : (s.setSettings x).fsu = s.fsu := rfl
@[simp] theorem State.setSettings_pnl (x : Settings) : (s.setSettings x).pnl = s.pnl := rfl
@[simp] theorem State.setSettings_settings (x : Settings) : (s.setSettings x).settings = x := rfl
@[simp] theorem State.setSettings_flash (x : Settings) : (s.setSettings x).flash = s.flash := rfl
@[simp] theorem State.setSettings_freeCount (x : Settings) : (s.setSettings x).freeCount = s.freeCount := rfl
@[simp] theorem State.setSettings_pending (x : Settings) : (s.setSettings x).pending = s.pending := rfl

@[simp] theorem State.setFlash_mainPowered (x : List Host.Cell) : (s.setFlash x).mainPowered = s.mainPowered := rfl
@[simp] theorem State.setFlash_csq (x : List Host.Cell) : (s.setFlash x).csq = s.csq := rfl
@[simp] theorem State.setFlash_scv (x : List Host.Cell) : (s.setFlash x).scv = s.scv := rfl
@[simp] theorem State.setFlash_dwn (x : List Host.Cell) : (s.setFlash x).dwn = s.dwn := rfl
@[simp] theorem State.setFlash_ost (x : List Host.Cell) : (s.setFlash x).ost = s.ost := rfl
@[simp] theorem State.setFlash_mwt (x : List Host.Cell) : (s.setFlash x).mwt = s.mwt := rfl
@[simp] theorem State.setFlash_pjr (x : List Host.Cell) : (s.setFlash x).pjr = s.pjr := rfl
@[simp] theorem State.setFlash_hdm (x : List Host.Cell) : (s.setFlash x).hdm = s.hdm := rfl
@[simp] theorem State.setFlash_rpl (x : List Host.Cell) : (s.setFlash x).rpl = s.rpl := rfl
@[simp] theorem State.setFlash_plp (x : List Host.Cell) : (s.setFlash x).plp = s.plp := rfl
@[simp] theorem State.setFlash_fsu (x : List Host.Cell) : (s.setFlash x).fsu = s.fsu := rfl
@[simp] theorem State.setFlash_pnl (x : List Host.Cell) : (s.setFlash x).pnl = s.pnl := rfl
@[simp] theorem State.setFlash_settings (x : List Host.Cell) : (s.setFlash x).settings = s.settings := rfl
@[simp] theorem State.setFlash_flash (x : List Host.Cell) : (s.setFlash x).flash = x := rfl
@[simp] theorem State.setFlash_freeCount (x : List Host.Cell) : (s.setFlash x).freeCount = s.freeCount := rfl
@[simp] theorem State.setFlash_pending (x : List Host.Cell) : (s.setFlash x).pending = s.pending := rfl

@[simp] theorem State.setFreeCount_mainPowered (x : Nat) : (s.setFreeCount x).mainPowered = s.mainPowered := rfl
@[simp] theorem State.setFreeCount_csq (x : Nat) : (s.setFreeCount x).csq = s.csq := rfl
@[simp] theorem State.setFreeCount_scv (x : Nat) : (s.setFreeCount x).scv = s.scv := rfl
@[simp] theorem State.setFreeCount_dwn (x : Nat) : (s.setFreeCount x).dwn = s.dwn := rfl
@[simp] theorem State.setFreeCount_ost (x : Nat) : (s.setFreeCount x).ost = s.ost := rfl
@[simp] theorem State.setFreeCount_mwt (x : Nat) : (s.setFreeCount x).mwt = s.mwt := rfl
@[simp] theorem State.setFreeCount_pjr (x : Nat) : (s.setFreeCount x).pjr = s.pjr := rfl
@[simp] theorem State.setFreeCount_hdm (x : Nat) : (s.setFreeCount x).hdm = s.hdm := rfl
@[simp] theorem State.setFreeCount_rpl (x : Nat) : (s.setFreeCount x).rpl = s.rpl := rfl
@[simp] theorem State.setFreeCount_plp (x : Nat) : (s.setFreeCount x).plp = s.plp := rfl
@[simp] theorem State.setFreeCount_fsu (x : Nat) : (s.setFreeCount x).fsu = s.fsu := rfl
@[simp] theorem State.setFreeCount_pnl (x : Nat) : (s.setFreeCount x).pnl = s.pnl := rfl
@[simp] theorem State.setFreeCount_settings (x : Nat) : (s.setFreeCount x).settings = s.settings := rfl
@[simp] theorem State.setFreeCount_flash (x : Nat) : (s.setFreeCount x).flash = s.flash := rfl
@[simp] theorem State.setFreeCount_freeCount (x : Nat) : (s.setFreeCount x).freeCount = x := rfl
@[simp] theorem State.setFreeCount_pending (x : Nat) : (s.setFreeCount x).pending = s.pending := rfl

@[simp] theorem State.ite_mainPowered (p : Prop) [Decidable p] (a b : State) :
    (if p then a else b).mainPowered = if p then a.mainPowered else b.mainPowered := by split <;> rfl
@[simp] theorem State.ite_csq (p : Prop) [Decidable p] (a b : State) :
    (if p then a else b).csq = if p then a.csq else b.csq := by split <;> rfl
@[simp] theorem State.ite_scv (p : Prop) [Decidable p] (a b : State) :
    (if p then a else b).scv = if p then a.scv else b.scv := by split <;> rfl
@[simp] theorem State.ite_dwn (p : Prop) [Decidable p] (a b : State) :
    (if p then a else b).dwn = if p then a.dwn else b.dwn := by split <;> rfl
@[simp] theorem State.ite_ost (p : Prop) [Decidable p] (a b : State) :
    (if p then a else b).ost = if p then a.ost else b.ost := by split <;> rfl
@[simp] theorem State.ite_mwt (p : Prop) [Decidable p] (a b : State) :
    (if p then a else b).mwt = if p then a.mwt else b.mwt := by split <;> rfl
@[simp] theorem State.ite_pjr (p : Prop) [Decidable p] (a b : State) :
    (if p then a else b).pjr = if p then a.pjr else b.pjr := by split <;> rfl
@[simp] theorem State.ite_hdm (p : Prop) [Decidable p] (a b : State) :
    (if p then a else b).hdm = if p then a.hdm else b.hdm := by split <;> rfl
@[simp] theorem State.ite_rpl (p : Prop) [Decidable p] (a b : State) :
    (if p then a else b).rpl = if p then a.rpl else b.rpl := by split <;> rfl
@[simp] theorem State.ite_plp (p : Prop) [Decidable p] (a b : State) :
    (if p then a else b).plp = if p then a.plp else b.plp := by split <;> rfl
@[simp] theorem State.ite_fsu (p : Prop) [Decidable p] (a b : State) :
    (if p then a else b).fsu = if p then a.fsu else b.fsu := by split <;> rfl
@[simp] theorem State.ite_pnl (p : Prop) [Decidable p] (a b : State) :
    (if p then a else b).pnl = if p then a.pnl else b.pnl := by split <;> rfl
@[simp] theorem State.ite_settings (p : Prop) [Decidable p] (a b : State) :
    (if p then a else b).settings = if p then a.settings else b.settings := by split <;> rfl
@[simp] theorem State.ite_flash (p : Prop) [Decidable p] (a b : State) :
    (if p then a else b).flash = if p then a.flash else b.flash := by split <;> rfl
@[simp] theorem State.ite_freeCount (p : Prop) [Decidable p] (a b : State) :
    (if p then a else b).freeCount = if p then a.freeCount else b.freeCount := by split <;> rfl
@[simp] theorem State.ite_pending (p : Prop) [Decidable p] (a b : State) :
    (if p then a else b).pending = if p then a.pending else b.pending := by split <;> rfl

end Sys2Proof.Machine
end

