-- ==== Sys2Proof/Laws/Feeder.lean ====
section
/-! SUPPORT. What the settling after an event may touch: every operation of the Feeder Share Unit between an event and
the notice it calls for leaves the rest of the part as it was. -/

namespace Sys2Proof.Safety

open Sys2Proof.Machine

theorem Settled.refl (s : State) : Settled s s := rfl

theorem Settled.trans {s t u : State} (h1 : Settled s t) (h2 : Settled t u) : Settled s u :=
  Eq.trans h2 h1

theorem settled_ite {s a b : State} {p : Prop} [Decidable p] (ha : Settled s a) (hb : Settled s b) :
    Settled s (if p then a else b) := by
  split
  · exact ha
  · exact hb

@[simp] theorem blurStage_mustLeave (x : Stage) : blurStage x.mustLeave = blurStage x := rfl

@[simp] theorem blurStage_syncStage (a : Bool) (x : Stage) : blurStage (syncStage a x) = blurStage x := by
  unfold syncStage
  split <;> try split
  all_goals rfl

@[simp] theorem blurStage_followStage (s : State) (k : Nat) (step : StepState) (x : Stage) :
    blurStage (followStage s k step x) = blurStage x := by
  unfold followStage
  split <;> simp

theorem syncOutputs_settled (s : State) : Settled s (syncOutputs s) := by
  simp [Settled, syncOutputs, blur, State.setOst]

theorem setStep_settled (s : State) (k : CoverStep) (x : StepState) : Settled s (setStep s k x) := by
  cases k <;> rfl

theorem setClass_settled (s : State) (c : Nat) : Settled s (setClass s c) := rfl

theorem unmarkStep_settled (s : State) (k : CoverStep) : Settled s (unmarkStep s k) := by
  have h : ∀ n : Notice, blurNotice (n.unmark k) = blurNotice n := by
    intro n
    cases k <;> rfl
  simp [Settled, unmarkStep, blur, State.setPlp, Option.map_map, Function.comp_def, h]

theorem loseHold_settled (s : State) (k : CoverStep) : Settled s (loseHold s k) := by
  cases k <;> simp [Settled, loseHold, blur, State.setOst]

theorem giveUp_settled (s : State) (k : CoverStep) : Settled s (giveUp s k) := by
  unfold giveUp
  split
  · exact (setStep_settled _ _ _).trans (unmarkStep_settled _ _)
  · exact (setStep_settled _ _ _).trans (loseHold_settled _ _)
  all_goals exact Settled.refl _

theorem dropUnwanted_settled (s : State) (k : CoverStep) : Settled s (dropUnwanted s k) :=
  settled_ite (Settled.refl _) (giveUp_settled _ _)

theorem dropAll_settled (s : State) : Settled s (dropAll s) :=
  ((dropUnwanted_settled _ _).trans (dropUnwanted_settled _ _)).trans (dropUnwanted_settled _ _)

theorem confirmStep_settled (s : State) (k : CoverStep) : Settled s (confirmStep s k) :=
  settled_ite ((setStep_settled _ _ _).trans (unmarkStep_settled _ _)) (Settled.refl _)

theorem confirmAll_settled (s : State) : Settled s (confirmAll s) :=
  ((confirmStep_settled _ _).trans (confirmStep_settled _ _)).trans (confirmStep_settled _ _)

theorem takeWant_settled (s : State) : Settled s (takeWant s) := rfl

theorem settleClass_settled (s : State) : Settled s (settleClass s) :=
  settled_ite (setClass_settled _ _) (Settled.refl _)

theorem settleEntry_settled (s : State) : Settled s (settleEntry s) :=
  ((((syncOutputs_settled _).trans (dropAll_settled _)).trans (confirmAll_settled _)).trans
    (takeWant_settled _)).trans (settleClass_settled _)

theorem formEvaluation_settled (s : State) : Settled s (formEvaluation s) := by
  unfold formEvaluation
  exact settled_ite (Settled.refl _) (Settled.refl _)

theorem shedStep_settled (s : State) (k : CoverStep) : Settled s (shedStep s k) := by
  unfold shedStep
  exact settled_ite ((giveUp_settled s k).trans rfl) (Settled.refl _)

theorem shedTest_settled (s : State) : Settled s (shedTest s) :=
  settled_ite ((shedStep_settled _ _).trans (shedStep_settled _ _)) (Settled.refl _)

theorem grantSteps_settled (x : StepState) (ks : List CoverStep) :
    ∀ (s : State) (r : Nat), Settled s (grantSteps s x r ks) := by
  induction ks with
  | nil => intro s r; exact Settled.refl s
  | cons k rest ih =>
    intro s r
    unfold grantSteps
    exact settled_ite ((setStep_settled _ _ _).trans (ih _ _)) (Settled.refl _)

theorem grantTest_settled (s : State) : Settled s (grantTest s) := by
  unfold grantTest
  refine settled_ite ?_ (Settled.refl _)
  split
  · exact grantSteps_settled _ _ _ _
  · exact Settled.refl _

theorem applyTests_settled (s : State) : Settled s (applyTests s) :=
  settled_ite (Settled.refl _) ((shedTest_settled _).trans (grantTest_settled _))

theorem evaluateOnce_settled (s : State) : Settled s (evaluateOnce s) :=
  (((formEvaluation_settled _).trans (applyTests_settled _)).trans (confirmAll_settled _)).trans
    (settleClass_settled _)

theorem evaluateTimes_settled (n : Nat) : ∀ s : State, Settled s (evaluateTimes n s) := by
  induction n with
  | zero => exact formEvaluation_settled
  | succ n ih =>
    intro s
    exact settled_ite ((evaluateOnce_settled s).trans (ih _)) (evaluateOnce_settled s)

theorem evaluate_settled (s : State) : Settled s (evaluate s) := evaluateTimes_settled 4 s

theorem takeNotice_settled (s : State) (n : Notice) : Settled s (s.setPlp (takeNotice s.plp n)) := by
  unfold takeNotice
  split <;> simp [Settled, blur, State.setPlp, blurTx, *]

theorem handNotice_settled (s : State) (f : Bool) : Settled s (handNotice s f) := by
  unfold handNotice
  exact settled_ite (settled_ite (takeNotice_settled (s.setFsu _) _) rfl) (Settled.refl _)

theorem announce_settled (s0 : State) (g : Bool) (s : State) : Settled s (announce s0 g s) := by
  unfold announce
  exact settled_ite (Settled.trans (settled_ite (Settled.refl _) (handNotice_settled _ _)) rfl)
    (settled_ite (handNotice_settled _ _) (Settled.refl _))

/-- What follows an event touches nothing but what settling may touch. -/
theorem finish_settled (ev : Bool) (s0 s : State) : Settled s (finish ev s0 s) := by
  have h := settleEntry_settled s
  unfold finish
  exact (h.trans (settled_ite (evaluate_settled _) (Settled.refl _))).trans (announce_settled _ _ _)

/-! ## What a settled state shares with the one it settles -/

theorem Settled.mainPowered {u t : State} (h : Settled u t) : t.mainPowered = u.mainPowered := by
  have e : (blur t).mainPowered = (blur u).mainPowered := by rw [show blur t = blur u from h]
  exact e

theorem Settled.csq {u t : State} (h : Settled u t) : t.csq = u.csq := by
  have e : (blur t).csq = (blur u).csq := by rw [show blur t = blur u from h]
  exact e

theorem Settled.scv {u t : State} (h : Settled u t) : t.scv = u.scv := by
  have e : (blur t).scv = (blur u).scv := by rw [show blur t = blur u from h]
  exact e

theorem Settled.dwn {u t : State} (h : Settled u t) : t.dwn = u.dwn := by
  have e : (blur t).dwn = (blur u).dwn := by rw [show blur t = blur u from h]
  exact e

theorem Settled.mwt {u t : State} (h : Settled u t) : t.mwt = u.mwt := by
  have e : (blur t).mwt = (blur u).mwt := by rw [show blur t = blur u from h]
  exact e

theorem Settled.pjr {u t : State} (h : Settled u t) : t.pjr = u.pjr := by
  have e : (blur t).pjr = (blur u).pjr := by rw [show blur t = blur u from h]
  exact e

theorem Settled.hdm {u t : State} (h : Settled u t) : t.hdm = u.hdm := by
  have e : (blur t).hdm = (blur u).hdm := by rw [show blur t = blur u from h]
  exact e

theorem Settled.rpl {u t : State} (h : Settled u t) : t.rpl = u.rpl := by
  have e : (blur t).rpl = (blur u).rpl := by rw [show blur t = blur u from h]
  exact e

theorem Settled.settings {u t : State} (h : Settled u t) : t.settings = u.settings := by
  have e : (blur t).settings = (blur u).settings := by rw [show blur t = blur u from h]
  exact e

theorem Settled.flash {u t : State} (h : Settled u t) : t.flash = u.flash := by
  have e : (blur t).flash = (blur u).flash := by rw [show blur t = blur u from h]
  exact e

theorem Settled.freeCount {u t : State} (h : Settled u t) : t.freeCount = u.freeCount := by
  have e : (blur t).freeCount = (blur u).freeCount := by rw [show blur t = blur u from h]
  exact e

theorem Settled.pending {u t : State} (h : Settled u t) : t.pending = u.pending := by
  have e : (blur t).pending = (blur u).pending := by rw [show blur t = blur u from h]
  exact e

end Sys2Proof.Safety
end

