-- ==== Sys2Proof/Laws/Frames.lean ====
section
/-! SUPPORT. What each shared operation leaves alone: one lemma per operation, one clause per block it does not touch. -/

namespace Sys2Proof.Machine

variable (s : State)

@[simp] theorem raisePhase_frame : 
    (raisePhase s).mainPowered = s.mainPowered ∧ (raisePhase s).csq = s.csq ∧ (raisePhase s).scv = s.scv ∧
    (raisePhase s).dwn = s.dwn ∧ (raisePhase s).ost = s.ost ∧ (raisePhase s).mwt = s.mwt ∧
    (raisePhase s).pjr = s.pjr ∧ (raisePhase s).hdm = s.hdm ∧ (raisePhase s).rpl = s.rpl ∧
    (raisePhase s).plp = s.plp ∧ (raisePhase s).fsu = s.fsu ∧ (raisePhase s).settings = s.settings ∧
    (raisePhase s).flash = s.flash ∧ (raisePhase s).freeCount = s.freeCount ∧ (raisePhase s).pending = s.pending := by simp [raisePhase]

@[simp] theorem raisePlan_frame : 
    (raisePlan s).mainPowered = s.mainPowered ∧ (raisePlan s).csq = s.csq ∧ (raisePlan s).scv = s.scv ∧
    (raisePlan s).dwn = s.dwn ∧ (raisePlan s).ost = s.ost ∧ (raisePlan s).mwt = s.mwt ∧
    (raisePlan s).pjr = s.pjr ∧ (raisePlan s).hdm = s.hdm ∧ (raisePlan s).rpl = s.rpl ∧
    (raisePlan s).plp = s.plp ∧ (raisePlan s).fsu = s.fsu ∧ (raisePlan s).settings = s.settings ∧
    (raisePlan s).flash = s.flash ∧ (raisePlan s).freeCount = s.freeCount ∧ (raisePlan s).pending = s.pending := by simp [raisePlan]

@[simp] theorem raiseFault_frame : 
    (raiseFault s).mainPowered = s.mainPowered ∧ (raiseFault s).csq = s.csq ∧ (raiseFault s).scv = s.scv ∧
    (raiseFault s).dwn = s.dwn ∧ (raiseFault s).ost = s.ost ∧ (raiseFault s).mwt = s.mwt ∧
    (raiseFault s).pjr = s.pjr ∧ (raiseFault s).hdm = s.hdm ∧ (raiseFault s).rpl = s.rpl ∧
    (raiseFault s).plp = s.plp ∧ (raiseFault s).fsu = s.fsu ∧ (raiseFault s).settings = s.settings ∧
    (raiseFault s).flash = s.flash ∧ (raiseFault s).freeCount = s.freeCount ∧ (raiseFault s).pending = s.pending := by simp [raiseFault]

@[simp] theorem raiseLine_frame : 
    (raiseLine s).mainPowered = s.mainPowered ∧ (raiseLine s).csq = s.csq ∧ (raiseLine s).scv = s.scv ∧
    (raiseLine s).dwn = s.dwn ∧ (raiseLine s).ost = s.ost ∧ (raiseLine s).mwt = s.mwt ∧
    (raiseLine s).pjr = s.pjr ∧ (raiseLine s).hdm = s.hdm ∧ (raiseLine s).rpl = s.rpl ∧
    (raiseLine s).plp = s.plp ∧ (raiseLine s).fsu = s.fsu ∧ (raiseLine s).settings = s.settings ∧
    (raiseLine s).flash = s.flash ∧ (raiseLine s).freeCount = s.freeCount ∧ (raiseLine s).pending = s.pending := by simp [raiseLine]

/-! ## Reports -/

@[simp] theorem setCycle_frame (st : CycleState) : 
    (setCycle s st).mainPowered = s.mainPowered ∧ (setCycle s st).scv = s.scv ∧ (setCycle s st).dwn = s.dwn ∧
    (setCycle s st).ost = s.ost ∧ (setCycle s st).mwt = s.mwt ∧ (setCycle s st).pjr = s.pjr ∧
    (setCycle s st).hdm = s.hdm ∧ (setCycle s st).rpl = s.rpl ∧ (setCycle s st).plp = s.plp ∧
    (setCycle s st).fsu = s.fsu ∧ (setCycle s st).settings = s.settings ∧ (setCycle s st).flash = s.flash ∧
    (setCycle s st).freeCount = s.freeCount ∧ (setCycle s st).pending = s.pending := by
  unfold setCycle
  first
    | simp; done
    | try dsimp only
      repeat' split
      all_goals simp

@[simp] theorem enterPlanning_frame (blink : Bool) : 
    (enterPlanning s blink).mainPowered = s.mainPowered ∧ (enterPlanning s blink).scv = s.scv ∧
    (enterPlanning s blink).dwn = s.dwn ∧ (enterPlanning s blink).ost = s.ost ∧
    (enterPlanning s blink).mwt = s.mwt ∧ (enterPlanning s blink).pjr = s.pjr ∧
    (enterPlanning s blink).hdm = s.hdm ∧ (enterPlanning s blink).plp = s.plp ∧
    (enterPlanning s blink).fsu = s.fsu ∧ (enterPlanning s blink).settings = s.settings ∧
    (enterPlanning s blink).flash = s.flash ∧ (enterPlanning s blink).freeCount = s.freeCount ∧
    (enterPlanning s blink).pending = s.pending := by
  unfold enterPlanning
  first
    | simp; done
    | try dsimp only
      repeat' split
      all_goals simp

@[simp] theorem leaveLoss_frame : 
    (leaveLoss s).mainPowered = s.mainPowered ∧ (leaveLoss s).scv = s.scv ∧ (leaveLoss s).dwn = s.dwn ∧
    (leaveLoss s).ost = s.ost ∧ (leaveLoss s).mwt = s.mwt ∧ (leaveLoss s).pjr = s.pjr ∧
    (leaveLoss s).hdm = s.hdm ∧ (leaveLoss s).plp = s.plp ∧ (leaveLoss s).fsu = s.fsu ∧
    (leaveLoss s).settings = s.settings ∧ (leaveLoss s).flash = s.flash ∧
    (leaveLoss s).freeCount = s.freeCount ∧ (leaveLoss s).pending = s.pending := by
  unfold leaveLoss
  first
    | simp; done
    | try dsimp only
      repeat' split
      all_goals simp

@[simp] theorem recordDone_frame : 
    (recordDone s).mainPowered = s.mainPowered ∧ (recordDone s).scv = s.scv ∧ (recordDone s).dwn = s.dwn ∧
    (recordDone s).ost = s.ost ∧ (recordDone s).mwt = s.mwt ∧ (recordDone s).pjr = s.pjr ∧
    (recordDone s).hdm = s.hdm ∧ (recordDone s).plp = s.plp ∧ (recordDone s).fsu = s.fsu ∧
    (recordDone s).settings = s.settings ∧ (recordDone s).flash = s.flash ∧
    (recordDone s).freeCount = s.freeCount ∧ (recordDone s).pending = s.pending := by
  unfold recordDone
  first
    | simp; done
    | try dsimp only
      repeat' split
      all_goals simp

@[simp] theorem mainsBackCycle_frame : 
    (mainsBackCycle s).mainPowered = s.mainPowered ∧ (mainsBackCycle s).scv = s.scv ∧
    (mainsBackCycle s).dwn = s.dwn ∧ (mainsBackCycle s).ost = s.ost ∧ (mainsBackCycle s).mwt = s.mwt ∧
    (mainsBackCycle s).pjr = s.pjr ∧ (mainsBackCycle s).hdm = s.hdm ∧ (mainsBackCycle s).plp = s.plp ∧
    (mainsBackCycle s).fsu = s.fsu ∧ (mainsBackCycle s).settings = s.settings ∧
    (mainsBackCycle s).flash = s.flash ∧ (mainsBackCycle s).freeCount = s.freeCount ∧
    (mainsBackCycle s).pending = s.pending := by
  unfold mainsBackCycle
  first
    | simp; done
    | try dsimp only
      repeat' split
      all_goals simp

@[simp] theorem setReasons_frame (f : Reasons → Reasons) : 
    (setReasons s f).mainPowered = s.mainPowered ∧ (setReasons s f).scv = s.scv ∧ (setReasons s f).dwn = s.dwn ∧
    (setReasons s f).ost = s.ost ∧ (setReasons s f).mwt = s.mwt ∧ (setReasons s f).pjr = s.pjr ∧
    (setReasons s f).hdm = s.hdm ∧ (setReasons s f).rpl = s.rpl ∧ (setReasons s f).plp = s.plp ∧
    (setReasons s f).fsu = s.fsu ∧ (setReasons s f).pnl = s.pnl ∧ (setReasons s f).settings = s.settings ∧
    (setReasons s f).flash = s.flash ∧ (setReasons s f).freeCount = s.freeCount ∧
    (setReasons s f).pending = s.pending := by
  unfold setReasons
  first
    | simp; done
    | try dsimp only
      repeat' split
      all_goals simp

@[simp] theorem journalFaultReport_frame : 
    (journalFaultReport s).mainPowered = s.mainPowered ∧ (journalFaultReport s).scv = s.scv ∧
    (journalFaultReport s).dwn = s.dwn ∧ (journalFaultReport s).ost = s.ost ∧
    (journalFaultReport s).mwt = s.mwt ∧ (journalFaultReport s).pjr = s.pjr ∧
    (journalFaultReport s).hdm = s.hdm ∧ (journalFaultReport s).rpl = s.rpl ∧
    (journalFaultReport s).plp = s.plp ∧ (journalFaultReport s).fsu = s.fsu ∧
    (journalFaultReport s).settings = s.settings ∧ (journalFaultReport s).flash = s.flash ∧
    (journalFaultReport s).freeCount = s.freeCount ∧ (journalFaultReport s).pending = s.pending := by
  unfold journalFaultReport
  first
    | simp; done
    | try dsimp only
      repeat' split
      all_goals simp

/-! ## Journal -/

@[simp] theorem setJournalFault_frame : 
    (setJournalFault s).mainPowered = s.mainPowered ∧ (setJournalFault s).scv = s.scv ∧
    (setJournalFault s).dwn = s.dwn ∧ (setJournalFault s).ost = s.ost ∧ (setJournalFault s).mwt = s.mwt ∧
    (setJournalFault s).hdm = s.hdm ∧ (setJournalFault s).plp = s.plp ∧ (setJournalFault s).fsu = s.fsu ∧
    (setJournalFault s).settings = s.settings ∧ (setJournalFault s).flash = s.flash ∧
    (setJournalFault s).freeCount = s.freeCount ∧ (setJournalFault s).pending = s.pending := by
  unfold setJournalFault
  first
    | simp; done
    | try dsimp only
      repeat' split
      all_goals simp

@[simp] theorem abandonPending_frame : 
    (abandonPending s).mainPowered = s.mainPowered ∧ (abandonPending s).scv = s.scv ∧
    (abandonPending s).dwn = s.dwn ∧ (abandonPending s).ost = s.ost ∧ (abandonPending s).mwt = s.mwt ∧
    (abandonPending s).hdm = s.hdm ∧ (abandonPending s).plp = s.plp ∧ (abandonPending s).fsu = s.fsu ∧
    (abandonPending s).settings = s.settings ∧ (abandonPending s).flash = s.flash ∧
    (abandonPending s).freeCount = s.freeCount ∧ (abandonPending s).pending = s.pending := by
  unfold abandonPending
  first
    | simp; done
    | try dsimp only
      repeat' split
      all_goals simp

@[simp] theorem journalSettle_frame : 
    (journalSettle s).mainPowered = s.mainPowered ∧ (journalSettle s).scv = s.scv ∧
    (journalSettle s).dwn = s.dwn ∧ (journalSettle s).ost = s.ost ∧ (journalSettle s).mwt = s.mwt ∧
    (journalSettle s).hdm = s.hdm ∧ (journalSettle s).plp = s.plp ∧ (journalSettle s).fsu = s.fsu ∧
    (journalSettle s).settings = s.settings ∧ (journalSettle s).flash = s.flash ∧
    (journalSettle s).freeCount = s.freeCount ∧ (journalSettle s).pending = s.pending := by
  unfold journalSettle
  first
    | simp; done
    | try dsimp only
      repeat' split
      all_goals simp

@[simp] theorem requestRecord_frame (kind : RecordKind) (reason : EndReason) : 
    (requestRecord s kind reason).mainPowered = s.mainPowered ∧ (requestRecord s kind reason).scv = s.scv ∧
    (requestRecord s kind reason).dwn = s.dwn ∧ (requestRecord s kind reason).ost = s.ost ∧
    (requestRecord s kind reason).mwt = s.mwt ∧ (requestRecord s kind reason).hdm = s.hdm ∧
    (requestRecord s kind reason).plp = s.plp ∧ (requestRecord s kind reason).fsu = s.fsu ∧
    (requestRecord s kind reason).settings = s.settings ∧ (requestRecord s kind reason).flash = s.flash ∧
    (requestRecord s kind reason).freeCount = s.freeCount ∧ (requestRecord s kind reason).pending = s.pending := by
  unfold requestRecord
  first
    | simp; done
    | try dsimp only
      repeat' split
      all_goals simp

@[simp] theorem journalLoss_frame : 
    (journalLoss s).mainPowered = s.mainPowered ∧ (journalLoss s).scv = s.scv ∧ (journalLoss s).dwn = s.dwn ∧
    (journalLoss s).ost = s.ost ∧ (journalLoss s).mwt = s.mwt ∧ (journalLoss s).hdm = s.hdm ∧
    (journalLoss s).plp = s.plp ∧ (journalLoss s).fsu = s.fsu ∧ (journalLoss s).settings = s.settings ∧
    (journalLoss s).flash = s.flash ∧ (journalLoss s).freeCount = s.freeCount ∧
    (journalLoss s).pending = s.pending := by
  unfold journalLoss
  first
    | simp; done
    | try dsimp only
      repeat' split
      all_goals simp

@[simp] theorem tearFlash_frame : 
    (tearFlash s).mainPowered = s.mainPowered ∧ (tearFlash s).csq = s.csq ∧ (tearFlash s).scv = s.scv ∧
    (tearFlash s).dwn = s.dwn ∧ (tearFlash s).ost = s.ost ∧ (tearFlash s).mwt = s.mwt ∧
    (tearFlash s).pjr = s.pjr ∧ (tearFlash s).hdm = s.hdm ∧ (tearFlash s).rpl = s.rpl ∧
    (tearFlash s).plp = s.plp ∧ (tearFlash s).fsu = s.fsu ∧ (tearFlash s).pnl = s.pnl ∧
    (tearFlash s).settings = s.settings ∧ (tearFlash s).pending = s.pending := by
  unfold tearFlash
  first
    | simp; done
    | try dsimp only
      repeat' split
      all_goals simp

@[simp] theorem programVerified_frame (sector slot : Nat) (halted : Option Nat) (r : Record) : 
    (programVerified s sector slot halted r).mainPowered = s.mainPowered ∧
    (programVerified s sector slot halted r).scv = s.scv ∧
    (programVerified s sector slot halted r).dwn = s.dwn ∧
    (programVerified s sector slot halted r).ost = s.ost ∧
    (programVerified s sector slot halted r).mwt = s.mwt ∧
    (programVerified s sector slot halted r).hdm = s.hdm ∧
    (programVerified s sector slot halted r).plp = s.plp ∧
    (programVerified s sector slot halted r).fsu = s.fsu ∧
    (programVerified s sector slot halted r).settings = s.settings ∧
    (programVerified s sector slot halted r).freeCount = s.freeCount ∧
    (programVerified s sector slot halted r).pending = s.pending := by
  unfold programVerified
  first
    | simp; done
    | try dsimp only
      repeat' split
      all_goals simp

@[simp] theorem programFailed_frame (sector slot : Nat) (halted : Option Nat) : 
    (programFailed s sector slot halted).mainPowered = s.mainPowered ∧
    (programFailed s sector slot halted).scv = s.scv ∧ (programFailed s sector slot halted).dwn = s.dwn ∧
    (programFailed s sector slot halted).ost = s.ost ∧ (programFailed s sector slot halted).mwt = s.mwt ∧
    (programFailed s sector slot halted).hdm = s.hdm ∧ (programFailed s sector slot halted).plp = s.plp ∧
    (programFailed s sector slot halted).fsu = s.fsu ∧
    (programFailed s sector slot halted).settings = s.settings ∧
    (programFailed s sector slot halted).pending = s.pending := by
  unfold programFailed
  first
    | simp; done
    | try dsimp only
      repeat' split
      all_goals simp

@[simp] theorem programComplete_frame (agrees : Bool) : 
    (programComplete s agrees).mainPowered = s.mainPowered ∧ (programComplete s agrees).scv = s.scv ∧
    (programComplete s agrees).dwn = s.dwn ∧ (programComplete s agrees).ost = s.ost ∧
    (programComplete s agrees).mwt = s.mwt ∧ (programComplete s agrees).hdm = s.hdm ∧
    (programComplete s agrees).plp = s.plp ∧ (programComplete s agrees).fsu = s.fsu ∧
    (programComplete s agrees).settings = s.settings ∧ (programComplete s agrees).pending = s.pending := by
  unfold programComplete
  first
    | simp; done
    | try dsimp only
      repeat' split
      all_goals simp

@[simp] theorem eraseDone_frame (k : Nat) : 
    (eraseDone s k).mainPowered = s.mainPowered ∧ (eraseDone s k).scv = s.scv ∧ (eraseDone s k).dwn = s.dwn ∧
    (eraseDone s k).ost = s.ost ∧ (eraseDone s k).mwt = s.mwt ∧ (eraseDone s k).hdm = s.hdm ∧
    (eraseDone s k).plp = s.plp ∧ (eraseDone s k).fsu = s.fsu ∧ (eraseDone s k).settings = s.settings ∧
    (eraseDone s k).freeCount = s.freeCount ∧ (eraseDone s k).pending = s.pending := by
  unfold eraseDone
  first
    | simp; done
    | try dsimp only
      repeat' split
      all_goals simp

@[simp] theorem eraseFailed_frame (k : Nat) : 
    (eraseFailed s k).mainPowered = s.mainPowered ∧ (eraseFailed s k).scv = s.scv ∧
    (eraseFailed s k).dwn = s.dwn ∧ (eraseFailed s k).ost = s.ost ∧ (eraseFailed s k).mwt = s.mwt ∧
    (eraseFailed s k).hdm = s.hdm ∧ (eraseFailed s k).plp = s.plp ∧ (eraseFailed s k).fsu = s.fsu ∧
    (eraseFailed s k).settings = s.settings ∧ (eraseFailed s k).pending = s.pending := by
  unfold eraseFailed
  first
    | simp; done
    | try dsimp only
      repeat' split
      all_goals simp

@[simp] theorem eraseComplete_frame (blank : Bool) : 
    (eraseComplete s blank).mainPowered = s.mainPowered ∧ (eraseComplete s blank).scv = s.scv ∧
    (eraseComplete s blank).dwn = s.dwn ∧ (eraseComplete s blank).ost = s.ost ∧
    (eraseComplete s blank).mwt = s.mwt ∧ (eraseComplete s blank).hdm = s.hdm ∧
    (eraseComplete s blank).plp = s.plp ∧ (eraseComplete s blank).fsu = s.fsu ∧
    (eraseComplete s blank).settings = s.settings ∧ (eraseComplete s blank).pending = s.pending := by
  unfold eraseComplete
  first
    | simp; done
    | try dsimp only
      repeat' split
      all_goals simp

@[simp] theorem scanComplete_frame : 
    (scanComplete s).mainPowered = s.mainPowered ∧ (scanComplete s).scv = s.scv ∧ (scanComplete s).dwn = s.dwn ∧
    (scanComplete s).ost = s.ost ∧ (scanComplete s).mwt = s.mwt ∧ (scanComplete s).hdm = s.hdm ∧
    (scanComplete s).plp = s.plp ∧ (scanComplete s).fsu = s.fsu ∧ (scanComplete s).settings = s.settings ∧
    (scanComplete s).flash = s.flash ∧ (scanComplete s).freeCount = s.freeCount ∧
    (scanComplete s).pending = s.pending := by
  unfold scanComplete
  first
    | simp; done
    | try dsimp only
      repeat' split
      all_goals simp

/-! ## Cycle -/

@[simp] theorem orderClear_frame : 
    (orderClear s).mainPowered = s.mainPowered ∧ (orderClear s).csq = s.csq ∧ (orderClear s).scv = s.scv ∧
    (orderClear s).dwn = s.dwn ∧ (orderClear s).ost = s.ost ∧ (orderClear s).mwt = s.mwt ∧
    (orderClear s).pjr = s.pjr ∧ (orderClear s).rpl = s.rpl ∧ (orderClear s).plp = s.plp ∧
    (orderClear s).fsu = s.fsu ∧ (orderClear s).pnl = s.pnl ∧ (orderClear s).settings = s.settings ∧
    (orderClear s).flash = s.flash ∧ (orderClear s).freeCount = s.freeCount ∧ (orderClear s).pending = s.pending := by
  unfold orderClear
  first
    | simp; done
    | try dsimp only
      repeat' split
      all_goals simp

@[simp] theorem clearWindow_frame : 
    (clearWindow s).mainPowered = s.mainPowered ∧ (clearWindow s).csq = s.csq ∧ (clearWindow s).scv = s.scv ∧
    (clearWindow s).ost = s.ost ∧ (clearWindow s).mwt = s.mwt ∧ (clearWindow s).pjr = s.pjr ∧
    (clearWindow s).hdm = s.hdm ∧ (clearWindow s).rpl = s.rpl ∧ (clearWindow s).plp = s.plp ∧
    (clearWindow s).fsu = s.fsu ∧ (clearWindow s).pnl = s.pnl ∧ (clearWindow s).settings = s.settings ∧
    (clearWindow s).flash = s.flash ∧ (clearWindow s).freeCount = s.freeCount ∧
    (clearWindow s).pending = s.pending := by
  unfold clearWindow
  first
    | simp; done
    | try dsimp only
      repeat' split
      all_goals simp

@[simp] theorem fullDuties_frame : 
    (fullDuties s).mainPowered = s.mainPowered ∧ (fullDuties s).csq = s.csq ∧ (fullDuties s).scv = s.scv ∧
    (fullDuties s).dwn = s.dwn ∧ (fullDuties s).mwt = s.mwt ∧ (fullDuties s).pjr = s.pjr ∧
    (fullDuties s).hdm = s.hdm ∧ (fullDuties s).rpl = s.rpl ∧ (fullDuties s).plp = s.plp ∧
    (fullDuties s).fsu = s.fsu ∧ (fullDuties s).pnl = s.pnl ∧ (fullDuties s).settings = s.settings ∧
    (fullDuties s).flash = s.flash ∧ (fullDuties s).freeCount = s.freeCount ∧ (fullDuties s).pending = s.pending := by
  unfold fullDuties
  first
    | simp; done
    | try dsimp only
      repeat' split
      all_goals simp

@[simp] theorem clearHoldCount_frame : 
    (clearHoldCount s).mainPowered = s.mainPowered ∧ (clearHoldCount s).csq = s.csq ∧
    (clearHoldCount s).scv = s.scv ∧ (clearHoldCount s).dwn = s.dwn ∧ (clearHoldCount s).mwt = s.mwt ∧
    (clearHoldCount s).pjr = s.pjr ∧ (clearHoldCount s).hdm = s.hdm ∧ (clearHoldCount s).rpl = s.rpl ∧
    (clearHoldCount s).plp = s.plp ∧ (clearHoldCount s).fsu = s.fsu ∧ (clearHoldCount s).pnl = s.pnl ∧
    (clearHoldCount s).settings = s.settings ∧ (clearHoldCount s).flash = s.flash ∧
    (clearHoldCount s).freeCount = s.freeCount ∧ (clearHoldCount s).pending = s.pending := by
  unfold clearHoldCount
  first
    | simp; done
    | try dsimp only
      repeat' split
      all_goals simp

@[simp] theorem setClass_frame (c : Nat) : 
    (setClass s c).mainPowered = s.mainPowered ∧ (setClass s c).csq = s.csq ∧ (setClass s c).scv = s.scv ∧
    (setClass s c).dwn = s.dwn ∧ (setClass s c).ost = s.ost ∧ (setClass s c).mwt = s.mwt ∧
    (setClass s c).pjr = s.pjr ∧ (setClass s c).hdm = s.hdm ∧ (setClass s c).rpl = s.rpl ∧
    (setClass s c).plp = s.plp ∧ (setClass s c).pnl = s.pnl ∧ (setClass s c).settings = s.settings ∧
    (setClass s c).flash = s.flash ∧ (setClass s c).freeCount = s.freeCount ∧ (setClass s c).pending = s.pending := by
  unfold setClass
  first
    | simp; done
    | try dsimp only
      repeat' split
      all_goals simp

@[simp] theorem setCyc_frame (c : CycleRecord) : 
    (setCyc s c).mainPowered = s.mainPowered ∧ (setCyc s c).scv = s.scv ∧ (setCyc s c).dwn = s.dwn ∧
    (setCyc s c).ost = s.ost ∧ (setCyc s c).mwt = s.mwt ∧ (setCyc s c).pjr = s.pjr ∧ (setCyc s c).hdm = s.hdm ∧
    (setCyc s c).rpl = s.rpl ∧ (setCyc s c).plp = s.plp ∧ (setCyc s c).fsu = s.fsu ∧ (setCyc s c).pnl = s.pnl ∧
    (setCyc s c).settings = s.settings ∧ (setCyc s c).flash = s.flash ∧ (setCyc s c).freeCount = s.freeCount ∧
    (setCyc s c).pending = s.pending := by
  unfold setCyc
  first
    | simp; done
    | try dsimp only
      repeat' split
      all_goals simp

@[simp] theorem clearFaultCount_frame : 
    (clearFaultCount s).mainPowered = s.mainPowered ∧ (clearFaultCount s).scv = s.scv ∧
    (clearFaultCount s).dwn = s.dwn ∧ (clearFaultCount s).ost = s.ost ∧ (clearFaultCount s).mwt = s.mwt ∧
    (clearFaultCount s).pjr = s.pjr ∧ (clearFaultCount s).hdm = s.hdm ∧ (clearFaultCount s).rpl = s.rpl ∧
    (clearFaultCount s).plp = s.plp ∧ (clearFaultCount s).fsu = s.fsu ∧ (clearFaultCount s).pnl = s.pnl ∧
    (clearFaultCount s).settings = s.settings ∧ (clearFaultCount s).flash = s.flash ∧
    (clearFaultCount s).freeCount = s.freeCount ∧ (clearFaultCount s).pending = s.pending := by
  unfold clearFaultCount
  first
    | simp; done
    | try dsimp only
      repeat' split
      all_goals simp

@[simp] theorem enterCool_frame : 
    (enterCool s).mainPowered = s.mainPowered ∧ (enterCool s).scv = s.scv ∧ (enterCool s).dwn = s.dwn ∧
    (enterCool s).ost = s.ost ∧ (enterCool s).mwt = s.mwt ∧ (enterCool s).hdm = s.hdm ∧
    (enterCool s).plp = s.plp ∧ (enterCool s).fsu = s.fsu ∧ (enterCool s).settings = s.settings ∧
    (enterCool s).flash = s.flash ∧ (enterCool s).freeCount = s.freeCount ∧ (enterCool s).pending = s.pending := by
  unfold enterCool
  first
    | simp; done
    | try dsimp only
      repeat' split
      all_goals simp

@[simp] theorem enterExtend_frame : 
    (enterExtend s).mainPowered = s.mainPowered ∧ (enterExtend s).scv = s.scv ∧ (enterExtend s).dwn = s.dwn ∧
    (enterExtend s).ost = s.ost ∧ (enterExtend s).mwt = s.mwt ∧ (enterExtend s).hdm = s.hdm ∧
    (enterExtend s).plp = s.plp ∧ (enterExtend s).fsu = s.fsu ∧ (enterExtend s).settings = s.settings ∧
    (enterExtend s).flash = s.flash ∧ (enterExtend s).freeCount = s.freeCount ∧
    (enterExtend s).pending = s.pending := by
  unfold enterExtend
  first
    | simp; done
    | try dsimp only
      repeat' split
      all_goals simp

@[simp] theorem enterDone_frame (reason : EndReason) : 
    (enterDone s reason).mainPowered = s.mainPowered ∧ (enterDone s reason).scv = s.scv ∧
    (enterDone s reason).dwn = s.dwn ∧ (enterDone s reason).ost = s.ost ∧ (enterDone s reason).mwt = s.mwt ∧
    (enterDone s reason).hdm = s.hdm ∧ (enterDone s reason).plp = s.plp ∧ (enterDone s reason).fsu = s.fsu ∧
    (enterDone s reason).settings = s.settings ∧ (enterDone s reason).flash = s.flash ∧
    (enterDone s reason).freeCount = s.freeCount ∧ (enterDone s reason).pending = s.pending := by
  unfold enterDone
  first
    | simp; done
    | try dsimp only
      repeat' split
      all_goals simp

@[simp] theorem enterAbandoned_frame : 
    (enterAbandoned s).mainPowered = s.mainPowered ∧ (enterAbandoned s).scv = s.scv ∧
    (enterAbandoned s).dwn = s.dwn ∧ (enterAbandoned s).ost = s.ost ∧ (enterAbandoned s).mwt = s.mwt ∧
    (enterAbandoned s).plp = s.plp ∧ (enterAbandoned s).fsu = s.fsu ∧ (enterAbandoned s).settings = s.settings ∧
    (enterAbandoned s).flash = s.flash ∧ (enterAbandoned s).freeCount = s.freeCount ∧
    (enterAbandoned s).pending = s.pending := by
  unfold enterAbandoned
  first
    | simp; done
    | try dsimp only
      repeat' split
      all_goals simp

@[simp] theorem enterGuard_frame : 
    (enterGuard s).mainPowered = s.mainPowered ∧ (enterGuard s).scv = s.scv ∧ (enterGuard s).dwn = s.dwn ∧
    (enterGuard s).ost = s.ost ∧ (enterGuard s).mwt = s.mwt ∧ (enterGuard s).hdm = s.hdm ∧
    (enterGuard s).plp = s.plp ∧ (enterGuard s).fsu = s.fsu ∧ (enterGuard s).settings = s.settings ∧
    (enterGuard s).flash = s.flash ∧ (enterGuard s).freeCount = s.freeCount ∧ (enterGuard s).pending = s.pending := by
  unfold enterGuard
  first
    | simp; done
    | try dsimp only
      repeat' split
      all_goals simp

@[simp] theorem enterPaused_frame : 
    (enterPaused s).mainPowered = s.mainPowered ∧ (enterPaused s).scv = s.scv ∧ (enterPaused s).dwn = s.dwn ∧
    (enterPaused s).ost = s.ost ∧ (enterPaused s).mwt = s.mwt ∧ (enterPaused s).hdm = s.hdm ∧
    (enterPaused s).plp = s.plp ∧ (enterPaused s).fsu = s.fsu ∧ (enterPaused s).settings = s.settings ∧
    (enterPaused s).flash = s.flash ∧ (enterPaused s).freeCount = s.freeCount ∧
    (enterPaused s).pending = s.pending := by
  unfold enterPaused
  first
    | simp; done
    | try dsimp only
      repeat' split
      all_goals simp

@[simp] theorem takeStart_frame (d : Descriptor) : 
    (takeStart s d).mainPowered = s.mainPowered ∧ (takeStart s d).scv = s.scv ∧ (takeStart s d).mwt = s.mwt ∧
    (takeStart s d).hdm = s.hdm ∧ (takeStart s d).plp = s.plp ∧ (takeStart s d).settings = s.settings ∧
    (takeStart s d).flash = s.flash ∧ (takeStart s d).freeCount = s.freeCount ∧
    (takeStart s d).pending = s.pending := by
  unfold takeStart
  first
    | simp; done
    | try dsimp only
      repeat' split
      all_goals simp

@[simp] theorem takeContinue_frame (st : CycleState) : 
    (takeContinue s st).mainPowered = s.mainPowered ∧ (takeContinue s st).scv = s.scv ∧
    (takeContinue s st).mwt = s.mwt ∧ (takeContinue s st).hdm = s.hdm ∧ (takeContinue s st).plp = s.plp ∧
    (takeContinue s st).fsu = s.fsu ∧ (takeContinue s st).settings = s.settings ∧
    (takeContinue s st).flash = s.flash ∧ (takeContinue s st).freeCount = s.freeCount ∧
    (takeContinue s st).pending = s.pending := by
  unfold takeContinue
  first
    | simp; done
    | try dsimp only
      repeat' split
      all_goals simp

@[simp] theorem takeCancel_frame : 
    (takeCancel s).mainPowered = s.mainPowered ∧ (takeCancel s).scv = s.scv ∧ (takeCancel s).dwn = s.dwn ∧
    (takeCancel s).ost = s.ost ∧ (takeCancel s).mwt = s.mwt ∧ (takeCancel s).hdm = s.hdm ∧
    (takeCancel s).plp = s.plp ∧ (takeCancel s).fsu = s.fsu ∧ (takeCancel s).settings = s.settings ∧
    (takeCancel s).flash = s.flash ∧ (takeCancel s).freeCount = s.freeCount ∧ (takeCancel s).pending = s.pending := by
  unfold takeCancel
  first
    | simp; done
    | try dsimp only
      repeat' split
      all_goals simp

@[simp] theorem takeReset_frame : 
    (takeReset s).mainPowered = s.mainPowered ∧ (takeReset s).scv = s.scv ∧ (takeReset s).dwn = s.dwn ∧
    (takeReset s).ost = s.ost ∧ (takeReset s).mwt = s.mwt ∧ (takeReset s).hdm = s.hdm ∧
    (takeReset s).plp = s.plp ∧ (takeReset s).fsu = s.fsu ∧ (takeReset s).settings = s.settings ∧
    (takeReset s).flash = s.flash ∧ (takeReset s).freeCount = s.freeCount ∧ (takeReset s).pending = s.pending := by
  unfold takeReset
  first
    | simp; done
    | try dsimp only
      repeat' split
      all_goals simp

@[simp] theorem dryReport_frame (tDry ext : Nat) : 
    (dryReport s tDry ext).mainPowered = s.mainPowered ∧ (dryReport s tDry ext).scv = s.scv ∧
    (dryReport s tDry ext).dwn = s.dwn ∧ (dryReport s tDry ext).ost = s.ost ∧
    (dryReport s tDry ext).mwt = s.mwt ∧ (dryReport s tDry ext).hdm = s.hdm ∧
    (dryReport s tDry ext).plp = s.plp ∧ (dryReport s tDry ext).fsu = s.fsu ∧
    (dryReport s tDry ext).settings = s.settings ∧ (dryReport s tDry ext).flash = s.flash ∧
    (dryReport s tDry ext).freeCount = s.freeCount ∧ (dryReport s tDry ext).pending = s.pending := by
  unfold dryReport
  first
    | simp; done
    | try dsimp only
      repeat' split
      all_goals simp

@[simp] theorem airflowFaultReport_frame : 
    (airflowFaultReport s).mainPowered = s.mainPowered ∧ (airflowFaultReport s).scv = s.scv ∧
    (airflowFaultReport s).dwn = s.dwn ∧ (airflowFaultReport s).ost = s.ost ∧
    (airflowFaultReport s).mwt = s.mwt ∧ (airflowFaultReport s).hdm = s.hdm ∧
    (airflowFaultReport s).plp = s.plp ∧ (airflowFaultReport s).fsu = s.fsu ∧
    (airflowFaultReport s).settings = s.settings ∧ (airflowFaultReport s).flash = s.flash ∧
    (airflowFaultReport s).freeCount = s.freeCount ∧ (airflowFaultReport s).pending = s.pending := by
  unfold airflowFaultReport
  first
    | simp; done
    | try dsimp only
      repeat' split
      all_goals simp

@[simp] theorem doorCycle_frame : 
    (doorCycle s).mainPowered = s.mainPowered ∧ (doorCycle s).scv = s.scv ∧ (doorCycle s).dwn = s.dwn ∧
    (doorCycle s).ost = s.ost ∧ (doorCycle s).mwt = s.mwt ∧ (doorCycle s).hdm = s.hdm ∧
    (doorCycle s).plp = s.plp ∧ (doorCycle s).fsu = s.fsu ∧ (doorCycle s).settings = s.settings ∧
    (doorCycle s).flash = s.flash ∧ (doorCycle s).freeCount = s.freeCount ∧ (doorCycle s).pending = s.pending := by
  unfold doorCycle
  first
    | simp; done
    | try dsimp only
      repeat' split
      all_goals simp

@[simp] theorem clearNote_frame : 
    (clearNote s).mainPowered = s.mainPowered ∧ (clearNote s).scv = s.scv ∧ (clearNote s).dwn = s.dwn ∧
    (clearNote s).ost = s.ost ∧ (clearNote s).mwt = s.mwt ∧ (clearNote s).pjr = s.pjr ∧
    (clearNote s).hdm = s.hdm ∧ (clearNote s).rpl = s.rpl ∧ (clearNote s).plp = s.plp ∧
    (clearNote s).fsu = s.fsu ∧ (clearNote s).pnl = s.pnl ∧ (clearNote s).settings = s.settings ∧
    (clearNote s).flash = s.flash ∧ (clearNote s).freeCount = s.freeCount ∧ (clearNote s).pending = s.pending := by
  unfold clearNote
  first
    | simp; done
    | try dsimp only
      repeat' split
      all_goals simp

@[simp] theorem lossMove_frame : 
    (lossMove s).mainPowered = s.mainPowered ∧ (lossMove s).scv = s.scv ∧ (lossMove s).dwn = s.dwn ∧
    (lossMove s).ost = s.ost ∧ (lossMove s).mwt = s.mwt ∧ (lossMove s).hdm = s.hdm ∧ (lossMove s).plp = s.plp ∧
    (lossMove s).fsu = s.fsu ∧ (lossMove s).settings = s.settings ∧ (lossMove s).flash = s.flash ∧
    (lossMove s).freeCount = s.freeCount ∧ (lossMove s).pending = s.pending := by
  unfold lossMove
  first
    | simp; done
    | try dsimp only
      repeat' split
      all_goals simp

@[simp] theorem lossCycle_frame : 
    (lossCycle s).mainPowered = s.mainPowered ∧ (lossCycle s).scv = s.scv ∧ (lossCycle s).dwn = s.dwn ∧
    (lossCycle s).ost = s.ost ∧ (lossCycle s).mwt = s.mwt ∧ (lossCycle s).hdm = s.hdm ∧
    (lossCycle s).plp = s.plp ∧ (lossCycle s).fsu = s.fsu ∧ (lossCycle s).settings = s.settings ∧
    (lossCycle s).flash = s.flash ∧ (lossCycle s).freeCount = s.freeCount ∧ (lossCycle s).pending = s.pending := by
  unfold lossCycle
  first
    | simp; done
    | try dsimp only
      repeat' split
      all_goals simp

@[simp] theorem executeHeat_frame : 
    (executeHeat s).mainPowered = s.mainPowered ∧ (executeHeat s).scv = s.scv ∧ (executeHeat s).mwt = s.mwt ∧
    (executeHeat s).pjr = s.pjr ∧ (executeHeat s).hdm = s.hdm ∧ (executeHeat s).rpl = s.rpl ∧
    (executeHeat s).plp = s.plp ∧ (executeHeat s).settings = s.settings ∧ (executeHeat s).flash = s.flash ∧
    (executeHeat s).freeCount = s.freeCount ∧ (executeHeat s).pending = s.pending := by
  unfold executeHeat
  first
    | simp; done
    | try dsimp only
      repeat' split
      all_goals simp

@[simp] theorem executeExtend_frame (n : Nat) : 
    (executeExtend s n).mainPowered = s.mainPowered ∧ (executeExtend s n).scv = s.scv ∧
    (executeExtend s n).dwn = s.dwn ∧ (executeExtend s n).mwt = s.mwt ∧ (executeExtend s n).pjr = s.pjr ∧
    (executeExtend s n).hdm = s.hdm ∧ (executeExtend s n).rpl = s.rpl ∧ (executeExtend s n).plp = s.plp ∧
    (executeExtend s n).settings = s.settings ∧ (executeExtend s n).flash = s.flash ∧
    (executeExtend s n).freeCount = s.freeCount ∧ (executeExtend s n).pending = s.pending := by
  unfold executeExtend
  first
    | simp; done
    | try dsimp only
      repeat' split
      all_goals simp

@[simp] theorem executeCool_frame : 
    (executeCool s).mainPowered = s.mainPowered ∧ (executeCool s).scv = s.scv ∧ (executeCool s).dwn = s.dwn ∧
    (executeCool s).ost = s.ost ∧ (executeCool s).mwt = s.mwt ∧ (executeCool s).pjr = s.pjr ∧
    (executeCool s).hdm = s.hdm ∧ (executeCool s).rpl = s.rpl ∧ (executeCool s).plp = s.plp ∧
    (executeCool s).settings = s.settings ∧ (executeCool s).flash = s.flash ∧
    (executeCool s).freeCount = s.freeCount ∧ (executeCool s).pending = s.pending := by
  unfold executeCool
  first
    | simp; done
    | try dsimp only
      repeat' split
      all_goals simp

@[simp] theorem executeGuard_frame (n : Nat) : 
    (executeGuard s n).mainPowered = s.mainPowered ∧ (executeGuard s n).scv = s.scv ∧
    (executeGuard s n).dwn = s.dwn ∧ (executeGuard s n).ost = s.ost ∧ (executeGuard s n).mwt = s.mwt ∧
    (executeGuard s n).pjr = s.pjr ∧ (executeGuard s n).hdm = s.hdm ∧ (executeGuard s n).rpl = s.rpl ∧
    (executeGuard s n).plp = s.plp ∧ (executeGuard s n).settings = s.settings ∧
    (executeGuard s n).flash = s.flash ∧ (executeGuard s n).freeCount = s.freeCount ∧
    (executeGuard s n).pending = s.pending := by
  unfold executeGuard
  first
    | simp; done
    | try dsimp only
      repeat' split
      all_goals simp

@[simp] theorem applyRemembered_frame (p : Plan) : 
    (applyRemembered s p).mainPowered = s.mainPowered ∧ (applyRemembered s p).scv = s.scv ∧
    (applyRemembered s p).dwn = s.dwn ∧ (applyRemembered s p).ost = s.ost ∧ (applyRemembered s p).mwt = s.mwt ∧
    (applyRemembered s p).pjr = s.pjr ∧ (applyRemembered s p).hdm = s.hdm ∧ (applyRemembered s p).rpl = s.rpl ∧
    (applyRemembered s p).plp = s.plp ∧ (applyRemembered s p).pnl = s.pnl ∧
    (applyRemembered s p).settings = s.settings ∧ (applyRemembered s p).flash = s.flash ∧
    (applyRemembered s p).freeCount = s.freeCount ∧ (applyRemembered s p).pending = s.pending := by
  unfold applyRemembered
  first
    | simp; done
    | try dsimp only
      repeat' split
      all_goals simp

@[simp] theorem executePaused_frame (p : Plan) : 
    (executePaused s p).mainPowered = s.mainPowered ∧ (executePaused s p).scv = s.scv ∧
    (executePaused s p).dwn = s.dwn ∧ (executePaused s p).ost = s.ost ∧ (executePaused s p).mwt = s.mwt ∧
    (executePaused s p).pjr = s.pjr ∧ (executePaused s p).hdm = s.hdm ∧ (executePaused s p).rpl = s.rpl ∧
    (executePaused s p).plp = s.plp ∧ (executePaused s p).settings = s.settings ∧
    (executePaused s p).flash = s.flash ∧ (executePaused s p).freeCount = s.freeCount ∧
    (executePaused s p).pending = s.pending := by
  unfold executePaused
  first
    | simp; done
    | try dsimp only
      repeat' split
      all_goals simp

@[simp] theorem executePlan_frame (p : Plan) : 
    (executePlan s p).mainPowered = s.mainPowered ∧ (executePlan s p).scv = s.scv ∧
    (executePlan s p).mwt = s.mwt ∧ (executePlan s p).plp = s.plp ∧ (executePlan s p).settings = s.settings ∧
    (executePlan s p).flash = s.flash ∧ (executePlan s p).freeCount = s.freeCount ∧
    (executePlan s p).pending = s.pending := by
  unfold executePlan
  first
    | simp; done
    | try dsimp only
      repeat' split
      all_goals simp

/-! ## Feeder -/

@[simp] theorem setStep_frame (k : CoverStep) (x : StepState) : 
    (setStep s k x).mainPowered = s.mainPowered ∧ (setStep s k x).csq = s.csq ∧ (setStep s k x).scv = s.scv ∧
    (setStep s k x).dwn = s.dwn ∧ (setStep s k x).ost = s.ost ∧ (setStep s k x).mwt = s.mwt ∧
    (setStep s k x).pjr = s.pjr ∧ (setStep s k x).hdm = s.hdm ∧ (setStep s k x).rpl = s.rpl ∧
    (setStep s k x).plp = s.plp ∧ (setStep s k x).pnl = s.pnl ∧ (setStep s k x).settings = s.settings ∧
    (setStep s k x).flash = s.flash ∧ (setStep s k x).freeCount = s.freeCount ∧
    (setStep s k x).pending = s.pending := by
  unfold setStep
  first
    | simp; done
    | try dsimp only
      repeat' split
      all_goals simp

@[simp] theorem coverIf_frame (a : Bool) (k : CoverStep) : 
    (coverIf s a k).mainPowered = s.mainPowered ∧ (coverIf s a k).csq = s.csq ∧ (coverIf s a k).scv = s.scv ∧
    (coverIf s a k).dwn = s.dwn ∧ (coverIf s a k).ost = s.ost ∧ (coverIf s a k).mwt = s.mwt ∧
    (coverIf s a k).pjr = s.pjr ∧ (coverIf s a k).hdm = s.hdm ∧ (coverIf s a k).rpl = s.rpl ∧
    (coverIf s a k).plp = s.plp ∧ (coverIf s a k).pnl = s.pnl ∧ (coverIf s a k).settings = s.settings ∧
    (coverIf s a k).flash = s.flash ∧ (coverIf s a k).freeCount = s.freeCount ∧
    (coverIf s a k).pending = s.pending := by
  unfold coverIf
  first
    | simp; done
    | try dsimp only
      repeat' split
      all_goals simp

@[simp] theorem coverPending_frame : 
    (coverPending s).mainPowered = s.mainPowered ∧ (coverPending s).csq = s.csq ∧ (coverPending s).scv = s.scv ∧
    (coverPending s).dwn = s.dwn ∧ (coverPending s).ost = s.ost ∧ (coverPending s).mwt = s.mwt ∧
    (coverPending s).pjr = s.pjr ∧ (coverPending s).hdm = s.hdm ∧ (coverPending s).rpl = s.rpl ∧
    (coverPending s).plp = s.plp ∧ (coverPending s).pnl = s.pnl ∧ (coverPending s).settings = s.settings ∧
    (coverPending s).flash = s.flash ∧ (coverPending s).freeCount = s.freeCount ∧
    (coverPending s).pending = s.pending := by
  unfold coverPending
  first
    | simp; done
    | try dsimp only
      repeat' split
      all_goals simp

@[simp] theorem isolate_frame (c : IsoCause) : 
    (isolate s c).mainPowered = s.mainPowered ∧ (isolate s c).csq = s.csq ∧ (isolate s c).scv = s.scv ∧
    (isolate s c).dwn = s.dwn ∧ (isolate s c).ost = s.ost ∧ (isolate s c).mwt = s.mwt ∧
    (isolate s c).pjr = s.pjr ∧ (isolate s c).hdm = s.hdm ∧ (isolate s c).rpl = s.rpl ∧
    (isolate s c).plp = s.plp ∧ (isolate s c).settings = s.settings ∧ (isolate s c).flash = s.flash ∧
    (isolate s c).freeCount = s.freeCount ∧ (isolate s c).pending = s.pending := by
  unfold isolate
  first
    | simp; done
    | try dsimp only
      repeat' split
      all_goals simp

@[simp] theorem unmarkStep_frame (k : CoverStep) : 
    (unmarkStep s k).mainPowered = s.mainPowered ∧ (unmarkStep s k).csq = s.csq ∧ (unmarkStep s k).scv = s.scv ∧
    (unmarkStep s k).dwn = s.dwn ∧ (unmarkStep s k).ost = s.ost ∧ (unmarkStep s k).mwt = s.mwt ∧
    (unmarkStep s k).pjr = s.pjr ∧ (unmarkStep s k).hdm = s.hdm ∧ (unmarkStep s k).rpl = s.rpl ∧
    (unmarkStep s k).fsu = s.fsu ∧ (unmarkStep s k).pnl = s.pnl ∧ (unmarkStep s k).settings = s.settings ∧
    (unmarkStep s k).flash = s.flash ∧ (unmarkStep s k).freeCount = s.freeCount ∧
    (unmarkStep s k).pending = s.pending := by
  unfold unmarkStep
  first
    | simp; done
    | try dsimp only
      repeat' split
      all_goals simp

@[simp] theorem loseHold_frame (k : CoverStep) : 
    (loseHold s k).mainPowered = s.mainPowered ∧ (loseHold s k).csq = s.csq ∧ (loseHold s k).scv = s.scv ∧
    (loseHold s k).dwn = s.dwn ∧ (loseHold s k).mwt = s.mwt ∧ (loseHold s k).pjr = s.pjr ∧
    (loseHold s k).hdm = s.hdm ∧ (loseHold s k).rpl = s.rpl ∧ (loseHold s k).plp = s.plp ∧
    (loseHold s k).fsu = s.fsu ∧ (loseHold s k).pnl = s.pnl ∧ (loseHold s k).settings = s.settings ∧
    (loseHold s k).flash = s.flash ∧ (loseHold s k).freeCount = s.freeCount ∧ (loseHold s k).pending = s.pending := by
  unfold loseHold
  first
    | simp; done
    | try dsimp only
      repeat' split
      all_goals simp

@[simp] theorem stopNotice_frame : 
    (stopNotice s).mainPowered = s.mainPowered ∧ (stopNotice s).csq = s.csq ∧ (stopNotice s).scv = s.scv ∧
    (stopNotice s).dwn = s.dwn ∧ (stopNotice s).ost = s.ost ∧ (stopNotice s).mwt = s.mwt ∧
    (stopNotice s).pjr = s.pjr ∧ (stopNotice s).hdm = s.hdm ∧ (stopNotice s).rpl = s.rpl ∧
    (stopNotice s).plp = s.plp ∧ (stopNotice s).pnl = s.pnl ∧ (stopNotice s).settings = s.settings ∧
    (stopNotice s).flash = s.flash ∧ (stopNotice s).freeCount = s.freeCount ∧ (stopNotice s).pending = s.pending := by
  unfold stopNotice
  first
    | simp; done
    | try dsimp only
      repeat' split
      all_goals simp

@[simp] theorem handNotice_frame (f : Bool) : 
    (handNotice s f).mainPowered = s.mainPowered ∧ (handNotice s f).csq = s.csq ∧ (handNotice s f).scv = s.scv ∧
    (handNotice s f).dwn = s.dwn ∧ (handNotice s f).ost = s.ost ∧ (handNotice s f).mwt = s.mwt ∧
    (handNotice s f).pjr = s.pjr ∧ (handNotice s f).hdm = s.hdm ∧ (handNotice s f).rpl = s.rpl ∧
    (handNotice s f).pnl = s.pnl ∧ (handNotice s f).settings = s.settings ∧ (handNotice s f).flash = s.flash ∧
    (handNotice s f).freeCount = s.freeCount ∧ (handNotice s f).pending = s.pending := by
  unfold handNotice
  first
    | simp; done
    | try dsimp only
      repeat' split
      all_goals simp

@[simp] theorem finish_frame (ev : Bool) (s0 : State) : 
    (finish ev s0 s).mainPowered = s.mainPowered ∧ (finish ev s0 s).csq = s.csq ∧ (finish ev s0 s).scv = s.scv ∧
    (finish ev s0 s).dwn = s.dwn ∧ (finish ev s0 s).mwt = s.mwt ∧ (finish ev s0 s).pjr = s.pjr ∧
    (finish ev s0 s).hdm = s.hdm ∧ (finish ev s0 s).rpl = s.rpl ∧ (finish ev s0 s).settings = s.settings ∧
    (finish ev s0 s).flash = s.flash ∧ (finish ev s0 s).freeCount = s.freeCount ∧
    (finish ev s0 s).pending = s.pending := by
  have h := Safety.finish_settled ev s0 s
  exact ⟨h.mainPowered, h.csq, h.scv, h.dwn, h.mwt, h.pjr, h.hdm, h.rpl, h.settings, h.flash, h.freeCount, h.pending⟩

@[simp] theorem syncOutputs_frame : 
    (syncOutputs s).mainPowered = s.mainPowered ∧ (syncOutputs s).csq = s.csq ∧ (syncOutputs s).scv = s.scv ∧
    (syncOutputs s).dwn = s.dwn ∧ (syncOutputs s).mwt = s.mwt ∧ (syncOutputs s).pjr = s.pjr ∧
    (syncOutputs s).hdm = s.hdm ∧ (syncOutputs s).rpl = s.rpl ∧ (syncOutputs s).plp = s.plp ∧
    (syncOutputs s).fsu = s.fsu ∧ (syncOutputs s).pnl = s.pnl ∧ (syncOutputs s).settings = s.settings ∧
    (syncOutputs s).flash = s.flash ∧ (syncOutputs s).freeCount = s.freeCount ∧
    (syncOutputs s).pending = s.pending := by
  unfold syncOutputs
  first
    | simp; done
    | try dsimp only
      repeat' split
      all_goals simp

/-! ## Output -/

@[simp] theorem loadDuties_frame : 
    (loadDuties s).mainPowered = s.mainPowered ∧ (loadDuties s).csq = s.csq ∧ (loadDuties s).scv = s.scv ∧
    (loadDuties s).dwn = s.dwn ∧ (loadDuties s).mwt = s.mwt ∧ (loadDuties s).pjr = s.pjr ∧
    (loadDuties s).hdm = s.hdm ∧ (loadDuties s).rpl = s.rpl ∧ (loadDuties s).plp = s.plp ∧
    (loadDuties s).fsu = s.fsu ∧ (loadDuties s).pnl = s.pnl ∧ (loadDuties s).settings = s.settings ∧
    (loadDuties s).flash = s.flash ∧ (loadDuties s).freeCount = s.freeCount ∧ (loadDuties s).pending = s.pending := by
  unfold loadDuties
  first
    | simp; done
    | try dsimp only
      repeat' split
      all_goals simp

@[simp] theorem advancePosition_frame : 
    (advancePosition s).mainPowered = s.mainPowered ∧ (advancePosition s).csq = s.csq ∧
    (advancePosition s).scv = s.scv ∧ (advancePosition s).dwn = s.dwn ∧ (advancePosition s).mwt = s.mwt ∧
    (advancePosition s).pjr = s.pjr ∧ (advancePosition s).hdm = s.hdm ∧ (advancePosition s).rpl = s.rpl ∧
    (advancePosition s).plp = s.plp ∧ (advancePosition s).fsu = s.fsu ∧ (advancePosition s).pnl = s.pnl ∧
    (advancePosition s).settings = s.settings ∧ (advancePosition s).flash = s.flash ∧
    (advancePosition s).freeCount = s.freeCount ∧ (advancePosition s).pending = s.pending := by
  unfold advancePosition
  first
    | simp; done
    | try dsimp only
      repeat' split
      all_goals simp

@[simp] theorem setConduction_frame : 
    (setConduction s).mainPowered = s.mainPowered ∧ (setConduction s).scv = s.scv ∧
    (setConduction s).dwn = s.dwn ∧ (setConduction s).mwt = s.mwt ∧ (setConduction s).pjr = s.pjr ∧
    (setConduction s).hdm = s.hdm ∧ (setConduction s).rpl = s.rpl ∧ (setConduction s).plp = s.plp ∧
    (setConduction s).fsu = s.fsu ∧ (setConduction s).pnl = s.pnl ∧ (setConduction s).settings = s.settings ∧
    (setConduction s).flash = s.flash ∧ (setConduction s).freeCount = s.freeCount ∧
    (setConduction s).pending = s.pending := by
  unfold setConduction
  first
    | simp; done
    | try dsimp only
      repeat' split
      all_goals simp

@[simp] theorem crossStages_frame (b : Bool) : 
    (crossStages s b).mainPowered = s.mainPowered ∧ (crossStages s b).scv = s.scv ∧
    (crossStages s b).dwn = s.dwn ∧ (crossStages s b).mwt = s.mwt ∧ (crossStages s b).pjr = s.pjr ∧
    (crossStages s b).hdm = s.hdm ∧ (crossStages s b).rpl = s.rpl ∧ (crossStages s b).plp = s.plp ∧
    (crossStages s b).fsu = s.fsu ∧ (crossStages s b).pnl = s.pnl ∧ (crossStages s b).settings = s.settings ∧
    (crossStages s b).flash = s.flash ∧ (crossStages s b).freeCount = s.freeCount ∧
    (crossStages s b).pending = s.pending := by
  unfold crossStages
  first
    | simp; done
    | try dsimp only
      repeat' split
      all_goals simp

@[simp] theorem releaseStart_frame : 
    (releaseStart s).mainPowered = s.mainPowered ∧ (releaseStart s).csq = s.csq ∧ (releaseStart s).scv = s.scv ∧
    (releaseStart s).dwn = s.dwn ∧ (releaseStart s).ost = s.ost ∧ (releaseStart s).mwt = s.mwt ∧
    (releaseStart s).pjr = s.pjr ∧ (releaseStart s).hdm = s.hdm ∧ (releaseStart s).rpl = s.rpl ∧
    (releaseStart s).plp = s.plp ∧ (releaseStart s).pnl = s.pnl ∧ (releaseStart s).settings = s.settings ∧
    (releaseStart s).flash = s.flash ∧ (releaseStart s).freeCount = s.freeCount ∧
    (releaseStart s).pending = s.pending := by
  unfold releaseStart
  first
    | simp; done
    | try dsimp only
      repeat' split
      all_goals simp

@[simp] theorem crossMotorStop_frame : 
    (crossMotorStop s).mainPowered = s.mainPowered ∧ (crossMotorStop s).csq = s.csq ∧
    (crossMotorStop s).scv = s.scv ∧ (crossMotorStop s).dwn = s.dwn ∧ (crossMotorStop s).mwt = s.mwt ∧
    (crossMotorStop s).pjr = s.pjr ∧ (crossMotorStop s).hdm = s.hdm ∧ (crossMotorStop s).rpl = s.rpl ∧
    (crossMotorStop s).plp = s.plp ∧ (crossMotorStop s).pnl = s.pnl ∧ (crossMotorStop s).settings = s.settings ∧
    (crossMotorStop s).flash = s.flash ∧ (crossMotorStop s).freeCount = s.freeCount ∧
    (crossMotorStop s).pending = s.pending := by
  unfold crossMotorStop
  first
    | simp; done
    | try dsimp only
      repeat' split
      all_goals simp

@[simp] theorem crossMotorStart_frame : 
    (crossMotorStart s).mainPowered = s.mainPowered ∧ (crossMotorStart s).csq = s.csq ∧
    (crossMotorStart s).scv = s.scv ∧ (crossMotorStart s).dwn = s.dwn ∧ (crossMotorStart s).mwt = s.mwt ∧
    (crossMotorStart s).pjr = s.pjr ∧ (crossMotorStart s).hdm = s.hdm ∧ (crossMotorStart s).rpl = s.rpl ∧
    (crossMotorStart s).plp = s.plp ∧ (crossMotorStart s).fsu = s.fsu ∧ (crossMotorStart s).pnl = s.pnl ∧
    (crossMotorStart s).settings = s.settings ∧ (crossMotorStart s).flash = s.flash ∧
    (crossMotorStart s).freeCount = s.freeCount ∧ (crossMotorStart s).pending = s.pending := by
  unfold crossMotorStart
  first
    | simp; done
    | try dsimp only
      repeat' split
      all_goals simp

@[simp] theorem crossing_frame : 
    (crossing s).mainPowered = s.mainPowered ∧ (crossing s).scv = s.scv ∧ (crossing s).dwn = s.dwn ∧
    (crossing s).mwt = s.mwt ∧ (crossing s).pjr = s.pjr ∧ (crossing s).hdm = s.hdm ∧ (crossing s).rpl = s.rpl ∧
    (crossing s).plp = s.plp ∧ (crossing s).pnl = s.pnl ∧ (crossing s).settings = s.settings ∧
    (crossing s).flash = s.flash ∧ (crossing s).freeCount = s.freeCount ∧ (crossing s).pending = s.pending := by
  unfold crossing
  first
    | simp; done
    | try dsimp only
      repeat' split
      all_goals simp

@[simp] theorem startWindowEnd_frame : 
    (startWindowEnd s).mainPowered = s.mainPowered ∧ (startWindowEnd s).csq = s.csq ∧
    (startWindowEnd s).scv = s.scv ∧ (startWindowEnd s).dwn = s.dwn ∧ (startWindowEnd s).mwt = s.mwt ∧
    (startWindowEnd s).pjr = s.pjr ∧ (startWindowEnd s).hdm = s.hdm ∧ (startWindowEnd s).rpl = s.rpl ∧
    (startWindowEnd s).plp = s.plp ∧ (startWindowEnd s).fsu = s.fsu ∧ (startWindowEnd s).pnl = s.pnl ∧
    (startWindowEnd s).settings = s.settings ∧ (startWindowEnd s).flash = s.flash ∧
    (startWindowEnd s).freeCount = s.freeCount ∧ (startWindowEnd s).pending = s.pending := by
  unfold startWindowEnd
  first
    | simp; done
    | try dsimp only
      repeat' split
      all_goals simp

@[simp] theorem coastEnd_frame : 
    (coastEnd s).mainPowered = s.mainPowered ∧ (coastEnd s).csq = s.csq ∧ (coastEnd s).scv = s.scv ∧
    (coastEnd s).dwn = s.dwn ∧ (coastEnd s).mwt = s.mwt ∧ (coastEnd s).pjr = s.pjr ∧ (coastEnd s).hdm = s.hdm ∧
    (coastEnd s).rpl = s.rpl ∧ (coastEnd s).plp = s.plp ∧ (coastEnd s).fsu = s.fsu ∧ (coastEnd s).pnl = s.pnl ∧
    (coastEnd s).settings = s.settings ∧ (coastEnd s).flash = s.flash ∧ (coastEnd s).freeCount = s.freeCount ∧
    (coastEnd s).pending = s.pending := by
  unfold coastEnd
  first
    | simp; done
    | try dsimp only
      repeat' split
      all_goals simp

@[simp] theorem railDropEnd_frame : 
    (railDropEnd s).mainPowered = s.mainPowered ∧ (railDropEnd s).csq = s.csq ∧ (railDropEnd s).scv = s.scv ∧
    (railDropEnd s).dwn = s.dwn ∧ (railDropEnd s).mwt = s.mwt ∧ (railDropEnd s).pjr = s.pjr ∧
    (railDropEnd s).hdm = s.hdm ∧ (railDropEnd s).rpl = s.rpl ∧ (railDropEnd s).plp = s.plp ∧
    (railDropEnd s).fsu = s.fsu ∧ (railDropEnd s).pnl = s.pnl ∧ (railDropEnd s).settings = s.settings ∧
    (railDropEnd s).flash = s.flash ∧ (railDropEnd s).freeCount = s.freeCount ∧
    (railDropEnd s).pending = s.pending := by
  unfold railDropEnd
  first
    | simp; done
    | try dsimp only
      repeat' split
      all_goals simp

@[simp] theorem doorOpens_frame : 
    (doorOpens s).mainPowered = s.mainPowered ∧ (doorOpens s).scv = s.scv ∧ (doorOpens s).dwn = s.dwn ∧
    (doorOpens s).mwt = s.mwt ∧ (doorOpens s).hdm = s.hdm ∧ (doorOpens s).plp = s.plp ∧
    (doorOpens s).fsu = s.fsu ∧ (doorOpens s).settings = s.settings ∧ (doorOpens s).flash = s.flash ∧
    (doorOpens s).freeCount = s.freeCount ∧ (doorOpens s).pending = s.pending := by
  unfold doorOpens
  first
    | simp; done
    | try dsimp only
      repeat' split
      all_goals simp

@[simp] theorem doorCloses_frame : 
    (doorCloses s).mainPowered = s.mainPowered ∧ (doorCloses s).csq = s.csq ∧ (doorCloses s).scv = s.scv ∧
    (doorCloses s).dwn = s.dwn ∧ (doorCloses s).mwt = s.mwt ∧ (doorCloses s).pjr = s.pjr ∧
    (doorCloses s).hdm = s.hdm ∧ (doorCloses s).rpl = s.rpl ∧ (doorCloses s).plp = s.plp ∧
    (doorCloses s).fsu = s.fsu ∧ (doorCloses s).pnl = s.pnl ∧ (doorCloses s).settings = s.settings ∧
    (doorCloses s).flash = s.flash ∧ (doorCloses s).freeCount = s.freeCount ∧ (doorCloses s).pending = s.pending := by
  unfold doorCloses
  first
    | simp; done
    | try dsimp only
      repeat' split
      all_goals simp

@[simp] theorem airflowCount_frame : 
    (airflowCount s).mainPowered = s.mainPowered ∧ (airflowCount s).csq = s.csq ∧ (airflowCount s).scv = s.scv ∧
    (airflowCount s).dwn = s.dwn ∧ (airflowCount s).mwt = s.mwt ∧ (airflowCount s).pjr = s.pjr ∧
    (airflowCount s).hdm = s.hdm ∧ (airflowCount s).rpl = s.rpl ∧ (airflowCount s).plp = s.plp ∧
    (airflowCount s).fsu = s.fsu ∧ (airflowCount s).pnl = s.pnl ∧ (airflowCount s).settings = s.settings ∧
    (airflowCount s).flash = s.flash ∧ (airflowCount s).freeCount = s.freeCount ∧
    (airflowCount s).pending = s.pending := by
  unfold airflowCount
  first
    | simp; done
    | try dsimp only
      repeat' split
      all_goals simp

@[simp] theorem airSecond_frame : 
    (airSecond s).mainPowered = s.mainPowered ∧ (airSecond s).csq = s.csq ∧ (airSecond s).scv = s.scv ∧
    (airSecond s).dwn = s.dwn ∧ (airSecond s).mwt = s.mwt ∧ (airSecond s).pjr = s.pjr ∧
    (airSecond s).hdm = s.hdm ∧ (airSecond s).rpl = s.rpl ∧ (airSecond s).plp = s.plp ∧
    (airSecond s).fsu = s.fsu ∧ (airSecond s).pnl = s.pnl ∧ (airSecond s).settings = s.settings ∧
    (airSecond s).flash = s.flash ∧ (airSecond s).freeCount = s.freeCount ∧ (airSecond s).pending = s.pending := by
  unfold airSecond
  first
    | simp; done
    | try dsimp only
      repeat' split
      all_goals simp

@[simp] theorem holdCount_frame : 
    (holdCount s).mainPowered = s.mainPowered ∧ (holdCount s).csq = s.csq ∧ (holdCount s).scv = s.scv ∧
    (holdCount s).dwn = s.dwn ∧ (holdCount s).mwt = s.mwt ∧ (holdCount s).pjr = s.pjr ∧
    (holdCount s).hdm = s.hdm ∧ (holdCount s).rpl = s.rpl ∧ (holdCount s).plp = s.plp ∧
    (holdCount s).fsu = s.fsu ∧ (holdCount s).pnl = s.pnl ∧ (holdCount s).settings = s.settings ∧
    (holdCount s).flash = s.flash ∧ (holdCount s).freeCount = s.freeCount ∧ (holdCount s).pending = s.pending := by
  unfold holdCount
  first
    | simp; done
    | try dsimp only
      repeat' split
      all_goals simp

@[simp] theorem holdReport_frame (due : Bool) : 
    (holdReport due s).mainPowered = s.mainPowered ∧ (holdReport due s).scv = s.scv ∧
    (holdReport due s).dwn = s.dwn ∧ (holdReport due s).ost = s.ost ∧ (holdReport due s).mwt = s.mwt ∧
    (holdReport due s).hdm = s.hdm ∧ (holdReport due s).plp = s.plp ∧ (holdReport due s).fsu = s.fsu ∧
    (holdReport due s).settings = s.settings ∧ (holdReport due s).flash = s.flash ∧
    (holdReport due s).freeCount = s.freeCount ∧ (holdReport due s).pending = s.pending := by
  unfold holdReport
  first
    | simp; done
    | try dsimp only
      repeat' split
      all_goals simp

@[simp] theorem holdSecond_frame : 
    (holdSecond s).mainPowered = s.mainPowered ∧ (holdSecond s).scv = s.scv ∧ (holdSecond s).dwn = s.dwn ∧
    (holdSecond s).mwt = s.mwt ∧ (holdSecond s).hdm = s.hdm ∧ (holdSecond s).plp = s.plp ∧
    (holdSecond s).fsu = s.fsu ∧ (holdSecond s).settings = s.settings ∧ (holdSecond s).flash = s.flash ∧
    (holdSecond s).freeCount = s.freeCount ∧ (holdSecond s).pending = s.pending := by
  unfold holdSecond
  first
    | simp; done
    | try dsimp only
      repeat' split
      all_goals simp

/-! ## Mains -/

@[simp] theorem raiseWarning_frame (opens : Bool) : 
    (raiseWarning s opens).mainPowered = s.mainPowered ∧ (raiseWarning s opens).dwn = s.dwn ∧
    (raiseWarning s opens).hdm = s.hdm ∧ (raiseWarning s opens).settings = s.settings ∧
    (raiseWarning s opens).flash = s.flash ∧ (raiseWarning s opens).freeCount = s.freeCount ∧
    (raiseWarning s opens).pending = s.pending := by
  unfold raiseWarning
  first
    | simp; done
    | try dsimp only
      repeat' split
      all_goals simp

@[simp] theorem enterLossWarning_frame (opens : Bool) : 
    (enterLossWarning s opens).mainPowered = s.mainPowered ∧ (enterLossWarning s opens).dwn = s.dwn ∧
    (enterLossWarning s opens).hdm = s.hdm ∧ (enterLossWarning s opens).settings = s.settings ∧
    (enterLossWarning s opens).flash = s.flash ∧ (enterLossWarning s opens).freeCount = s.freeCount ∧
    (enterLossWarning s opens).pending = s.pending := by
  unfold enterLossWarning
  first
    | simp; done
    | try dsimp only
      repeat' split
      all_goals simp

@[simp] theorem railTripped_frame : 
    (railTripped s).mainPowered = s.mainPowered ∧ (railTripped s).dwn = s.dwn ∧ (railTripped s).hdm = s.hdm ∧
    (railTripped s).settings = s.settings ∧ (railTripped s).flash = s.flash ∧
    (railTripped s).freeCount = s.freeCount ∧ (railTripped s).pending = s.pending := by
  unfold railTripped
  first
    | simp; done
    | try dsimp only
      repeat' split
      all_goals simp

@[simp] theorem railHealthyAgain_frame : 
    (railHealthyAgain s).mainPowered = s.mainPowered ∧ (railHealthyAgain s).csq = s.csq ∧
    (railHealthyAgain s).scv = s.scv ∧ (railHealthyAgain s).dwn = s.dwn ∧ (railHealthyAgain s).ost = s.ost ∧
    (railHealthyAgain s).pjr = s.pjr ∧ (railHealthyAgain s).hdm = s.hdm ∧ (railHealthyAgain s).rpl = s.rpl ∧
    (railHealthyAgain s).plp = s.plp ∧ (railHealthyAgain s).fsu = s.fsu ∧ (railHealthyAgain s).pnl = s.pnl ∧
    (railHealthyAgain s).settings = s.settings ∧ (railHealthyAgain s).flash = s.flash ∧
    (railHealthyAgain s).freeCount = s.freeCount ∧ (railHealthyAgain s).pending = s.pending := by
  unfold railHealthyAgain
  first
    | simp; done
    | try dsimp only
      repeat' split
      all_goals simp

@[simp] theorem missingCrossing_frame : 
    (missingCrossing s).mainPowered = s.mainPowered ∧ (missingCrossing s).dwn = s.dwn ∧
    (missingCrossing s).hdm = s.hdm ∧ (missingCrossing s).settings = s.settings ∧
    (missingCrossing s).flash = s.flash ∧ (missingCrossing s).freeCount = s.freeCount ∧
    (missingCrossing s).pending = s.pending := by
  unfold missingCrossing
  first
    | simp; done
    | try dsimp only
      repeat' split
      all_goals simp

@[simp] theorem feederBack_frame : 
    (feederBack s).mainPowered = s.mainPowered ∧ (feederBack s).csq = s.csq ∧ (feederBack s).scv = s.scv ∧
    (feederBack s).dwn = s.dwn ∧ (feederBack s).ost = s.ost ∧ (feederBack s).mwt = s.mwt ∧
    (feederBack s).pjr = s.pjr ∧ (feederBack s).hdm = s.hdm ∧ (feederBack s).rpl = s.rpl ∧
    (feederBack s).plp = s.plp ∧ (feederBack s).pnl = s.pnl ∧ (feederBack s).settings = s.settings ∧
    (feederBack s).flash = s.flash ∧ (feederBack s).freeCount = s.freeCount ∧ (feederBack s).pending = s.pending := by
  unfold feederBack
  first
    | simp; done
    | try dsimp only
      repeat' split
      all_goals simp

@[simp] theorem enterPresent_frame (c : LineClass) : 
    (enterPresent s c).mainPowered = s.mainPowered ∧ (enterPresent s c).scv = s.scv ∧
    (enterPresent s c).dwn = s.dwn ∧ (enterPresent s c).ost = s.ost ∧ (enterPresent s c).pjr = s.pjr ∧
    (enterPresent s c).hdm = s.hdm ∧ (enterPresent s c).plp = s.plp ∧ (enterPresent s c).settings = s.settings ∧
    (enterPresent s c).flash = s.flash ∧ (enterPresent s c).freeCount = s.freeCount ∧
    (enterPresent s c).pending = s.pending := by
  unfold enterPresent
  first
    | simp; done
    | try dsimp only
      repeat' split
      all_goals simp

@[simp] theorem enterLineFault_frame : 
    (enterLineFault s).mainPowered = s.mainPowered ∧ (enterLineFault s).csq = s.csq ∧
    (enterLineFault s).scv = s.scv ∧ (enterLineFault s).dwn = s.dwn ∧ (enterLineFault s).ost = s.ost ∧
    (enterLineFault s).pjr = s.pjr ∧ (enterLineFault s).hdm = s.hdm ∧ (enterLineFault s).rpl = s.rpl ∧
    (enterLineFault s).plp = s.plp ∧ (enterLineFault s).fsu = s.fsu ∧ (enterLineFault s).settings = s.settings ∧
    (enterLineFault s).flash = s.flash ∧ (enterLineFault s).freeCount = s.freeCount ∧
    (enterLineFault s).pending = s.pending := by
  unfold enterLineFault
  first
    | simp; done
    | try dsimp only
      repeat' split
      all_goals simp

@[simp] theorem judgeBlock_frame (n : Nat) : 
    (judgeBlock s n).mainPowered = s.mainPowered ∧ (judgeBlock s n).scv = s.scv ∧ (judgeBlock s n).dwn = s.dwn ∧
    (judgeBlock s n).ost = s.ost ∧ (judgeBlock s n).pjr = s.pjr ∧ (judgeBlock s n).hdm = s.hdm ∧
    (judgeBlock s n).plp = s.plp ∧ (judgeBlock s n).settings = s.settings ∧ (judgeBlock s n).flash = s.flash ∧
    (judgeBlock s n).freeCount = s.freeCount ∧ (judgeBlock s n).pending = s.pending := by
  unfold judgeBlock
  first
    | simp; done
    | try dsimp only
      repeat' split
      all_goals simp

@[simp] theorem blockCrossing_frame (n : Nat) : 
    (blockCrossing s n).mainPowered = s.mainPowered ∧ (blockCrossing s n).scv = s.scv ∧
    (blockCrossing s n).dwn = s.dwn ∧ (blockCrossing s n).ost = s.ost ∧ (blockCrossing s n).pjr = s.pjr ∧
    (blockCrossing s n).hdm = s.hdm ∧ (blockCrossing s n).plp = s.plp ∧
    (blockCrossing s n).settings = s.settings ∧ (blockCrossing s n).flash = s.flash ∧
    (blockCrossing s n).freeCount = s.freeCount ∧ (blockCrossing s n).pending = s.pending := by
  unfold blockCrossing
  first
    | simp; done
    | try dsimp only
      repeat' split
      all_goals simp

@[simp] theorem lossCrossing_frame : 
    (lossCrossing s).mainPowered = s.mainPowered ∧ (lossCrossing s).csq = s.csq ∧ (lossCrossing s).scv = s.scv ∧
    (lossCrossing s).dwn = s.dwn ∧ (lossCrossing s).ost = s.ost ∧ (lossCrossing s).pjr = s.pjr ∧
    (lossCrossing s).hdm = s.hdm ∧ (lossCrossing s).rpl = s.rpl ∧ (lossCrossing s).plp = s.plp ∧
    (lossCrossing s).fsu = s.fsu ∧ (lossCrossing s).pnl = s.pnl ∧ (lossCrossing s).settings = s.settings ∧
    (lossCrossing s).flash = s.flash ∧ (lossCrossing s).freeCount = s.freeCount ∧
    (lossCrossing s).pending = s.pending := by
  unfold lossCrossing
  first
    | simp; done
    | try dsimp only
      repeat' split
      all_goals simp

@[simp] theorem returnCrossing_frame (n : Nat) : 
    (returnCrossing s n).mainPowered = s.mainPowered ∧ (returnCrossing s n).scv = s.scv ∧
    (returnCrossing s n).dwn = s.dwn ∧ (returnCrossing s n).ost = s.ost ∧ (returnCrossing s n).pjr = s.pjr ∧
    (returnCrossing s n).hdm = s.hdm ∧ (returnCrossing s n).plp = s.plp ∧
    (returnCrossing s n).settings = s.settings ∧ (returnCrossing s n).flash = s.flash ∧
    (returnCrossing s n).freeCount = s.freeCount ∧ (returnCrossing s n).pending = s.pending := by
  unfold returnCrossing
  first
    | simp; done
    | try dsimp only
      repeat' split
      all_goals simp

@[simp] theorem rejectEdge_frame (us : Nat) : 
    (rejectEdge s us).mainPowered = s.mainPowered ∧ (rejectEdge s us).csq = s.csq ∧
    (rejectEdge s us).scv = s.scv ∧ (rejectEdge s us).dwn = s.dwn ∧ (rejectEdge s us).ost = s.ost ∧
    (rejectEdge s us).pjr = s.pjr ∧ (rejectEdge s us).hdm = s.hdm ∧ (rejectEdge s us).rpl = s.rpl ∧
    (rejectEdge s us).plp = s.plp ∧ (rejectEdge s us).fsu = s.fsu ∧ (rejectEdge s us).pnl = s.pnl ∧
    (rejectEdge s us).settings = s.settings ∧ (rejectEdge s us).flash = s.flash ∧
    (rejectEdge s us).freeCount = s.freeCount ∧ (rejectEdge s us).pending = s.pending := by
  unfold rejectEdge
  first
    | simp; done
    | try dsimp only
      repeat' split
      all_goals simp

@[simp] theorem acceptEdge_frame (us : Nat) : 
    (acceptEdge s us).mainPowered = s.mainPowered ∧ (acceptEdge s us).csq = s.csq ∧
    (acceptEdge s us).scv = s.scv ∧ (acceptEdge s us).dwn = s.dwn ∧ (acceptEdge s us).ost = s.ost ∧
    (acceptEdge s us).pjr = s.pjr ∧ (acceptEdge s us).hdm = s.hdm ∧ (acceptEdge s us).rpl = s.rpl ∧
    (acceptEdge s us).plp = s.plp ∧ (acceptEdge s us).fsu = s.fsu ∧ (acceptEdge s us).pnl = s.pnl ∧
    (acceptEdge s us).settings = s.settings ∧ (acceptEdge s us).flash = s.flash ∧
    (acceptEdge s us).freeCount = s.freeCount ∧ (acceptEdge s us).pending = s.pending := by
  unfold acceptEdge
  first
    | simp; done
    | try dsimp only
      repeat' split
      all_goals simp

@[simp] theorem settleCrossing_frame (n : Nat) : 
    (settleCrossing s n).mainPowered = s.mainPowered ∧ (settleCrossing s n).scv = s.scv ∧
    (settleCrossing s n).dwn = s.dwn ∧ (settleCrossing s n).ost = s.ost ∧ (settleCrossing s n).pjr = s.pjr ∧
    (settleCrossing s n).hdm = s.hdm ∧ (settleCrossing s n).plp = s.plp ∧
    (settleCrossing s n).settings = s.settings ∧ (settleCrossing s n).flash = s.flash ∧
    (settleCrossing s n).freeCount = s.freeCount ∧ (settleCrossing s n).pending = s.pending := by
  unfold settleCrossing
  first
    | simp; done
    | try dsimp only
      repeat' split
      all_goals simp

@[simp] theorem mainsEdge_frame (us : Nat) : 
    (mainsEdge s us).mainPowered = s.mainPowered ∧ (mainsEdge s us).scv = s.scv ∧ (mainsEdge s us).dwn = s.dwn ∧
    (mainsEdge s us).ost = s.ost ∧ (mainsEdge s us).pjr = s.pjr ∧ (mainsEdge s us).hdm = s.hdm ∧
    (mainsEdge s us).plp = s.plp ∧ (mainsEdge s us).settings = s.settings ∧ (mainsEdge s us).flash = s.flash ∧
    (mainsEdge s us).freeCount = s.freeCount ∧ (mainsEdge s us).pending = s.pending := by
  unfold mainsEdge
  first
    | simp; done
    | try dsimp only
      repeat' split
      all_goals simp

@[simp] theorem edge_frame (us : Nat) : 
    (edge s us).mainPowered = s.mainPowered ∧ (edge s us).scv = s.scv ∧ (edge s us).dwn = s.dwn ∧
    (edge s us).pjr = s.pjr ∧ (edge s us).hdm = s.hdm ∧ (edge s us).plp = s.plp ∧
    (edge s us).settings = s.settings ∧ (edge s us).flash = s.flash ∧ (edge s us).freeCount = s.freeCount ∧
    (edge s us).pending = s.pending := by
  unfold edge
  first
    | simp; done
    | try dsimp only
      repeat' split
      all_goals simp

/-! ## Planner -/

@[simp] theorem setDisposition_frame (d : Disposition) : 
    (setDisposition s d).mainPowered = s.mainPowered ∧ (setDisposition s d).csq = s.csq ∧
    (setDisposition s d).scv = s.scv ∧ (setDisposition s d).dwn = s.dwn ∧ (setDisposition s d).ost = s.ost ∧
    (setDisposition s d).mwt = s.mwt ∧ (setDisposition s d).pjr = s.pjr ∧ (setDisposition s d).hdm = s.hdm ∧
    (setDisposition s d).plp = s.plp ∧ (setDisposition s d).fsu = s.fsu ∧ (setDisposition s d).pnl = s.pnl ∧
    (setDisposition s d).settings = s.settings ∧ (setDisposition s d).flash = s.flash ∧
    (setDisposition s d).freeCount = s.freeCount ∧ (setDisposition s d).pending = s.pending := by
  unfold setDisposition
  first
    | simp; done
    | try dsimp only
      repeat' split
      all_goals simp

@[simp] theorem loadSource_frame (r : Option Record) : 
    (loadSource s r).mainPowered = s.mainPowered ∧ (loadSource s r).scv = s.scv ∧ (loadSource s r).dwn = s.dwn ∧
    (loadSource s r).ost = s.ost ∧ (loadSource s r).mwt = s.mwt ∧ (loadSource s r).pjr = s.pjr ∧
    (loadSource s r).hdm = s.hdm ∧ (loadSource s r).rpl = s.rpl ∧ (loadSource s r).plp = s.plp ∧
    (loadSource s r).fsu = s.fsu ∧ (loadSource s r).pnl = s.pnl ∧ (loadSource s r).settings = s.settings ∧
    (loadSource s r).flash = s.flash ∧ (loadSource s r).freeCount = s.freeCount ∧
    (loadSource s r).pending = s.pending := by
  unfold loadSource
  first
    | simp; done
    | try dsimp only
      repeat' split
      all_goals simp

@[simp] theorem enterPlanReady_frame (r : ReadyReason) : 
    (enterPlanReady s r).mainPowered = s.mainPowered ∧ (enterPlanReady s r).scv = s.scv ∧
    (enterPlanReady s r).dwn = s.dwn ∧ (enterPlanReady s r).ost = s.ost ∧ (enterPlanReady s r).mwt = s.mwt ∧
    (enterPlanReady s r).pjr = s.pjr ∧ (enterPlanReady s r).hdm = s.hdm ∧ (enterPlanReady s r).rpl = s.rpl ∧
    (enterPlanReady s r).plp = s.plp ∧ (enterPlanReady s r).fsu = s.fsu ∧
    (enterPlanReady s r).settings = s.settings ∧ (enterPlanReady s r).flash = s.flash ∧
    (enterPlanReady s r).freeCount = s.freeCount ∧ (enterPlanReady s r).pending = s.pending := by
  unfold enterPlanReady
  first
    | simp; done
    | try dsimp only
      repeat' split
      all_goals simp

@[simp] theorem actOnPlan_frame : 
    (actOnPlan s).mainPowered = s.mainPowered ∧ (actOnPlan s).scv = s.scv ∧ (actOnPlan s).mwt = s.mwt ∧
    (actOnPlan s).plp = s.plp ∧ (actOnPlan s).settings = s.settings ∧ (actOnPlan s).flash = s.flash ∧
    (actOnPlan s).freeCount = s.freeCount ∧ (actOnPlan s).pending = s.pending := by
  unfold actOnPlan
  first
    | simp; done
    | try dsimp only
      repeat' split
      all_goals simp

@[simp] theorem deliverPlan_frame (src : Option Record) : 
    (deliverPlan s src).mainPowered = s.mainPowered ∧ (deliverPlan s src).scv = s.scv ∧
    (deliverPlan s src).mwt = s.mwt ∧ (deliverPlan s src).plp = s.plp ∧
    (deliverPlan s src).settings = s.settings ∧ (deliverPlan s src).flash = s.flash ∧
    (deliverPlan s src).freeCount = s.freeCount ∧ (deliverPlan s src).pending = s.pending := by
  unfold deliverPlan
  first
    | simp; done
    | try dsimp only
      repeat' split
      all_goals simp

@[simp] theorem makePlan_frame (v : Bool) : 
    (makePlan s v).mainPowered = s.mainPowered ∧ (makePlan s v).scv = s.scv ∧ (makePlan s v).mwt = s.mwt ∧
    (makePlan s v).plp = s.plp ∧ (makePlan s v).settings = s.settings ∧ (makePlan s v).flash = s.flash ∧
    (makePlan s v).freeCount = s.freeCount ∧ (makePlan s v).pending = s.pending := by
  unfold makePlan
  first
    | simp; done
    | try dsimp only
      repeat' split
      all_goals simp

@[simp] theorem windowExpires_frame : 
    (windowExpires s).mainPowered = s.mainPowered ∧ (windowExpires s).scv = s.scv ∧
    (windowExpires s).dwn = s.dwn ∧ (windowExpires s).ost = s.ost ∧ (windowExpires s).mwt = s.mwt ∧
    (windowExpires s).plp = s.plp ∧ (windowExpires s).fsu = s.fsu ∧ (windowExpires s).settings = s.settings ∧
    (windowExpires s).flash = s.flash ∧ (windowExpires s).freeCount = s.freeCount ∧
    (windowExpires s).pending = s.pending := by
  unfold windowExpires
  first
    | simp; done
    | try dsimp only
      repeat' split
      all_goals simp

@[simp] theorem waitSecond_frame : 
    (waitSecond s).mainPowered = s.mainPowered ∧ (waitSecond s).scv = s.scv ∧ (waitSecond s).dwn = s.dwn ∧
    (waitSecond s).ost = s.ost ∧ (waitSecond s).mwt = s.mwt ∧ (waitSecond s).plp = s.plp ∧
    (waitSecond s).fsu = s.fsu ∧ (waitSecond s).settings = s.settings ∧ (waitSecond s).flash = s.flash ∧
    (waitSecond s).freeCount = s.freeCount ∧ (waitSecond s).pending = s.pending := by
  unfold waitSecond
  first
    | simp; done
    | try dsimp only
      repeat' split
      all_goals simp

@[simp] theorem takeConfirm_frame : 
    (takeConfirm s).mainPowered = s.mainPowered ∧ (takeConfirm s).scv = s.scv ∧ (takeConfirm s).mwt = s.mwt ∧
    (takeConfirm s).plp = s.plp ∧ (takeConfirm s).settings = s.settings ∧ (takeConfirm s).flash = s.flash ∧
    (takeConfirm s).freeCount = s.freeCount ∧ (takeConfirm s).pending = s.pending := by
  unfold takeConfirm
  first
    | simp; done
    | try dsimp only
      repeat' split
      all_goals simp

@[simp] theorem takeDecline_frame : 
    (takeDecline s).mainPowered = s.mainPowered ∧ (takeDecline s).scv = s.scv ∧ (takeDecline s).dwn = s.dwn ∧
    (takeDecline s).ost = s.ost ∧ (takeDecline s).mwt = s.mwt ∧ (takeDecline s).plp = s.plp ∧
    (takeDecline s).fsu = s.fsu ∧ (takeDecline s).settings = s.settings ∧ (takeDecline s).flash = s.flash ∧
    (takeDecline s).freeCount = s.freeCount ∧ (takeDecline s).pending = s.pending := by
  unfold takeDecline
  first
    | simp; done
    | try dsimp only
      repeat' split
      all_goals simp

@[simp] theorem takeForce_frame (r : Record) : 
    (takeForce s r).mainPowered = s.mainPowered ∧ (takeForce s r).scv = s.scv ∧ (takeForce s r).mwt = s.mwt ∧
    (takeForce s r).plp = s.plp ∧ (takeForce s r).settings = s.settings ∧ (takeForce s r).flash = s.flash ∧
    (takeForce s r).freeCount = s.freeCount ∧ (takeForce s r).pending = s.pending := by
  unfold takeForce
  first
    | simp; done
    | try dsimp only
      repeat' split
      all_goals simp

/-! ## Converter -/

@[simp] theorem collectMoist_frame (w : Bool) : 
    (collectMoist s w).mainPowered = s.mainPowered ∧ (collectMoist s w).csq = s.csq ∧
    (collectMoist s w).scv = s.scv ∧ (collectMoist s w).ost = s.ost ∧ (collectMoist s w).mwt = s.mwt ∧
    (collectMoist s w).pjr = s.pjr ∧ (collectMoist s w).hdm = s.hdm ∧ (collectMoist s w).rpl = s.rpl ∧
    (collectMoist s w).plp = s.plp ∧ (collectMoist s w).fsu = s.fsu ∧ (collectMoist s w).pnl = s.pnl ∧
    (collectMoist s w).settings = s.settings ∧ (collectMoist s w).flash = s.flash ∧
    (collectMoist s w).freeCount = s.freeCount ∧ (collectMoist s w).pending = s.pending := by
  unfold collectMoist
  first
    | simp; done
    | try dsimp only
      repeat' split
      all_goals simp

@[simp] theorem judgeHighLimit_frame (c : Nat) : 
    (judgeHighLimit s c).mainPowered = s.mainPowered ∧ (judgeHighLimit s c).csq = s.csq ∧
    (judgeHighLimit s c).scv = s.scv ∧ (judgeHighLimit s c).dwn = s.dwn ∧ (judgeHighLimit s c).mwt = s.mwt ∧
    (judgeHighLimit s c).pjr = s.pjr ∧ (judgeHighLimit s c).hdm = s.hdm ∧ (judgeHighLimit s c).rpl = s.rpl ∧
    (judgeHighLimit s c).plp = s.plp ∧ (judgeHighLimit s c).fsu = s.fsu ∧
    (judgeHighLimit s c).settings = s.settings ∧ (judgeHighLimit s c).flash = s.flash ∧
    (judgeHighLimit s c).freeCount = s.freeCount ∧ (judgeHighLimit s c).pending = s.pending := by
  unfold judgeHighLimit
  first
    | simp; done
    | try dsimp only
      repeat' split
      all_goals simp

@[simp] theorem deliverTherm_frame (ch : Channel) (w : Nat) : 
    (deliverTherm s ch w).mainPowered = s.mainPowered ∧ (deliverTherm s ch w).csq = s.csq ∧
    (deliverTherm s ch w).scv = s.scv ∧ (deliverTherm s ch w).mwt = s.mwt ∧ (deliverTherm s ch w).pjr = s.pjr ∧
    (deliverTherm s ch w).hdm = s.hdm ∧ (deliverTherm s ch w).rpl = s.rpl ∧ (deliverTherm s ch w).plp = s.plp ∧
    (deliverTherm s ch w).fsu = s.fsu ∧ (deliverTherm s ch w).settings = s.settings ∧
    (deliverTherm s ch w).flash = s.flash ∧ (deliverTherm s ch w).freeCount = s.freeCount ∧
    (deliverTherm s ch w).pending = s.pending := by
  unfold deliverTherm
  first
    | simp; done
    | try dsimp only
      repeat' split
      all_goals simp

@[simp] theorem deliver_frame (ch : Channel) (w : Option Nat) : 
    (deliver s ch w).mainPowered = s.mainPowered ∧ (deliver s ch w).csq = s.csq ∧ (deliver s ch w).scv = s.scv ∧
    (deliver s ch w).mwt = s.mwt ∧ (deliver s ch w).pjr = s.pjr ∧ (deliver s ch w).hdm = s.hdm ∧
    (deliver s ch w).rpl = s.rpl ∧ (deliver s ch w).plp = s.plp ∧ (deliver s ch w).fsu = s.fsu ∧
    (deliver s ch w).settings = s.settings ∧ (deliver s ch w).flash = s.flash ∧
    (deliver s ch w).freeCount = s.freeCount ∧ (deliver s ch w).pending = s.pending := by
  unfold deliver
  first
    | simp; done
    | try dsimp only
      repeat' split
      all_goals simp

@[simp] theorem settleFault_frame (ch : Channel) (f : ThermFault) : 
    (settleFault s ch f).mainPowered = s.mainPowered ∧ (settleFault s ch f).csq = s.csq ∧
    (settleFault s ch f).dwn = s.dwn ∧ (settleFault s ch f).ost = s.ost ∧ (settleFault s ch f).mwt = s.mwt ∧
    (settleFault s ch f).pjr = s.pjr ∧ (settleFault s ch f).hdm = s.hdm ∧ (settleFault s ch f).rpl = s.rpl ∧
    (settleFault s ch f).plp = s.plp ∧ (settleFault s ch f).fsu = s.fsu ∧
    (settleFault s ch f).settings = s.settings ∧ (settleFault s ch f).flash = s.flash ∧
    (settleFault s ch f).freeCount = s.freeCount ∧ (settleFault s ch f).pending = s.pending := by
  unfold settleFault
  first
    | simp; done
    | try dsimp only
      repeat' split
      all_goals simp

@[simp] theorem completePair_frame (ch : Channel) (v : Bool) : 
    (completePair s ch v).mainPowered = s.mainPowered ∧ (completePair s ch v).mwt = s.mwt ∧
    (completePair s ch v).plp = s.plp ∧ (completePair s ch v).settings = s.settings ∧
    (completePair s ch v).flash = s.flash ∧ (completePair s ch v).freeCount = s.freeCount ∧
    (completePair s ch v).pending = s.pending := by
  unfold completePair
  first
    | simp; done
    | try dsimp only
      repeat' split
      all_goals simp

@[simp] theorem endMeasurement_frame (m : Bool) (c p : Nat) (w : Option Nat) : 
    (endMeasurement s m c p w).mainPowered = s.mainPowered ∧ (endMeasurement s m c p w).mwt = s.mwt ∧
    (endMeasurement s m c p w).plp = s.plp ∧ (endMeasurement s m c p w).settings = s.settings ∧
    (endMeasurement s m c p w).flash = s.flash ∧ (endMeasurement s m c p w).freeCount = s.freeCount ∧
    (endMeasurement s m c p w).pending = s.pending := by
  unfold endMeasurement
  first
    | simp; done
    | try dsimp only
      repeat' split
      all_goals simp

@[simp] theorem refEnd_frame (n : Nat) : 
    (refEnd s n).mainPowered = s.mainPowered ∧ (refEnd s n).csq = s.csq ∧ (refEnd s n).dwn = s.dwn ∧
    (refEnd s n).ost = s.ost ∧ (refEnd s n).mwt = s.mwt ∧ (refEnd s n).pjr = s.pjr ∧ (refEnd s n).hdm = s.hdm ∧
    (refEnd s n).rpl = s.rpl ∧ (refEnd s n).plp = s.plp ∧ (refEnd s n).fsu = s.fsu ∧
    (refEnd s n).settings = s.settings ∧ (refEnd s n).flash = s.flash ∧ (refEnd s n).freeCount = s.freeCount ∧
    (refEnd s n).pending = s.pending := by
  unfold refEnd
  first
    | simp; done
    | try dsimp only
      repeat' split
      all_goals simp

@[simp] theorem gateEnd_frame (n : Nat) : 
    (gateEnd s n).mainPowered = s.mainPowered ∧ (gateEnd s n).mwt = s.mwt ∧ (gateEnd s n).plp = s.plp ∧
    (gateEnd s n).settings = s.settings ∧ (gateEnd s n).flash = s.flash ∧
    (gateEnd s n).freeCount = s.freeCount ∧ (gateEnd s n).pending = s.pending := by
  unfold gateEnd
  first
    | simp; done
    | try dsimp only
      repeat' split
      all_goals simp

@[simp] theorem periodEnds_frame (n : Nat) : 
    (periodEnds s n).mainPowered = s.mainPowered ∧ (periodEnds s n).mwt = s.mwt ∧ (periodEnds s n).plp = s.plp ∧
    (periodEnds s n).settings = s.settings ∧ (periodEnds s n).flash = s.flash ∧
    (periodEnds s n).freeCount = s.freeCount ∧ (periodEnds s n).pending = s.pending := by
  unfold periodEnds
  first
    | simp; done
    | try dsimp only
      repeat' split
      all_goals simp

@[simp] theorem periodExpires_frame : 
    (periodExpires s).mainPowered = s.mainPowered ∧ (periodExpires s).mwt = s.mwt ∧
    (periodExpires s).plp = s.plp ∧ (periodExpires s).settings = s.settings ∧
    (periodExpires s).flash = s.flash ∧ (periodExpires s).freeCount = s.freeCount ∧
    (periodExpires s).pending = s.pending := by
  unfold periodExpires
  first
    | simp; done
    | try dsimp only
      repeat' split
      all_goals simp

@[simp] theorem exhEnds_frame (e : ExhEnd) : 
    (exhEnds s e).mainPowered = s.mainPowered ∧ (exhEnds s e).mwt = s.mwt ∧ (exhEnds s e).plp = s.plp ∧
    (exhEnds s e).settings = s.settings ∧ (exhEnds s e).flash = s.flash ∧
    (exhEnds s e).freeCount = s.freeCount ∧ (exhEnds s e).pending = s.pending := by
  unfold exhEnds
  first
    | simp; done
    | try dsimp only
      repeat' split
      all_goals simp

@[simp] theorem strapDone_frame (l : List (Option Nat)) : 
    (strapDone s l).mainPowered = s.mainPowered ∧ (strapDone s l).csq = s.csq ∧ (strapDone s l).dwn = s.dwn ∧
    (strapDone s l).ost = s.ost ∧ (strapDone s l).mwt = s.mwt ∧ (strapDone s l).pjr = s.pjr ∧
    (strapDone s l).hdm = s.hdm ∧ (strapDone s l).rpl = s.rpl ∧ (strapDone s l).settings = s.settings ∧
    (strapDone s l).flash = s.flash ∧ (strapDone s l).freeCount = s.freeCount ∧
    (strapDone s l).pending = s.pending := by
  unfold strapDone
  first
    | simp; done
    | try dsimp only
      repeat' split
      all_goals simp

@[simp] theorem strapPairEnd_frame (l : Option Nat) : 
    (strapPairEnd s l).mainPowered = s.mainPowered ∧ (strapPairEnd s l).csq = s.csq ∧
    (strapPairEnd s l).dwn = s.dwn ∧ (strapPairEnd s l).ost = s.ost ∧ (strapPairEnd s l).mwt = s.mwt ∧
    (strapPairEnd s l).pjr = s.pjr ∧ (strapPairEnd s l).hdm = s.hdm ∧ (strapPairEnd s l).rpl = s.rpl ∧
    (strapPairEnd s l).settings = s.settings ∧ (strapPairEnd s l).flash = s.flash ∧
    (strapPairEnd s l).freeCount = s.freeCount ∧ (strapPairEnd s l).pending = s.pending := by
  unfold strapPairEnd
  first
    | simp; done
    | try dsimp only
      repeat' split
      all_goals simp

@[simp] theorem strapRefEnd_frame (n : Nat) : 
    (strapRefEnd s n).mainPowered = s.mainPowered ∧ (strapRefEnd s n).csq = s.csq ∧
    (strapRefEnd s n).dwn = s.dwn ∧ (strapRefEnd s n).ost = s.ost ∧ (strapRefEnd s n).mwt = s.mwt ∧
    (strapRefEnd s n).pjr = s.pjr ∧ (strapRefEnd s n).hdm = s.hdm ∧ (strapRefEnd s n).rpl = s.rpl ∧
    (strapRefEnd s n).plp = s.plp ∧ (strapRefEnd s n).fsu = s.fsu ∧ (strapRefEnd s n).pnl = s.pnl ∧
    (strapRefEnd s n).settings = s.settings ∧ (strapRefEnd s n).flash = s.flash ∧
    (strapRefEnd s n).freeCount = s.freeCount ∧ (strapRefEnd s n).pending = s.pending := by
  unfold strapRefEnd
  first
    | simp; done
    | try dsimp only
      repeat' split
      all_goals simp

@[simp] theorem strapEnd_frame (n : Nat) : 
    (strapEnd s n).mainPowered = s.mainPowered ∧ (strapEnd s n).csq = s.csq ∧ (strapEnd s n).dwn = s.dwn ∧
    (strapEnd s n).ost = s.ost ∧ (strapEnd s n).mwt = s.mwt ∧ (strapEnd s n).pjr = s.pjr ∧
    (strapEnd s n).hdm = s.hdm ∧ (strapEnd s n).rpl = s.rpl ∧ (strapEnd s n).settings = s.settings ∧
    (strapEnd s n).flash = s.flash ∧ (strapEnd s n).freeCount = s.freeCount ∧ (strapEnd s n).pending = s.pending := by
  unfold strapEnd
  first
    | simp; done
    | try dsimp only
      repeat' split
      all_goals simp

/-! ## Second -/

@[simp] theorem countSecond_frame : 
    (countSecond s).mainPowered = s.mainPowered ∧ (countSecond s).scv = s.scv ∧ (countSecond s).dwn = s.dwn ∧
    (countSecond s).ost = s.ost ∧ (countSecond s).mwt = s.mwt ∧ (countSecond s).pjr = s.pjr ∧
    (countSecond s).hdm = s.hdm ∧ (countSecond s).rpl = s.rpl ∧ (countSecond s).plp = s.plp ∧
    (countSecond s).fsu = s.fsu ∧ (countSecond s).pnl = s.pnl ∧ (countSecond s).settings = s.settings ∧
    (countSecond s).flash = s.flash ∧ (countSecond s).freeCount = s.freeCount ∧
    (countSecond s).pending = s.pending := by
  unfold countSecond
  first
    | simp; done
    | try dsimp only
      repeat' split
      all_goals simp

@[simp] theorem drySecond_frame : 
    (drySecond s).mainPowered = s.mainPowered ∧ (drySecond s).csq = s.csq ∧ (drySecond s).scv = s.scv ∧
    (drySecond s).ost = s.ost ∧ (drySecond s).mwt = s.mwt ∧ (drySecond s).pjr = s.pjr ∧
    (drySecond s).hdm = s.hdm ∧ (drySecond s).rpl = s.rpl ∧ (drySecond s).plp = s.plp ∧
    (drySecond s).fsu = s.fsu ∧ (drySecond s).pnl = s.pnl ∧ (drySecond s).settings = s.settings ∧
    (drySecond s).flash = s.flash ∧ (drySecond s).freeCount = s.freeCount ∧ (drySecond s).pending = s.pending := by
  unfold drySecond
  first
    | simp; done
    | try dsimp only
      repeat' split
      all_goals simp

@[simp] theorem faultMove_frame : 
    (faultMove s).mainPowered = s.mainPowered ∧ (faultMove s).scv = s.scv ∧ (faultMove s).dwn = s.dwn ∧
    (faultMove s).ost = s.ost ∧ (faultMove s).mwt = s.mwt ∧ (faultMove s).hdm = s.hdm ∧
    (faultMove s).plp = s.plp ∧ (faultMove s).fsu = s.fsu ∧ (faultMove s).settings = s.settings ∧
    (faultMove s).flash = s.flash ∧ (faultMove s).freeCount = s.freeCount ∧ (faultMove s).pending = s.pending := by
  unfold faultMove
  first
    | simp; done
    | try dsimp only
      repeat' split
      all_goals simp

@[simp] theorem testMove_frame : 
    (testMove s).mainPowered = s.mainPowered ∧ (testMove s).scv = s.scv ∧ (testMove s).dwn = s.dwn ∧
    (testMove s).ost = s.ost ∧ (testMove s).mwt = s.mwt ∧ (testMove s).hdm = s.hdm ∧ (testMove s).plp = s.plp ∧
    (testMove s).fsu = s.fsu ∧ (testMove s).settings = s.settings ∧ (testMove s).flash = s.flash ∧
    (testMove s).freeCount = s.freeCount ∧ (testMove s).pending = s.pending := by
  unfold testMove
  first
    | simp; done
    | try dsimp only
      repeat' split
      all_goals simp

@[simp] theorem ownMoves_frame (st : CycleState) : 
    (ownMoves s st).mainPowered = s.mainPowered ∧ (ownMoves s st).scv = s.scv ∧ (ownMoves s st).dwn = s.dwn ∧
    (ownMoves s st).ost = s.ost ∧ (ownMoves s st).mwt = s.mwt ∧ (ownMoves s st).hdm = s.hdm ∧
    (ownMoves s st).plp = s.plp ∧ (ownMoves s st).fsu = s.fsu ∧ (ownMoves s st).settings = s.settings ∧
    (ownMoves s st).flash = s.flash ∧ (ownMoves s st).freeCount = s.freeCount ∧
    (ownMoves s st).pending = s.pending := by
  unfold ownMoves
  first
    | simp; done
    | try dsimp only
      repeat' split
      all_goals simp

@[simp] theorem dryMove_frame (b : Bool) : 
    (dryMove s b).mainPowered = s.mainPowered ∧ (dryMove s b).scv = s.scv ∧ (dryMove s b).dwn = s.dwn ∧
    (dryMove s b).ost = s.ost ∧ (dryMove s b).mwt = s.mwt ∧ (dryMove s b).hdm = s.hdm ∧
    (dryMove s b).plp = s.plp ∧ (dryMove s b).fsu = s.fsu ∧ (dryMove s b).settings = s.settings ∧
    (dryMove s b).flash = s.flash ∧ (dryMove s b).freeCount = s.freeCount ∧ (dryMove s b).pending = s.pending := by
  unfold dryMove
  first
    | simp; done
    | try dsimp only
      repeat' split
      all_goals simp

@[simp] theorem progressMove_frame : 
    (progressMove s).mainPowered = s.mainPowered ∧ (progressMove s).scv = s.scv ∧ (progressMove s).dwn = s.dwn ∧
    (progressMove s).ost = s.ost ∧ (progressMove s).mwt = s.mwt ∧ (progressMove s).hdm = s.hdm ∧
    (progressMove s).plp = s.plp ∧ (progressMove s).fsu = s.fsu ∧ (progressMove s).settings = s.settings ∧
    (progressMove s).flash = s.flash ∧ (progressMove s).freeCount = s.freeCount ∧
    (progressMove s).pending = s.pending := by
  unfold progressMove
  first
    | simp; done
    | try dsimp only
      repeat' split
      all_goals simp

@[simp] theorem dryAndOwn_frame (st : CycleState) (a b : Bool) : 
    (dryAndOwn s st a b).mainPowered = s.mainPowered ∧ (dryAndOwn s st a b).scv = s.scv ∧
    (dryAndOwn s st a b).dwn = s.dwn ∧ (dryAndOwn s st a b).ost = s.ost ∧ (dryAndOwn s st a b).mwt = s.mwt ∧
    (dryAndOwn s st a b).hdm = s.hdm ∧ (dryAndOwn s st a b).plp = s.plp ∧ (dryAndOwn s st a b).fsu = s.fsu ∧
    (dryAndOwn s st a b).settings = s.settings ∧ (dryAndOwn s st a b).flash = s.flash ∧
    (dryAndOwn s st a b).freeCount = s.freeCount ∧ (dryAndOwn s st a b).pending = s.pending := by
  unfold dryAndOwn
  first
    | simp; done
    | try dsimp only
      repeat' split
      all_goals simp

@[simp] theorem allMoves_frame (a b c d : Bool) : 
    (allMoves s a b c d).mainPowered = s.mainPowered ∧ (allMoves s a b c d).scv = s.scv ∧
    (allMoves s a b c d).dwn = s.dwn ∧ (allMoves s a b c d).mwt = s.mwt ∧ (allMoves s a b c d).hdm = s.hdm ∧
    (allMoves s a b c d).plp = s.plp ∧ (allMoves s a b c d).fsu = s.fsu ∧
    (allMoves s a b c d).settings = s.settings ∧ (allMoves s a b c d).flash = s.flash ∧
    (allMoves s a b c d).freeCount = s.freeCount ∧ (allMoves s a b c d).pending = s.pending := by
  unfold allMoves
  first
    | simp; done
    | try dsimp only
      repeat' split
      all_goals simp

@[simp] theorem orderWhen_frame (b : Bool) : 
    ((orderWhen b s).2).mainPowered = s.mainPowered ∧ ((orderWhen b s).2).csq = s.csq ∧
    ((orderWhen b s).2).scv = s.scv ∧ ((orderWhen b s).2).dwn = s.dwn ∧ ((orderWhen b s).2).ost = s.ost ∧
    ((orderWhen b s).2).mwt = s.mwt ∧ ((orderWhen b s).2).pjr = s.pjr ∧ ((orderWhen b s).2).hdm = s.hdm ∧
    ((orderWhen b s).2).rpl = s.rpl ∧ ((orderWhen b s).2).plp = s.plp ∧ ((orderWhen b s).2).fsu = s.fsu ∧
    ((orderWhen b s).2).pnl = s.pnl ∧ ((orderWhen b s).2).settings = s.settings ∧
    ((orderWhen b s).2).flash = s.flash ∧ ((orderWhen b s).2).pending = s.pending := by
  cases b <;> simp [orderWhen, takeChoice]

@[simp] theorem moveSecond_frame (b : Bool) : 
    (moveSecond s b).mainPowered = s.mainPowered ∧ (moveSecond s b).scv = s.scv ∧ (moveSecond s b).dwn = s.dwn ∧
    (moveSecond s b).mwt = s.mwt ∧ (moveSecond s b).hdm = s.hdm ∧ (moveSecond s b).plp = s.plp ∧
    (moveSecond s b).fsu = s.fsu ∧ (moveSecond s b).settings = s.settings ∧ (moveSecond s b).flash = s.flash ∧
    (moveSecond s b).pending = s.pending := by
  unfold moveSecond
  first
    | simp; done
    | try dsimp only
      repeat' split
      all_goals simp

@[simp] theorem secondBody_frame : 
    (secondBody s).mainPowered = s.mainPowered ∧ (secondBody s).scv = s.scv ∧ (secondBody s).mwt = s.mwt ∧
    (secondBody s).hdm = s.hdm ∧ (secondBody s).plp = s.plp ∧ (secondBody s).fsu = s.fsu ∧
    (secondBody s).settings = s.settings ∧ (secondBody s).flash = s.flash ∧ (secondBody s).pending = s.pending := by
  unfold secondBody
  first
    | simp; done
    | try dsimp only
      repeat' split
      all_goals simp

/-! ## Line -/

@[simp] theorem deliverNotice_frame (n : Notice) : 
    (deliverNotice s n).mainPowered = s.mainPowered ∧ (deliverNotice s n).csq = s.csq ∧
    (deliverNotice s n).scv = s.scv ∧ (deliverNotice s n).dwn = s.dwn ∧ (deliverNotice s n).ost = s.ost ∧
    (deliverNotice s n).mwt = s.mwt ∧ (deliverNotice s n).pjr = s.pjr ∧ (deliverNotice s n).hdm = s.hdm ∧
    (deliverNotice s n).rpl = s.rpl ∧ (deliverNotice s n).plp = s.plp ∧ (deliverNotice s n).pnl = s.pnl ∧
    (deliverNotice s n).settings = s.settings ∧ (deliverNotice s n).flash = s.flash ∧
    (deliverNotice s n).freeCount = s.freeCount ∧ (deliverNotice s n).pending = s.pending := by
  unfold deliverNotice
  first
    | simp; done
    | try dsimp only
      repeat' split
      all_goals simp

@[simp] theorem agePeerOut_frame (id : Nat) : 
    (agePeerOut s id).mainPowered = s.mainPowered ∧ (agePeerOut s id).csq = s.csq ∧
    (agePeerOut s id).scv = s.scv ∧ (agePeerOut s id).dwn = s.dwn ∧ (agePeerOut s id).ost = s.ost ∧
    (agePeerOut s id).mwt = s.mwt ∧ (agePeerOut s id).pjr = s.pjr ∧ (agePeerOut s id).hdm = s.hdm ∧
    (agePeerOut s id).rpl = s.rpl ∧ (agePeerOut s id).plp = s.plp ∧ (agePeerOut s id).pnl = s.pnl ∧
    (agePeerOut s id).settings = s.settings ∧ (agePeerOut s id).flash = s.flash ∧
    (agePeerOut s id).freeCount = s.freeCount ∧ (agePeerOut s id).pending = s.pending := by
  unfold agePeerOut
  first
    | simp; done
    | try dsimp only
      repeat' split
      all_goals simp

@[simp] theorem frameJudged_frame (b : List Byte) : 
    (frameJudged s b).mainPowered = s.mainPowered ∧ (frameJudged s b).csq = s.csq ∧
    (frameJudged s b).scv = s.scv ∧ (frameJudged s b).dwn = s.dwn ∧ (frameJudged s b).ost = s.ost ∧
    (frameJudged s b).mwt = s.mwt ∧ (frameJudged s b).pjr = s.pjr ∧ (frameJudged s b).hdm = s.hdm ∧
    (frameJudged s b).rpl = s.rpl ∧ (frameJudged s b).settings = s.settings ∧
    (frameJudged s b).flash = s.flash ∧ (frameJudged s b).freeCount = s.freeCount ∧
    (frameJudged s b).pending = s.pending := by
  unfold frameJudged
  generalize judgeFrame s.scv.stationId s.plp.echo b = v
  cases v <;> simp

@[simp] theorem goodCharacter_frame (b : Byte) (f : Bool) : 
    (goodCharacter s b f).mainPowered = s.mainPowered ∧ (goodCharacter s b f).csq = s.csq ∧
    (goodCharacter s b f).scv = s.scv ∧ (goodCharacter s b f).dwn = s.dwn ∧ (goodCharacter s b f).ost = s.ost ∧
    (goodCharacter s b f).mwt = s.mwt ∧ (goodCharacter s b f).pjr = s.pjr ∧ (goodCharacter s b f).hdm = s.hdm ∧
    (goodCharacter s b f).rpl = s.rpl ∧ (goodCharacter s b f).settings = s.settings ∧
    (goodCharacter s b f).flash = s.flash ∧ (goodCharacter s b f).freeCount = s.freeCount ∧
    (goodCharacter s b f).pending = s.pending := by
  unfold goodCharacter
  first
    | simp; done
    | try dsimp only
      repeat' split
      all_goals simp

@[simp] theorem badCharacter_frame : 
    (badCharacter s).mainPowered = s.mainPowered ∧ (badCharacter s).csq = s.csq ∧ (badCharacter s).scv = s.scv ∧
    (badCharacter s).dwn = s.dwn ∧ (badCharacter s).ost = s.ost ∧ (badCharacter s).mwt = s.mwt ∧
    (badCharacter s).pjr = s.pjr ∧ (badCharacter s).hdm = s.hdm ∧ (badCharacter s).rpl = s.rpl ∧
    (badCharacter s).fsu = s.fsu ∧ (badCharacter s).pnl = s.pnl ∧ (badCharacter s).settings = s.settings ∧
    (badCharacter s).flash = s.flash ∧ (badCharacter s).freeCount = s.freeCount ∧
    (badCharacter s).pending = s.pending := by
  unfold badCharacter
  first
    | simp; done
    | try dsimp only
      repeat' split
      all_goals simp

@[simp] theorem takeCharacter_frame (b : Byte) (f g : Bool) : 
    (takeCharacter s b f g).mainPowered = s.mainPowered ∧ (takeCharacter s b f g).csq = s.csq ∧
    (takeCharacter s b f g).scv = s.scv ∧ (takeCharacter s b f g).dwn = s.dwn ∧
    (takeCharacter s b f g).ost = s.ost ∧ (takeCharacter s b f g).mwt = s.mwt ∧
    (takeCharacter s b f g).pjr = s.pjr ∧ (takeCharacter s b f g).hdm = s.hdm ∧
    (takeCharacter s b f g).rpl = s.rpl ∧ (takeCharacter s b f g).settings = s.settings ∧
    (takeCharacter s b f g).flash = s.flash ∧ (takeCharacter s b f g).freeCount = s.freeCount ∧
    (takeCharacter s b f g).pending = s.pending := by
  unfold takeCharacter
  first
    | simp; done
    | try dsimp only
      repeat' split
      all_goals simp

@[simp] theorem character_frame (d : Option Byte) (f g : Bool) : 
    (character s d f g).mainPowered = s.mainPowered ∧ (character s d f g).csq = s.csq ∧
    (character s d f g).scv = s.scv ∧ (character s d f g).dwn = s.dwn ∧ (character s d f g).ost = s.ost ∧
    (character s d f g).mwt = s.mwt ∧ (character s d f g).pjr = s.pjr ∧ (character s d f g).hdm = s.hdm ∧
    (character s d f g).rpl = s.rpl ∧ (character s d f g).settings = s.settings ∧
    (character s d f g).flash = s.flash ∧ (character s d f g).freeCount = s.freeCount ∧
    (character s d f g).pending = s.pending := by
  unfold character
  first
    | simp; done
    | try dsimp only
      repeat' split
      all_goals simp

@[simp] theorem lineRestored_frame : 
    (lineRestored s).mainPowered = s.mainPowered ∧ (lineRestored s).csq = s.csq ∧ (lineRestored s).scv = s.scv ∧
    (lineRestored s).dwn = s.dwn ∧ (lineRestored s).ost = s.ost ∧ (lineRestored s).mwt = s.mwt ∧
    (lineRestored s).pjr = s.pjr ∧ (lineRestored s).hdm = s.hdm ∧ (lineRestored s).rpl = s.rpl ∧
    (lineRestored s).pnl = s.pnl ∧ (lineRestored s).settings = s.settings ∧ (lineRestored s).flash = s.flash ∧
    (lineRestored s).freeCount = s.freeCount ∧ (lineRestored s).pending = s.pending := by
  unfold lineRestored
  first
    | simp; done
    | try dsimp only
      repeat' split
      all_goals simp

@[simp] theorem lineBecomesIdle_frame : 
    (lineBecomesIdle s).mainPowered = s.mainPowered ∧ (lineBecomesIdle s).csq = s.csq ∧
    (lineBecomesIdle s).scv = s.scv ∧ (lineBecomesIdle s).dwn = s.dwn ∧ (lineBecomesIdle s).ost = s.ost ∧
    (lineBecomesIdle s).mwt = s.mwt ∧ (lineBecomesIdle s).pjr = s.pjr ∧ (lineBecomesIdle s).hdm = s.hdm ∧
    (lineBecomesIdle s).rpl = s.rpl ∧ (lineBecomesIdle s).pnl = s.pnl ∧
    (lineBecomesIdle s).settings = s.settings ∧ (lineBecomesIdle s).flash = s.flash ∧
    (lineBecomesIdle s).freeCount = s.freeCount ∧ (lineBecomesIdle s).pending = s.pending := by
  unfold lineBecomesIdle
  first
    | simp; done
    | try dsimp only
      repeat' split
      all_goals simp

@[simp] theorem coverAnnounced_frame : 
    (coverAnnounced s).mainPowered = s.mainPowered ∧ (coverAnnounced s).csq = s.csq ∧
    (coverAnnounced s).scv = s.scv ∧ (coverAnnounced s).dwn = s.dwn ∧ (coverAnnounced s).ost = s.ost ∧
    (coverAnnounced s).mwt = s.mwt ∧ (coverAnnounced s).pjr = s.pjr ∧ (coverAnnounced s).hdm = s.hdm ∧
    (coverAnnounced s).rpl = s.rpl ∧ (coverAnnounced s).plp = s.plp ∧ (coverAnnounced s).pnl = s.pnl ∧
    (coverAnnounced s).settings = s.settings ∧ (coverAnnounced s).flash = s.flash ∧
    (coverAnnounced s).freeCount = s.freeCount ∧ (coverAnnounced s).pending = s.pending := by
  unfold coverAnnounced
  first
    | simp; done
    | try dsimp only
      repeat' split
      all_goals simp

@[simp] theorem endIsolation_frame : 
    (endIsolation s).mainPowered = s.mainPowered ∧ (endIsolation s).csq = s.csq ∧ (endIsolation s).scv = s.scv ∧
    (endIsolation s).dwn = s.dwn ∧ (endIsolation s).ost = s.ost ∧ (endIsolation s).mwt = s.mwt ∧
    (endIsolation s).pjr = s.pjr ∧ (endIsolation s).hdm = s.hdm ∧ (endIsolation s).rpl = s.rpl ∧
    (endIsolation s).plp = s.plp ∧ (endIsolation s).settings = s.settings ∧ (endIsolation s).flash = s.flash ∧
    (endIsolation s).freeCount = s.freeCount ∧ (endIsolation s).pending = s.pending := by
  unfold endIsolation
  first
    | simp; done
    | try dsimp only
      repeat' split
      all_goals simp

@[simp] theorem noticeSent_frame : 
    (noticeSent s).mainPowered = s.mainPowered ∧ (noticeSent s).csq = s.csq ∧ (noticeSent s).scv = s.scv ∧
    (noticeSent s).dwn = s.dwn ∧ (noticeSent s).ost = s.ost ∧ (noticeSent s).mwt = s.mwt ∧
    (noticeSent s).pjr = s.pjr ∧ (noticeSent s).hdm = s.hdm ∧ (noticeSent s).rpl = s.rpl ∧
    (noticeSent s).settings = s.settings ∧ (noticeSent s).flash = s.flash ∧
    (noticeSent s).freeCount = s.freeCount ∧ (noticeSent s).pending = s.pending := by
  unfold noticeSent
  first
    | simp; done
    | try dsimp only
      repeat' split
      all_goals simp

@[simp] theorem failStep_frame (a : Bool) (k : CoverStep) : 
    (failStep s a k).mainPowered = s.mainPowered ∧ (failStep s a k).csq = s.csq ∧ (failStep s a k).scv = s.scv ∧
    (failStep s a k).dwn = s.dwn ∧ (failStep s a k).ost = s.ost ∧ (failStep s a k).mwt = s.mwt ∧
    (failStep s a k).pjr = s.pjr ∧ (failStep s a k).hdm = s.hdm ∧ (failStep s a k).rpl = s.rpl ∧
    (failStep s a k).pnl = s.pnl ∧ (failStep s a k).settings = s.settings ∧ (failStep s a k).flash = s.flash ∧
    (failStep s a k).freeCount = s.freeCount ∧ (failStep s a k).pending = s.pending := by
  unfold failStep
  first
    | simp; done
    | try dsimp only
      repeat' split
      all_goals simp

@[simp] theorem txFailed_frame (n : Notice) : 
    (txFailed s n).mainPowered = s.mainPowered ∧ (txFailed s n).csq = s.csq ∧ (txFailed s n).scv = s.scv ∧
    (txFailed s n).dwn = s.dwn ∧ (txFailed s n).ost = s.ost ∧ (txFailed s n).mwt = s.mwt ∧
    (txFailed s n).pjr = s.pjr ∧ (txFailed s n).hdm = s.hdm ∧ (txFailed s n).rpl = s.rpl ∧
    (txFailed s n).pnl = s.pnl ∧ (txFailed s n).settings = s.settings ∧ (txFailed s n).flash = s.flash ∧
    (txFailed s n).freeCount = s.freeCount ∧ (txFailed s n).pending = s.pending := by
  unfold txFailed
  first
    | simp; done
    | try dsimp only
      repeat' split
      all_goals simp

@[simp] theorem slotFails_frame : 
    (slotFails s).mainPowered = s.mainPowered ∧ (slotFails s).csq = s.csq ∧ (slotFails s).scv = s.scv ∧
    (slotFails s).dwn = s.dwn ∧ (slotFails s).ost = s.ost ∧ (slotFails s).mwt = s.mwt ∧
    (slotFails s).pjr = s.pjr ∧ (slotFails s).hdm = s.hdm ∧ (slotFails s).rpl = s.rpl ∧
    (slotFails s).settings = s.settings ∧ (slotFails s).flash = s.flash ∧
    (slotFails s).freeCount = s.freeCount ∧ (slotFails s).pending = s.pending := by
  cases h : s.plp.slot <;> simp [slotFails, h]

@[simp] theorem collision_frame : 
    (collision s).mainPowered = s.mainPowered ∧ (collision s).csq = s.csq ∧ (collision s).scv = s.scv ∧
    (collision s).dwn = s.dwn ∧ (collision s).ost = s.ost ∧ (collision s).mwt = s.mwt ∧
    (collision s).pjr = s.pjr ∧ (collision s).hdm = s.hdm ∧ (collision s).rpl = s.rpl ∧
    (collision s).settings = s.settings ∧ (collision s).flash = s.flash ∧
    (collision s).freeCount = s.freeCount ∧ (collision s).pending = s.pending := by
  unfold collision
  first
    | simp; done
    | try dsimp only
      repeat' split
      all_goals simp

@[simp] theorem backoffEnds_frame : 
    (backoffEnds s).mainPowered = s.mainPowered ∧ (backoffEnds s).csq = s.csq ∧ (backoffEnds s).scv = s.scv ∧
    (backoffEnds s).dwn = s.dwn ∧ (backoffEnds s).ost = s.ost ∧ (backoffEnds s).mwt = s.mwt ∧
    (backoffEnds s).pjr = s.pjr ∧ (backoffEnds s).hdm = s.hdm ∧ (backoffEnds s).rpl = s.rpl ∧
    (backoffEnds s).fsu = s.fsu ∧ (backoffEnds s).pnl = s.pnl ∧ (backoffEnds s).settings = s.settings ∧
    (backoffEnds s).flash = s.flash ∧ (backoffEnds s).freeCount = s.freeCount ∧
    (backoffEnds s).pending = s.pending := by
  unfold backoffEnds
  first
    | simp; done
    | try dsimp only
      repeat' split
      all_goals simp

@[simp] theorem stuckLow_frame : 
    (stuckLow s).mainPowered = s.mainPowered ∧ (stuckLow s).csq = s.csq ∧ (stuckLow s).scv = s.scv ∧
    (stuckLow s).dwn = s.dwn ∧ (stuckLow s).ost = s.ost ∧ (stuckLow s).mwt = s.mwt ∧ (stuckLow s).pjr = s.pjr ∧
    (stuckLow s).hdm = s.hdm ∧ (stuckLow s).rpl = s.rpl ∧ (stuckLow s).settings = s.settings ∧
    (stuckLow s).flash = s.flash ∧ (stuckLow s).freeCount = s.freeCount ∧ (stuckLow s).pending = s.pending := by
  unfold stuckLow
  first
    | simp; done
    | try dsimp only
      repeat' split
      all_goals simp

@[simp] theorem noticeTimerEnds_frame : 
    (noticeTimerEnds s).mainPowered = s.mainPowered ∧ (noticeTimerEnds s).csq = s.csq ∧
    (noticeTimerEnds s).scv = s.scv ∧ (noticeTimerEnds s).dwn = s.dwn ∧ (noticeTimerEnds s).ost = s.ost ∧
    (noticeTimerEnds s).mwt = s.mwt ∧ (noticeTimerEnds s).pjr = s.pjr ∧ (noticeTimerEnds s).hdm = s.hdm ∧
    (noticeTimerEnds s).rpl = s.rpl ∧ (noticeTimerEnds s).pnl = s.pnl ∧
    (noticeTimerEnds s).settings = s.settings ∧ (noticeTimerEnds s).flash = s.flash ∧
    (noticeTimerEnds s).freeCount = s.freeCount ∧ (noticeTimerEnds s).pending = s.pending := by
  unfold noticeTimerEnds
  first
    | simp; done
    | try dsimp only
      repeat' split
      all_goals simp

@[simp] theorem settleEnds_frame : 
    (settleEnds s).mainPowered = s.mainPowered ∧ (settleEnds s).csq = s.csq ∧ (settleEnds s).scv = s.scv ∧
    (settleEnds s).dwn = s.dwn ∧ (settleEnds s).ost = s.ost ∧ (settleEnds s).mwt = s.mwt ∧
    (settleEnds s).pjr = s.pjr ∧ (settleEnds s).hdm = s.hdm ∧ (settleEnds s).rpl = s.rpl ∧
    (settleEnds s).plp = s.plp ∧ (settleEnds s).pnl = s.pnl ∧ (settleEnds s).settings = s.settings ∧
    (settleEnds s).flash = s.flash ∧ (settleEnds s).freeCount = s.freeCount ∧ (settleEnds s).pending = s.pending := by
  unfold settleEnds
  first
    | simp; done
    | try dsimp only
      repeat' split
      all_goals simp

@[simp] theorem listenInEnds_frame : 
    (listenInEnds s).mainPowered = s.mainPowered ∧ (listenInEnds s).csq = s.csq ∧ (listenInEnds s).scv = s.scv ∧
    (listenInEnds s).dwn = s.dwn ∧ (listenInEnds s).ost = s.ost ∧ (listenInEnds s).mwt = s.mwt ∧
    (listenInEnds s).pjr = s.pjr ∧ (listenInEnds s).hdm = s.hdm ∧ (listenInEnds s).rpl = s.rpl ∧
    (listenInEnds s).plp = s.plp ∧ (listenInEnds s).pnl = s.pnl ∧ (listenInEnds s).settings = s.settings ∧
    (listenInEnds s).flash = s.flash ∧ (listenInEnds s).freeCount = s.freeCount ∧
    (listenInEnds s).pending = s.pending := by
  unfold listenInEnds
  first
    | simp; done
    | try dsimp only
      repeat' split
      all_goals simp

/-! ## Holdover -/

@[simp] theorem holdoverSecond_frame : 
    (holdoverSecond s).mainPowered = s.mainPowered ∧ (holdoverSecond s).scv = s.scv ∧
    (holdoverSecond s).dwn = s.dwn ∧ (holdoverSecond s).ost = s.ost ∧ (holdoverSecond s).mwt = s.mwt ∧
    (holdoverSecond s).plp = s.plp ∧ (holdoverSecond s).fsu = s.fsu ∧ (holdoverSecond s).settings = s.settings ∧
    (holdoverSecond s).flash = s.flash ∧ (holdoverSecond s).freeCount = s.freeCount ∧
    (holdoverSecond s).pending = s.pending := by
  unfold holdoverSecond
  first
    | simp; done
    | try dsimp only
      repeat' split
      all_goals simp

@[simp] theorem crystalStops_frame : 
    (crystalStops s).mainPowered = s.mainPowered ∧ (crystalStops s).csq = s.csq ∧ (crystalStops s).scv = s.scv ∧
    (crystalStops s).dwn = s.dwn ∧ (crystalStops s).ost = s.ost ∧ (crystalStops s).mwt = s.mwt ∧
    (crystalStops s).pjr = s.pjr ∧ (crystalStops s).rpl = s.rpl ∧ (crystalStops s).plp = s.plp ∧
    (crystalStops s).fsu = s.fsu ∧ (crystalStops s).settings = s.settings ∧ (crystalStops s).flash = s.flash ∧
    (crystalStops s).freeCount = s.freeCount ∧ (crystalStops s).pending = s.pending := by
  unfold crystalStops
  first
    | simp; done
    | try dsimp only
      repeat' split
      all_goals simp

@[simp] theorem viewChanges_frame (b : Bool) : 
    (viewChanges s b).mainPowered = s.mainPowered ∧ (viewChanges s b).csq = s.csq ∧
    (viewChanges s b).scv = s.scv ∧ (viewChanges s b).dwn = s.dwn ∧ (viewChanges s b).ost = s.ost ∧
    (viewChanges s b).mwt = s.mwt ∧ (viewChanges s b).pjr = s.pjr ∧ (viewChanges s b).rpl = s.rpl ∧
    (viewChanges s b).plp = s.plp ∧ (viewChanges s b).fsu = s.fsu ∧ (viewChanges s b).pnl = s.pnl ∧
    (viewChanges s b).settings = s.settings ∧ (viewChanges s b).flash = s.flash ∧
    (viewChanges s b).freeCount = s.freeCount ∧ (viewChanges s b).pending = s.pending := by
  unfold viewChanges
  first
    | simp; done
    | try dsimp only
      repeat' split
      all_goals simp

@[simp] theorem raiseHoldover_frame : 
    (raiseHoldover s).mainPowered = s.mainPowered ∧ (raiseHoldover s).csq = s.csq ∧
    (raiseHoldover s).scv = s.scv ∧ (raiseHoldover s).dwn = s.dwn ∧ (raiseHoldover s).ost = s.ost ∧
    (raiseHoldover s).mwt = s.mwt ∧ (raiseHoldover s).pjr = s.pjr ∧ (raiseHoldover s).rpl = s.rpl ∧
    (raiseHoldover s).plp = s.plp ∧ (raiseHoldover s).fsu = s.fsu ∧ (raiseHoldover s).pnl = s.pnl ∧
    (raiseHoldover s).settings = s.settings ∧ (raiseHoldover s).flash = s.flash ∧
    (raiseHoldover s).freeCount = s.freeCount ∧ (raiseHoldover s).pending = s.pending := by
  unfold raiseHoldover
  first
    | simp; done
    | try dsimp only
      repeat' split
      all_goals simp

end Sys2Proof.Machine
end

