-- ==== Sys2Proof/Laws/Journal.lean ====
section
/-! SUPPORT. What the start-up scan's tests and its search say of the slots they read: the Boolean tests of a sector are
the properties of R114, and the newest record found is the newest of R115. -/

namespace Sys2Proof.Safety

open Sys2Proof.Machine

theorem allBlank_iff (l : List SlotRead) : allBlank l = true ↔ Blank l := by
  simp [allBlank, Blank]

theorem mem_validRecords (r : Record) (l : List SlotRead) : r ∈ validRecords l ↔ SlotRead.valid r ∈ l := by
  induction l with
  | nil => simp [validRecords]
  | cons x rest ih => cases x <;> simp [validRecords, ih]

theorem gapped_eq_false (l : List SlotRead) :
    gapped l = false ↔ l.Pairwise fun x y => x = .blank → y = .blank := by
  induction l with
  | nil => simp [gapped]
  | cons x rest ih =>
    cases x with
    | blank =>
      simp only [gapped, Bool.not_eq_false', allBlank_iff, Blank, List.pairwise_cons, forall_const]
      refine ⟨fun h => ⟨h, List.pairwise_iff_getElem.mpr fun _ _ _ hj _ _ => h _ (List.getElem_mem hj)⟩, fun h => h.1⟩
    | valid r => simp [gapped, ih]
    | bad => simp [gapped, ih]

theorem disordered_eq_false (rs : List Record) :
    disordered rs = false ↔ rs.Pairwise fun r q => r.sequence < q.sequence := by
  induction rs with
  | nil => simp [disordered]
  | cons r rest ih => simp [disordered, ih]

theorem validRecords_pairwise (l : List SlotRead) :
    (validRecords l).Pairwise (fun r q => r.sequence < q.sequence) ↔
      l.Pairwise fun x y => ∀ r q, x = .valid r → y = .valid q → r.sequence < q.sequence := by
  induction l with
  | nil => simp [validRecords]
  | cons x rest ih =>
    cases x with
    | valid r =>
      simp only [validRecords, List.pairwise_cons, ih, mem_validRecords, SlotRead.valid.injEq]
      refine and_congr_left fun _ => ⟨?_, ?_⟩
      · rintro h y hy _ q rfl rfl
        exact h q hy
      · exact fun h q hq => h _ hq r q rfl rfl
    | blank => simp [validRecords, ih]
    | bad => simp [validRecords, ih]

theorem isTorn_eq_false (l : List SlotRead) : isTorn l = false ↔ ¬ Torn l := by
  simp only [isTorn, Bool.or_eq_false_iff, gapped_eq_false, disordered_eq_false, validRecords_pairwise, Torn, not_or]
  simp only [List.pairwise_iff_getElem]
  refine and_congr ⟨?_, ?_⟩ ⟨?_, ?_⟩
  · rintro h ⟨i, j, x, hij, hi, hj, hx⟩
    obtain ⟨hi, ei⟩ := List.getElem?_eq_some_iff.mp hi
    obtain ⟨hj, ej⟩ := List.getElem?_eq_some_iff.mp hj
    exact hx (ej ▸ h i j hi hj hij ei)
  · intro h i j hi hj hij ei
    exact Decidable.not_not.mp fun hx => h ⟨i, j, l[j], hij, by simp [hi, ei], by simp [hj], hx⟩
  · rintro h ⟨i, j, r, q, hij, hi, hj, hq⟩
    obtain ⟨hi, ei⟩ := List.getElem?_eq_some_iff.mp hi
    obtain ⟨hj, ej⟩ := List.getElem?_eq_some_iff.mp hj
    exact absurd (h i j hi hj hij r q ei ej) (Nat.not_lt.mpr hq)
  · intro h i j hi hj hij r q er eq
    exact Nat.not_le.mp fun hq => h ⟨i, j, r, q, hij, by simp [hi, er], by simp [hj, eq], hq⟩

/-- The scan's test of a sector is the property TORN (R114). -/
theorem isTorn_iff (l : List SlotRead) : isTorn l = true ↔ Torn l := by
  have h := isTorn_eq_false l
  cases hb : isTorn l with
  | false => simpa using h.mp hb
  | true => exact iff_of_true rfl (Classical.not_not.mp fun ht => by simp [h.mpr ht] at hb)

theorem mem_foundIn (k : Nat) (l : List SlotRead) :
    ∀ (i : Nat) (f : Found), f ∈ foundIn k i l ↔
      f.sector = k ∧ ∃ n, f.slot = i + n ∧ l[n]? = some (.valid f.record) := by
  induction l with
  | nil => intro i f; simp [foundIn]
  | cons x rest ih =>
    intro i f
    have step : (∃ n, f.slot = i + 1 + n ∧ rest[n]? = some (.valid f.record)) ↔
        ∃ n, f.slot = i + (n + 1) ∧ rest[n]? = some (.valid f.record) := by
      simp only [Nat.add_assoc, Nat.add_comm 1]
    have split : (∃ n, f.slot = i + n ∧ (x :: rest)[n]? = some (.valid f.record)) ↔
        (f.slot = i ∧ x = .valid f.record) ∨ ∃ n, f.slot = i + (n + 1) ∧ rest[n]? = some (.valid f.record) := by
      constructor
      · rintro ⟨_ | n, h⟩
        · exact .inl (by simpa using h)
        · exact .inr ⟨n, by simpa using h⟩
      · rintro (h | ⟨n, h⟩)
        · exact ⟨0, by simpa using h⟩
        · exact ⟨n + 1, by simpa using h⟩
    rw [split]
    cases x with
    | valid r =>
      simp only [foundIn, List.mem_cons, ih, step, SlotRead.valid.injEq]
      constructor
      · rintro (rfl | ⟨hk, h⟩)
        · exact ⟨rfl, .inl ⟨rfl, rfl⟩⟩
        · exact ⟨hk, .inr h⟩
      · rintro ⟨hk, ⟨hi, hr⟩ | h⟩
        · left; cases f; simp_all
        · exact .inr ⟨hk, h⟩
    | blank => simp [foundIn, ih, step]
    | bad => simp [foundIn, ih, step]

theorem newestOf_none {l : List Found} (h : newestOf l = none) : l = [] := by
  cases l with
  | nil => rfl
  | cons y ys =>
    unfold newestOf at h
    split at h
    · cases h
    · split at h <;> cases h

/-- The search takes the first of the records with the highest sequence. -/
theorem newestOf_some {l : List Found} : ∀ {f : Found}, newestOf l = some f →
    ∃ a b, l = a ++ f :: b ∧ (∀ g ∈ a, g.record.sequence < f.record.sequence) ∧
      ∀ g ∈ b, g.record.sequence ≤ f.record.sequence := by
  induction l with
  | nil => intro f h; simp [newestOf] at h
  | cons x rest ih =>
    intro f h
    unfold newestOf at h
    split at h
    · rename_i hn
      cases h
      exact ⟨[], [], by simp [newestOf_none hn], by simp, by simp⟩
    · rename_i g hg
      obtain ⟨a, b, e, ha, hb⟩ := ih hg
      subst e
      split at h
      · rename_i hlt
        cases h
        exact ⟨x :: a, b, rfl, by simpa [hlt] using ha, hb⟩
      · rename_i hge
        cases h
        refine ⟨[], a ++ g :: b, rfl, by simp, ?_⟩
        intro y hy
        rcases List.mem_append.mp hy with hy | hy
        · have := ha y hy; omega
        · rcases List.mem_cons.mp hy with rfl | hy
          · omega
          · have := hb y hy; omega

theorem slots_readRing (m : List Host.Cell) (k : Nat) (hk : k < 4) : (readRing m).slots k = readSector m k := by
  match k with
  | 0 | 1 | 2 | 3 => rfl
  | n + 4 => omega

/-- The places that the search looks through: the VALID slots of the sectors that are not TORN, in rising order. -/
theorem mem_places (m : List Host.Cell) (k i : Nat) (r : Record) :
    ⟨r, k, i⟩ ∈ (([0, 1, 2, 3].filter fun k => !isTorn ((readRing m).slots k)).flatMap
        fun k => foundIn k 0 ((readRing m).slots k)) ↔
      k < 4 ∧ ¬ Torn (readSector m k) ∧ (readSector m k)[i]? = some (.valid r) := by
  have h4 : ∀ q : Nat, (q ∈ [0, 1, 2, 3]) ↔ q < 4 := by intro q; simp; omega
  simp only [List.mem_flatMap, List.mem_filter, h4, mem_foundIn, Nat.zero_add]
  constructor
  · rintro ⟨q, ⟨hq, ht⟩, rfl, n, rfl, hr⟩
    rw [slots_readRing m _ hq] at ht hr
    exact ⟨hq, (isTorn_eq_false _).mp (by simpa using ht), hr⟩
  · rintro ⟨hk, ht, hr⟩
    refine ⟨k, ⟨hk, ?_⟩, rfl, i, rfl, ?_⟩
    · rw [slots_readRing m k hk, (isTorn_eq_false _).mpr ht]; rfl
    · rw [slots_readRing m k hk]; exact hr

/-- Sectors come in rising order among the places that the search looks through. -/
theorem places_sorted (r : Ring) (ks : List Nat) (h : ks.Pairwise (· < ·)) :
    (ks.flatMap fun k => foundIn k 0 (r.slots k)).Pairwise fun f g => f.sector ≤ g.sector := by
  induction ks with
  | nil => simp
  | cons k rest ih =>
    obtain ⟨h1, h2⟩ := List.pairwise_cons.mp h
    rw [List.flatMap_cons, List.pairwise_append]
    refine ⟨?_, ih h2, ?_⟩
    · refine List.pairwise_iff_getElem.mpr fun i j hi hj _ => ?_
      exact Nat.le_of_eq (((mem_foundIn k _ 0 _).mp (List.getElem_mem hi)).1.trans
        ((mem_foundIn k _ 0 _).mp (List.getElem_mem hj)).1.symm)
    · intro f hf g hg
      obtain ⟨q, hq, hg⟩ := List.mem_flatMap.mp hg
      have := h1 q hq
      have := ((mem_foundIn _ _ _ _).mp hf).1
      have := ((mem_foundIn _ _ _ _).mp hg).1
      omega

/-- What the search finds is the newest record of R115, the lower sector's of two with one number. -/
theorem newest_some {m : List Host.Cell} {f : Found} (h : (readRing m).newest = some f) :
    NewestAt m f.sector f.slot f.record := by
  obtain ⟨a, b, e, ha, hb⟩ := newestOf_some h
  have hf := (mem_places m f.sector f.slot f.record).mp (e ▸ List.mem_append_right a (List.mem_cons_self ..))
  refine ⟨hf.1, hf.2.1, hf.2.2, fun q j r hq ht hr => ?_⟩
  have hsort := places_sorted (readRing m) _
    (List.Pairwise.filter (fun k => !isTorn ((readRing m).slots k)) (by decide : [0, 1, 2, 3].Pairwise (· < ·)))
  have hm := (mem_places m q j r).mpr ⟨hq, ht, hr⟩
  rw [e] at hm hsort
  obtain ⟨-, hs, -⟩ := List.pairwise_append.mp hsort
  rcases List.mem_append.mp hm with hm | hm
  · exact .inl (ha _ hm)
  · rcases List.mem_cons.mp hm with he | hm
    · subst he; exact .inr ⟨rfl, Nat.le_refl _⟩
    · have h1 := hb _ hm
      have h2 := (List.pairwise_cons.mp hs).1 _ hm
      simp only at h1 h2
      omega

/-- The search finds nothing where no sector that is not TORN holds a VALID record. -/
theorem newest_none {m : List Host.Cell} (h : (readRing m).newest = none) (k i : Nat) (r : Record) (hk : k < 4)
    (ht : ¬ Torn (readSector m k)) : (readSector m k)[i]? ≠ some (.valid r) := by
  intro hr
  have hm := (mem_places m k i r).mpr ⟨hk, ht, hr⟩
  rw [newestOf_none h] at hm
  cases hm

/-- Opening the next sector and the erase-ahead test leave the newest record copy. -/
@[simp] theorem openNext_newest (j : Journal) : j.openNext.newest = j.newest := by
  unfold Journal.openNext Journal.setSector Journal.setPtr
  repeat' split
  all_goals rfl

@[simp] theorem eraseAhead_newest (j : Journal) : j.eraseAhead.newest = j.newest := by
  simp only [Journal.eraseAhead]
  split <;> rfl

/-- The newest record copy after a scan is what its search finds (R115). -/
theorem scanned_newest (j : Journal) (m : List Host.Cell) :
    (j.scanned m).newest = (readRing m).newest.map Found.record := by
  simp [Journal.scanned]

/-- Setting JOURNAL_FAULT sets it (R106). -/
theorem setJournalFault_fault (s : State) : (setJournalFault s).pjr.fault = true := by
  simp only [setJournalFault, journalFaultReport_frame]
  split <;> simp

/-- A scan that finds the last of the sequence numbers sets JOURNAL_FAULT (R103, R106). -/
theorem scanComplete_numbersUsed {s : State} {f : Found} (h : s.pjr.scanDone = false)
    (hf : (readRing s.flash).newest = some f) (hn : f.record.sequence = 4294967295) :
    (scanComplete s).pjr.fault = true := by
  have hu : (s.pjr.scanned s.flash).numbersUsed = true := by
    simp [Journal.numbersUsed, scanned_newest, hf, hn]
  simp only [scanComplete, h, hu, if_true, Bool.false_eq_true, if_false]
  exact setJournalFault_fault _

end Sys2Proof.Safety
end

