-- ==== Sys2Proof/Laws/Memory.lean ====
section
/-! SUPPORT. The laws of the flash: its operations keep the canonical form, a byte written reads back, and every other
byte reads as before. -/

namespace Sys2Proof.Machine

/-! ## The canonical form -/

theorem Memory.wfFrom_mono {m : List Host.Cell} {lo hi : Nat} (h : lo ≤ hi)
    (w : Memory.wfFrom hi m = true) : Memory.wfFrom lo m = true := by
  cases m with
  | nil => rfl
  | cons c rest =>
    obtain ⟨b, v⟩ := c
    simp only [Memory.wfFrom, Bool.and_eq_true, decide_eq_true_eq] at w ⊢
    exact ⟨⟨by omega, w.1.2⟩, w.2⟩

theorem Memory.write_wfFrom (a : Nat) (v : Byte) (m : List Host.Cell) :
    ∀ lo, lo ≤ a → Memory.wfFrom lo m = true → Memory.wfFrom lo (Memory.write m a v) = true := by
  induction m with
  | nil =>
    intro lo h _
    unfold Memory.write
    split
    · rfl
    · simp [Memory.wfFrom, *]
  | cons c rest ih =>
    obtain ⟨b, w⟩ := c
    intro lo h hw
    simp only [Memory.wfFrom, Bool.and_eq_true, decide_eq_true_eq] at hw
    obtain ⟨⟨h1, h2⟩, h3⟩ := hw
    unfold Memory.write
    by_cases hab : a < b
    · by_cases hv : v = erasedByte
      · simp [hab, hv, Memory.wfFrom, h1, h2, h3]
      · simp only [hab, hv, if_true, if_false, Memory.wfFrom, Bool.and_eq_true, decide_eq_true_eq]
        exact ⟨⟨h, by simpa using hv⟩, ⟨by omega, h2⟩, h3⟩
    · by_cases he : a = b
      · subst he
        by_cases hv : v = erasedByte
        · simp only [Nat.lt_irrefl, hv, if_true, if_false]
          exact Memory.wfFrom_mono (by omega) h3
        · simp only [Nat.lt_irrefl, hv, if_true, if_false, Memory.wfFrom, Bool.and_eq_true, decide_eq_true_eq]
          exact ⟨⟨h1, by simpa using hv⟩, h3⟩
      · simp only [hab, he, if_false, Memory.wfFrom, Bool.and_eq_true, decide_eq_true_eq]
        exact ⟨⟨h1, h2⟩, ih (b + 1) (by omega) h3⟩

/-- Writing a byte keeps the canonical form. -/
theorem Memory.write_wf {m : List Host.Cell} (h : Memory.wf m = true) (a : Nat) (v : Byte) :
    Memory.wf (Memory.write m a v) = true := Memory.write_wfFrom a v m 0 (Nat.zero_le _) h

/-- Writing bytes keeps the canonical form. -/
theorem Memory.writeBytes_wf (bs : List Byte) :
    ∀ (m : List Host.Cell) (a : Nat), Memory.wf m = true → Memory.wf (Memory.writeBytes m a bs) = true := by
  induction bs with
  | nil => intro m a h; exact h
  | cons v rest ih => intro m a h; exact ih _ _ (Memory.write_wf h a v)

theorem Memory.filter_wfFrom (p : Host.Cell → Bool) (m : List Host.Cell) :
    ∀ lo, Memory.wfFrom lo m = true → Memory.wfFrom lo (m.filter p) = true := by
  induction m with
  | nil => intro lo _; rfl
  | cons c rest ih =>
    obtain ⟨b, w⟩ := c
    intro lo h
    simp only [Memory.wfFrom, Bool.and_eq_true, decide_eq_true_eq] at h
    obtain ⟨⟨h1, h2⟩, h3⟩ := h
    by_cases hp : p (b, w) = true
    · rw [List.filter_cons_of_pos hp]
      simp only [Memory.wfFrom, Bool.and_eq_true, decide_eq_true_eq]
      exact ⟨⟨h1, h2⟩, ih _ h3⟩
    · rw [List.filter_cons_of_neg hp]
      exact Memory.wfFrom_mono (by omega) (ih _ h3)

/-- Erasing keeps the canonical form. -/
theorem Memory.erase_wf {m : List Host.Cell} (h : Memory.wf m = true) (a n : Nat) :
    Memory.wf (Memory.erase m a n) = true := Memory.filter_wfFrom _ m 0 h

/-- A part of a canonical memory is canonical. -/
theorem Memory.within_wf {m : List Host.Cell} (h : Memory.wf m = true) (a n : Nat) :
    Memory.wf (Memory.within m a n) = true := Memory.filter_wfFrom _ m 0 h

/-- Filling a slot keeps the canonical form. -/
theorem putSlot_wf {m : List Host.Cell} (h : Memory.wf m = true) (k i : Nat) (bs : List Byte) :
    Memory.wf (putSlot m k i bs) = true := Memory.writeBytes_wf _ _ _ (Memory.erase_wf h _ _)

/-- A cut-off program leaves the canonical form. -/
theorem tearProgram_wf {m : List Host.Cell} (h : Memory.wf m = true) (n k i : Nat) (r : Record) :
    Memory.wf (tearProgram m n k i r) = true := by
  unfold tearProgram
  split
  · exact h
  · split
    · exact putSlot_wf h _ _ _
    · exact putSlot_wf h _ _ _

theorem tearSlot_wf {m : List Host.Cell} (h : Memory.wf m = true) (n k i : Nat) :
    Memory.wf (tearSlot m n k i) = true := by
  unfold tearSlot
  split
  · exact Memory.erase_wf h _ _
  · split
    · exact h
    · exact putSlot_wf h _ _ _

theorem tearSlots_wf (n k : Nat) (is : List Nat) :
    ∀ m : List Host.Cell, Memory.wf m = true →
      Memory.wf (is.foldl (fun m i => tearSlot m n k i) m) = true := by
  induction is with
  | nil => intro m h; exact h
  | cons i rest ih => intro m h; exact ih _ (tearSlot_wf h n k i)

/-- A cut-off erase leaves the canonical form. -/
theorem tearErase_wf {m : List Host.Cell} (h : Memory.wf m = true) (n k : Nat) :
    Memory.wf (tearErase m n k) = true := tearSlots_wf n k _ m h

/-- A failed erase leaves the canonical form. -/
theorem failErase_wf {m : List Host.Cell} (h : Memory.wf m = true) (n k : Nat) :
    Memory.wf (failErase m n k) = true := by
  unfold failErase
  simp only
  split
  · exact putSlot_wf (tearErase_wf h _ _) _ _ _
  · exact tearErase_wf h _ _

/-- The reset's flash is canonical. -/
theorem reset_flash_wf : Memory.wf State.reset.flash = true := rfl

/-! ## Reads after writes -/

theorem Memory.read_low {m : List Host.Cell} {lo a : Nat} (h : Memory.wfFrom lo m = true) (ha : a < lo) :
    Memory.read m a = erasedByte := by
  induction m generalizing lo with
  | nil => rfl
  | cons c rest ih =>
    obtain ⟨b, w⟩ := c
    simp only [Memory.wfFrom, Bool.and_eq_true, decide_eq_true_eq] at h
    have hne : b ≠ a := by omega
    simp only [Memory.read, hne, if_false]
    exact ih h.2 (by omega)

theorem Memory.read_write_from (a : Nat) (v : Byte) (x : Nat) (m : List Host.Cell) :
    ∀ lo, Memory.wfFrom lo m = true →
      Memory.read (Memory.write m a v) x = if x = a then v else Memory.read m x := by
  induction m with
  | nil =>
    intro lo _
    by_cases hv : v = erasedByte
    · by_cases hx : x = a <;> simp [Memory.write, Memory.read, hv, hx]
    · by_cases hx : x = a
      · simp [Memory.write, Memory.read, hv, hx]
      · simp [Memory.write, Memory.read, hv, hx, Ne.symm hx]
  | cons c rest ih =>
    obtain ⟨b, w⟩ := c
    intro lo h
    have h' := h
    simp only [Memory.wfFrom, Bool.and_eq_true, decide_eq_true_eq] at h'
    obtain ⟨⟨h1, h2⟩, h3⟩ := h'
    unfold Memory.write
    by_cases hab : a < b
    · have hrest : Memory.read ((b, w) :: rest) a = erasedByte := by
        have hne : b ≠ a := by omega
        simp only [Memory.read, hne, if_false]
        exact Memory.read_low h3 (by omega)
      by_cases hv : v = erasedByte
      · by_cases hx : x = a
        · subst hx; simp [hab, hv, hrest]
        · simp [hab, hv, hx]
      · by_cases hx : x = a
        · subst hx; simp [hab, hv, Memory.read]
        · simp [hab, hv, hx, Memory.read, Ne.symm hx]
    · by_cases he : a = b
      · subst he
        by_cases hv : v = erasedByte
        · by_cases hx : x = a
          · subst hx; simp [hv, Memory.read_low h3 (Nat.lt_succ_self _)]
          · simp [hv, hx, Memory.read, Ne.symm hx]
        · by_cases hx : x = a
          · subst hx; simp [hv, Memory.read]
          · simp [hv, hx, Memory.read, Ne.symm hx]
      · simp only [hab, he, if_false, Memory.read]
        rw [ih _ h3]
        by_cases hx : x = a
        · subst hx
          have hne : b ≠ x := fun h => he h.symm
          simp [hne]
        · simp [hx]

/-- A byte written reads back, and every other byte reads as before. -/
theorem Memory.read_write {m : List Host.Cell} (h : Memory.wf m = true) (a : Nat) (v : Byte) (x : Nat) :
    Memory.read (Memory.write m a v) x = if x = a then v else Memory.read m x :=
  Memory.read_write_from a v x m 0 h

/-- Outside the bytes written, every byte reads as before. -/
theorem Memory.read_writeBytes_outside (bs : List Byte) :
    ∀ (m : List Host.Cell) (a x : Nat), Memory.wf m = true → (x < a ∨ a + bs.length ≤ x) →
      Memory.read (Memory.writeBytes m a bs) x = Memory.read m x := by
  induction bs with
  | nil => intro m a x _ _; rfl
  | cons v rest ih =>
    intro m a x h hx
    simp only [List.length_cons] at hx
    unfold Memory.writeBytes
    rw [ih _ _ _ (Memory.write_wf h a v) (by omega), Memory.read_write h]
    have hne : x ≠ a := by omega
    simp [hne]

/-- Outside what is erased, every byte reads as before; inside it reads as the erased value. -/
theorem Memory.read_erase (m : List Host.Cell) (a n x : Nat) :
    Memory.read (Memory.erase m a n) x = if a ≤ x ∧ x < a + n then erasedByte else Memory.read m x := by
  induction m with
  | nil => simp [Memory.erase, Memory.read]
  | cons c rest ih =>
    obtain ⟨b, w⟩ := c
    unfold Memory.erase at ih ⊢
    by_cases hb : a ≤ b ∧ b < a + n
    · have hp : (!(decide (a ≤ b) && decide (b < a + n))) = false := by simp [hb]
      rw [List.filter_cons_of_neg (by simp [hb])]
      rw [ih]
      by_cases hx : a ≤ x ∧ x < a + n
      · simp [hx]
      · have hne : b ≠ x := by intro h; exact hx (h ▸ hb)
        simp [hx, Memory.read, hne]
    · rw [List.filter_cons_of_pos (by simp; omega)]
      simp only [Memory.read]
      rw [ih]
      by_cases he : b = x
      · subst he; simp [hb]
      · simp [he]

/-- Outside a slot, every byte reads as before it was filled. -/
theorem read_putSlot_outside {m : List Host.Cell} (h : Memory.wf m = true) (k i x : Nat) {bs : List Byte}
    (hl : bs.length = 64) (hx : x < slotBase k i ∨ slotBase k i + 64 ≤ x) :
    Memory.read (putSlot m k i bs) x = Memory.read m x := by
  unfold putSlot
  rw [Memory.read_writeBytes_outside _ _ _ _ (Memory.erase_wf h _ _) (by omega), Memory.read_erase]
  have hn : ¬ (slotBase k i ≤ x ∧ x < slotBase k i + 64) := by omega
  simp [hn]

end Sys2Proof.Machine
end

