-- ==== Sys2Proof/Laws/PerInstr.lean ====
section
/-! SUPPORT. Decoding the frame that carries a command gives the command back (R183, R184, R194), command by command.
A command that is not the host's has no frame. -/

namespace Sys2Proof.Laws.FrameRoundTrip

/-- The frame of a well-formed command decodes to that command. -/
def Statement (i : Instr) : Prop :=
  i.wf = true → ∀ bs, frameOfCommand i = some bs → commandOfFrame bs = i

theorem mainReset (inputs : ResetInputs) : Statement (.mainReset inputs) := by
  intro _ bs h
  cases h

theorem hostReset (inputs : ResetInputs) : Statement (.hostReset inputs) := by
  intro _ bs h
  cases h

theorem mainSupplyFail : Statement .mainSupplyFail := by
  intro _ bs h
  cases h

theorem holdoverSupplyLoss : Statement .holdoverSupplyLoss := by
  intro _ bs h
  cases h

theorem holdoverPowerOn : Statement .holdoverPowerOn := by
  intro _ bs h
  cases h

theorem setup (tail : Tail) : Statement (.setup tail) := by
  intro _ bs h
  cases h
  rfl

theorem start (tail : Tail) : Statement (.start tail) := by
  intro _ bs h
  cases h
  rfl

theorem pause (tail : Tail) : Statement (.pause tail) := by
  intro _ bs h
  cases h
  rfl

theorem continueCycle (tail : Tail) : Statement (.continueCycle tail) := by
  intro _ bs h
  cases h
  rfl

theorem cancel (tail : Tail) : Statement (.cancel tail) := by
  intro _ bs h
  cases h
  rfl

theorem confirmResume (tail : Tail) : Statement (.confirmResume tail) := by
  intro _ bs h
  cases h
  rfl

theorem declineResume (tail : Tail) : Statement (.declineResume tail) := by
  intro _ bs h
  cases h
  rfl

theorem forceResume (tail : Tail) : Statement (.forceResume tail) := by
  intro _ bs h
  cases h
  rfl

theorem readStatus (tail : Tail) : Statement (.readStatus tail) := by
  intro _ bs h
  cases h
  rfl

theorem readPlan (tail : Tail) : Statement (.readPlan tail) := by
  intro _ bs h
  cases h
  rfl

theorem readPeers (tail : Tail) : Statement (.readPeers tail) := by
  intro _ bs h
  cases h
  rfl

theorem readRecord (tail : Tail) : Statement (.readRecord tail) := by
  intro _ bs h
  cases h
  rfl

theorem readCounters (tail : Tail) : Statement (.readCounters tail) := by
  intro _ bs h
  cases h
  rfl

theorem readIdent (tail : Tail) : Statement (.readIdent tail) := by
  intro _ bs h
  cases h
  rfl

theorem resetEnable (tail : Tail) : Statement (.resetEnable tail) := by
  intro _ bs h
  cases h
  rfl

theorem reset (tail : Tail) : Statement (.reset tail) := by
  intro _ bs h
  cases h
  rfl

theorem emptyFrame (count : Nat) : Statement (.emptyFrame count) := by
  intro _ bs h
  cases h
  cases count with
  | zero => rfl
  | succ n => simp [List.replicate_succ, commandOfFrame]

theorem unknownCommand (code : Byte) (tail : Tail) : Statement (.unknownCommand code tail) := by
  intro w bs h
  cases h
  simp only [Instr.wf, isUnknownCode, commandCodes, Bool.and_eq_true, Bool.not_eq_true', bne_iff_ne] at w
  obtain ⟨h1, h2⟩ := w
  simp only [List.contains_cons, List.contains_nil, Bool.or_false, Bool.or_eq_false_iff, beq_eq_false_iff_ne] at h1
  obtain ⟨a1, a2, a3, a4, a5, a6, a7, a8, b1, b2, b3, b4, b5, b6, c1, c2⟩ := h1
  simp only [commandOfFrame]
  rw [if_neg h2, if_neg a1, if_neg a2, if_neg a3, if_neg a4, if_neg a5, if_neg a6, if_neg a7, if_neg a8,
    if_neg b1, if_neg b2, if_neg b3, if_neg b4, if_neg b5, if_neg b6, if_neg c1, if_neg c2]

theorem sequencerSecond : Statement .sequencerSecond := by
  intro _ bs h
  cases h

theorem guardBurstTimerExpiry : Statement .guardBurstTimerExpiry := by
  intro _ bs h
  cases h

theorem progressTimerExpiry : Statement .progressTimerExpiry := by
  intro _ bs h
  cases h

theorem sensorFaultCountExpiry : Statement .sensorFaultCountExpiry := by
  intro _ bs h
  cases h

theorem airflowHoldSet : Statement .airflowHoldSet := by
  intro _ bs h
  cases h

theorem airflowHoldClear : Statement .airflowHoldClear := by
  intro _ bs h
  cases h

theorem airflowFault : Statement .airflowFault := by
  intro _ bs h
  cases h

theorem makePlan (exhEnd : ExhEnd) : Statement (.makePlan exhEnd) := by
  intro _ bs h
  cases h

theorem refGateEnd (count : Nat) : Statement (.refGateEnd count) := by
  intro _ bs h
  cases h

theorem sensorGateEnd (count : Nat) : Statement (.sensorGateEnd count) := by
  intro _ bs h
  cases h

theorem periodEnd (us : Nat) : Statement (.periodEnd us) := by
  intro _ bs h
  cases h

theorem periodTimeout : Statement .periodTimeout := by
  intro _ bs h
  cases h

theorem strapRefGateEnd (count : Nat) : Statement (.strapRefGateEnd count) := by
  intro _ bs h
  cases h

theorem strapGateEnd (count : Nat) : Statement (.strapGateEnd count) := by
  intro _ bs h
  cases h

theorem zeroCrossEdge (us : Nat) : Statement (.zeroCrossEdge us) := by
  intro _ bs h
  cases h

theorem periodBoundary (us : Nat) : Statement (.periodBoundary us) := by
  intro _ bs h
  cases h

theorem startWindowEnd : Statement .startWindowEnd := by
  intro _ bs h
  cases h

theorem coastTimeout : Statement .coastTimeout := by
  intro _ bs h
  cases h

theorem doorOpened : Statement .doorOpened := by
  intro _ bs h
  cases h

theorem doorClosed : Statement .doorClosed := by
  intro _ bs h
  cases h

theorem railDropTimeout : Statement .railDropTimeout := by
  intro _ bs h
  cases h

theorem missingCrossingTimeout : Statement .missingCrossingTimeout := by
  intro _ bs h
  cases h

theorem railTrip : Statement .railTrip := by
  intro _ bs h
  cases h

theorem railHealthy : Statement .railHealthy := by
  intro _ bs h
  cases h

theorem classifyBlock (us : Nat) : Statement (.classifyBlock us) := by
  intro _ bs h
  cases h

theorem returnComplete (us : Nat) : Statement (.returnComplete us) := by
  intro _ bs h
  cases h

theorem returnTimeout (us : Nat) : Statement (.returnTimeout us) := by
  intro _ bs h
  cases h

theorem holdoverSecond : Statement .holdoverSecond := by
  intro _ bs h
  cases h

theorem crystalStop : Statement .crystalStop := by
  intro _ bs h
  cases h

theorem doorViewChange (isOpen : Bool) : Statement (.doorViewChange isOpen) := by
  intro _ bs h
  cases h

theorem programBegin : Statement .programBegin := by
  intro _ bs h
  cases h

theorem programComplete (agrees : Bool) : Statement (.programComplete agrees) := by
  intro _ bs h
  cases h

theorem eraseBegin : Statement .eraseBegin := by
  intro _ bs h
  cases h

theorem eraseComplete (blank : Bool) : Statement (.eraseComplete blank) := by
  intro _ bs h
  cases h

theorem suspendRequest : Statement .suspendRequest := by
  intro _ bs h
  cases h

theorem suspendEffect : Statement .suspendEffect := by
  intro _ bs h
  cases h

theorem scanComplete : Statement .scanComplete := by
  intro _ bs h
  cases h

theorem characterReceived (data : Option Byte) (flag : Bool) (stopOk : Bool) : Statement (.characterReceived data flag stopOk) := by
  intro _ bs h
  cases h

theorem lineIdle : Statement .lineIdle := by
  intro _ bs h
  cases h

theorem frameBegin : Statement .frameBegin := by
  intro _ bs h
  cases h

theorem collision : Statement .collision := by
  intro _ bs h
  cases h

theorem backoffExpiry : Statement .backoffExpiry := by
  intro _ bs h
  cases h

theorem noticeSent : Statement .noticeSent := by
  intro _ bs h
  cases h

theorem stuckLow : Statement .stuckLow := by
  intro _ bs h
  cases h

theorem noticeTimerExpiry : Statement .noticeTimerExpiry := by
  intro _ bs h
  cases h

theorem settleExpiry : Statement .settleExpiry := by
  intro _ bs h
  cases h

theorem listenInExpiry : Statement .listenInExpiry := by
  intro _ bs h
  cases h

theorem peerAgeOut (id : Nat) : Statement (.peerAgeOut id) := by
  intro _ bs h
  cases h

theorem airflowPulse : Statement .airflowPulse := by
  intro _ bs h
  cases h

end Sys2Proof.Laws.FrameRoundTrip
end

