-- ==== Sys2Proof/Tests/Slice0.lean ====
section
/-! SUPPORT. The model's own tests: ill-formed commands refused, host frames read from bytes, one step of each
command against the manual's rules and worked examples, and for each statement states that meet its
hypotheses. -/

namespace Sys2Proof.Tests

open Sys2Proof.Machine Sys2Proof.Safety

set_option Elab.async false

/-! ## Helpers -/

/-- A command answers a next state with a property. -/
def after (c : Instr) (s : State) (p : State → Bool) : Bool :=
  match exec c s with
  | .next t => p t
  | _ => false

/-- A station's settings. -/
def sets : Settings := ⟨40, 8, 8, 6, 16, true, true, 1800, 4, true, 32, 3⟩

/-- A descriptor within every range. -/
def desc : Descriptor := ⟨20, 300, 3600, 150, 100, 120, 600, 3600, 300, 10, 300, 2, 20, 2, 64⟩

/-- After SETUP, with the straps read as station 13 and the mains present at 50 Hz: IDLE, the door closed. -/
def idle : State :=
  { State.reset with
    settings := sets
    pnl := { Panel.reset with setupDone := true }
    csq := { Sequencer.reset with state := .idle, desc := desc }
    scv := { Converter.reset with meas := .ref, strapDone := true, levelA := some 1, levelB := some 5,
                                  stationId := 13 }
    ost := { Output.reset with doorOpen := false }
    mwt := { Mains.reset with state := .present, cls := .hz50, seenEdge := true, missing := 9000 }
    pjr := { Journal.reset with scanDone := true, nextSeq := 1, sector0 := .active, sector1 := .erased,
                                sector2 := .erased, sector3 := .erased }
    hdm := { Holdover.powerOn with clockLost := false, doorLatch := false, view := .closed, clock := 5000 }
    fsu := { Feeder.reset with effective := 40 } }

/-- A cycle of 1000 heated seconds. -/
def cyc : CycleRecord := ⟨7, .heat, .none, .rest, 0, 1000, 1100, 0, 0, 0, 0, 0, .clear⟩

/-- HEAT with the motor running and both stages in the cover. -/
def heat : State :=
  { idle with
    csq := { idle.csq with state := .heat, cyc := cyc }
    ost := { idle.ost with motor := .running, runRelay := true, airJudge := true, airCount := 5
                           stage1 := ⟨.heldOff, false, 32, 32, false⟩
                           stage2 := ⟨.heldOff, false, 32, 32, false⟩ }
    fsu := { idle.fsu with stage1 := .cover, stage2 := .cover, want := 16, wants := ⟨false, true, true⟩, cls := 3 } }

/-- EXTEND, 100 of 300 seconds done. -/
def extend : State :=
  { heat with csq := { heat.csq with state := .extend, cyc := { cyc with phase := .extend, tDry := 900, extTotal := 300, extDone := 100 } } }

/-- COOL after 60 seconds, the load at 75 °C. -/
def cool : State :=
  { heat with csq := { heat.csq with state := .cool, cyc := { cyc with phase := .cool, coolElapsed := 60 } }
              dwn := { heat.dwn with exh := 150 }
              fsu := { idle.fsu with cls := 2 } }

/-- GUARD, resting. -/
def guard : State :=
  { idle with csq := { heat.csq with state := .guard, cyc := { cyc with phase := .guard, burst := .rest, burstTimer := 300, guardRemaining := 3600 } } }

/-- PAUSED out of a phase. -/
def paused (p : Phase) : State :=
  { idle with csq := { heat.csq with state := .paused, cyc := { cyc with phase := .paused, before := p } } }

/-- A journal record of a cycle. -/
def recordOf (kind : RecordKind) (c : CycleRecord) : Record :=
  ⟨5, 4900, kind, .none, c, 150, 60, desc⟩

/-- A pending record. -/
def pendOf (kind : RecordKind) (urgent orderly inFlight : Bool) : PendingRecord :=
  ⟨{ recordOf kind cyc with sequence := 0 }, urgent, orderly, false, inFlight⟩

/-- A Cycle Sequencer state forced onto a machine. -/
def inState (s : State) (st : CycleState) : State := { s with csq := { s.csq with state := st } }

/-- A frame of `n` payload bytes of zero. -/
def zeros (n : Nat) : List Byte := List.replicate n 0

/-- A SETUP payload within every range. -/
def setupPayload : List Byte := [40, 8, 8, 6, 16, 1, 1, 0x08, 0x07, 4, 1, 32, 3]

/-- After a main reset with the scan complete and nothing found. -/
def config : State := { State.reset with pjr := idle.pjr }

/-- The descriptor's payload for START. -/
def startPayload : List Byte := descriptorBytes desc

/-! ## Ill-formed commands -/

theorem test_wf_unknown_code : (Instr.unknownCommand 0x01 []).wf = false := by decide
theorem test_wf_unknown_fill : (Instr.unknownCommand 0xFF []).wf = false := by decide
theorem test_wf_plan_gate : (Instr.makePlan (.gate 1048576)).wf = false := by decide
theorem test_wf_plan_period : (Instr.makePlan (.period 0)).wf = false := by decide
theorem test_wf_ref_gate : (Instr.refGateEnd 1048576).wf = false := by decide
theorem test_wf_sensor_gate : (Instr.sensorGateEnd 1048576).wf = false := by decide
theorem test_wf_period_zero : (Instr.periodEnd 0).wf = false := by decide
theorem test_wf_period_long : (Instr.periodEnd 65536).wf = false := by decide
theorem test_wf_strap_ref : (Instr.strapRefGateEnd 1048576).wf = false := by decide
theorem test_wf_strap_gate : (Instr.strapGateEnd 1048576).wf = false := by decide
theorem test_wf_peer_zero : (Instr.peerAgeOut 0).wf = false := by decide
theorem test_wf_peer_high : (Instr.peerAgeOut 32).wf = false := by decide
theorem test_wf_main_views : (Instr.mainReset ⟨false, [true, true]⟩).wf = false := by decide
theorem test_wf_host_views : (Instr.hostReset ⟨false, [true, false, false]⟩).wf = false := by decide
theorem test_wf_accepts : (Instr.mainReset ⟨false, [true, false, true]⟩).wf = true ∧ (Instr.refGateEnd 1048575).wf = true ∧ (Instr.periodEnd 65535).wf = true ∧
    (Instr.peerAgeOut 31).wf = true ∧ (Instr.unknownCommand 0x22 []).wf = true := by decide

/-! ## Frames from bytes (R183, R194) -/

theorem test_no_word : decodeTableWord 16 0x0102 = none := rfl
theorem test_frame_setup : commandOfFrame [0x01, 13, 40] = .setup [13, 40] := by decide
theorem test_frame_reads : commandOfFrame [0x10, 0] = .readStatus [0] ∧ commandOfFrame [0x15, 0] = .readIdent [0] := by
  decide
theorem test_frame_reset : commandOfFrame [0x20, 0] = .resetEnable [0] ∧ commandOfFrame [0x21, 0] = .reset [0] := by
  decide
theorem test_frame_empty : commandOfFrame [0xFF, 0xFF] = .emptyFrame 2 ∧ commandOfFrame [] = .emptyFrame 0 := by
  decide
theorem test_frame_unknown : commandOfFrame [0x22, 0] = .unknownCommand 0x22 [0] := by decide

/-! ## Arithmetic of the worked examples -/

/-- The ratios of chapter 3's examples (R47). -/
theorem test_ratios : ratioOfCount 11719 4000 = 3000 ∧ ratioOfCount 900 4000 = 230 ∧ ratioOfPeriod 520 4000 = 9 := by
  decide

/-- Codes at and between breakpoints (R49): the least ratio of a code. -/
theorem test_codes : codeOfRatio 3000 = 102 ∧ codeOfRatio 2900 = 100 ∧ codeOfRatio 200 = 0 ∧ codeOfRatio 27000 = 240 ∧
    codeOfRatio 1921 = 80 ∧ codeOfRatio 6893 = 150 ∧ codeOfRatio 11211 = 180 ∧ codeOfRatio 19402 = 220 ∧
    codeOfRatio 19401 = 219 := by decide

/-- Strap levels (R42): 1100 is level 3, 4400 level 1, 700 none, with both edges of a level. -/
theorem test_straps : strapLevel 1100 = some 3 ∧ strapLevel 4400 = some 1 ∧ strapLevel 700 = none ∧
    strapLevel 52 = some 7 ∧ strapLevel 51 = none ∧ strapLevel 10240 = some 0 ∧ strapLevel 10241 = none := by decide

/-- Station ids (R43): levels 3 and 1 give 25; 4 and 1 give 33, which is beyond 31. -/
theorem test_station : stationOf (some 3) (some 1) = (25, false) ∧ stationOf (some 4) (some 1) = (0, true) ∧
    stationOf (some 3) none = (0, true) := by decide

/-- Extensions (R57). -/
theorem test_extension : dryExtension 1500 20 3600 = 468 ∧ dryExtension 929 20 3600 = 290 ∧
    dryExtension 3000 63 7200 = 1800 ∧ dryExtension 3000 63 4000 = 1000 ∧ dryExtension 2400 0 3600 = 0 ∧
    dryExtension 3600 30 3600 = 0 := by decide

/-- The check values of "123456789" under the two polynomials (R97, R153). -/
theorem test_check_values : crc16 [0x31, 0x32, 0x33, 0x34, 0x35, 0x36, 0x37, 0x38, 0x39] = 0x29B1 ∧
    crc8 [0x31, 0x32, 0x33, 0x34, 0x35, 0x36, 0x37, 0x38, 0x39] = 0xF4 := by decide +kernel

/-- Claim keys (R170): class 0 with 422 s left at station 13, class 1 with 2700 s at station 4. -/
theorem test_keys :
    claimKey { extend with csq := { extend.csq with cyc := { extend.csq.cyc with extTotal := 422, extDone := 0 } },
                           fsu := { extend.fsu with cls := 0 } } = 269 ∧
    claimKey { heat with csq := { heat.csq with cyc := { cyc with heated := 900 } },
                         scv := { heat.scv with stationId := 4 }, fsu := { heat.fsu with cls := 1 } } = 9636 := by
  decide +kernel

/-! ## Resets and supplies -/

/-- The door watch is ON while RESET_N holds the main domain in reset: a door opened and closed meanwhile sets the latch
(R127). -/
theorem test_main_reset : after (.mainReset ⟨false, [true, false]⟩) heat (fun t =>
    t.csq.state = .config && t.ost.motor = .stopped && t.hdm.clock = 5000 && !t.pnl.evFault && t.ost.doorOpen &&
      t.hdm.doorLatch && t.hdm.view = .closed) = true := by decide +kernel
theorem test_main_reset_tripped : after (.mainReset ⟨true, []⟩) heat (fun t =>
    t.mwt.state = .lossWarning && t.mwt.causeRail && t.csq.state = .config) = true := by decide +kernel

/-- A RESET has been taken, and no END record is awaited. -/
def resetting : State := { idle with pnl := { idle.pnl with resetPending := true } }

theorem test_host_reset : after (.hostReset ⟨false, [true]⟩) resetting (fun t =>
    t.csq.state = .config && !t.pnl.setupDone && t.hdm.doorLatch && t.hdm.view = .opened) = true := by decide +kernel
theorem test_host_reset_waits : after (.hostReset ⟨false, []⟩)
    { resetting with csq := { resetting.csq with endAwaited := true } } (fun t => t.csq.state = .idle) = true := by
  decide +kernel
theorem test_supply_fails : after .mainSupplyFail heat (fun t => !t.mainPowered && t.hdm.clock = 5000) = true := by
  decide +kernel

/-- Without the main supply. -/
def dark : State := { idle with mainPowered := false }

theorem test_holdover_loss : after .holdoverSupplyLoss dark (fun t => !t.hdm.powered) = true := by decide +kernel
theorem test_holdover_rise : after .holdoverPowerOn { dark with hdm := { dark.hdm with powered := false } } (fun t =>
    t.hdm.powered && t.hdm.clock = 0 && t.hdm.clockLost && t.hdm.doorLatch && t.hdm.view = .unknown) = true := by
  decide +kernel

/-! ## Commands of the host -/

theorem test_setup : after (.setup (13 :: setupPayload)) config (fun t =>
    t.csq.state = .idle && t.settings = sets && t.pnl.response = some ⟨.ok, []⟩ && t.fsu.listenIn = some 3000000 && t.fsu.effective = 40) = true := by
  decide +kernel
theorem test_setup_bad : after (.setup (13 :: 0 :: setupPayload.tail)) config (fun t =>
    t.csq.state = .config && t.pnl.response = some ⟨.badValue, [1, 0]⟩) = true := by decide +kernel
/-- X 70 is clamped to 63, and cool_max 100 to 120 and on to cool_min 300: mask bits 0 and 6 (R3). -/
theorem test_start_clamped : after (.start (23 :: descriptorBytes { desc with x := 70, coolMin := 300, coolMax := 100 })) idle
    (fun t => t.csq.state = .heat && t.csq.desc.x = 63 && t.csq.desc.coolMax = 300 &&
      t.pnl.response = some ⟨.clamped, [65, 0]⟩ && t.csq.cyc.cycleId = 1 && t.fsu.cls = 3) = true := by decide +kernel
theorem test_start_door : after (.start (23 :: startPayload)) { idle with ost := .reset } (fun t =>
    t.csq.state = .idle && t.pnl.response = some ⟨.doorOpen, []⟩) = true := by decide +kernel
theorem test_pause : after (.pause [0]) cool (fun t =>
    t.csq.state = .paused && t.csq.cyc.phase = .paused && t.csq.cyc.before = .cool && t.ost.stopDue) = true := by decide +kernel
theorem test_continue_guard : after (.continueCycle [0]) (paused .guard) (fun t =>
    t.csq.state = .guard && t.csq.cyc.burst = .tumble && t.csq.cyc.burstTimer = 10) = true := by decide +kernel
/-- A start window whose end is due raises no new start want when the request is RUN again (R7, R167). -/
theorem test_continue_starting : after (.continueCycle [0])
    { paused .heat with ost := { (paused .heat).ost with motor := .starting, runRelay := true, startWindow := some 5, stopDue := true }
                        fsu := { idle.fsu with start := .release } } (fun t =>
    t.csq.state = .heat && startWant t = 0 && t.fsu.want = 0) = true := by decide +kernel
theorem test_cancel : after (.cancel [0]) (paused .heat) (fun t =>
    t.csq.state = .done && t.csq.endReason = .cancelled && t.csq.cyc.reasons.cancelled && t.pjr.pend.isSome) = true := by
  decide +kernel

/-- PLAN_READY with a plan to resume a cool-down. -/
def ready : State :=
  { inState idle .planReady with
    csq := { (inState idle .planReady).csq with cyc := { cyc with phase := .cool }, ready := .confirm }
    rpl := ⟨.made, { Plan.reset with outcome := .resumeCool, outage := some 100 }, some (recordOf .loss { cyc with phase := .cool })⟩ }

theorem test_confirm : after (.confirmResume [0]) ready (fun t =>
    t.csq.state = .cool && t.rpl.plan.disposition = .executed && t.fsu.cls = 2) = true := by decide +kernel
theorem test_decline : after (.declineResume [0]) ready (fun t =>
    t.csq.state = .done && t.csq.endReason = .declined && t.rpl.plan.disposition = .declined) = true := by decide +kernel

/-- ABANDONED, with a kept record of EXTEND that lost 58 half-degrees. -/
def abandoned : State :=
  { inState idle .abandoned with
    dwn := { idle.dwn with exh := 92 }
    rpl := ⟨.made, Plan.reset, some (recordOf .loss { cyc with phase := .extend, extTotal := 290, extDone := 100 })⟩ }

/-- ΔT 58 at a rate of 4 is a reheat of 232, so that 190 s grow to 422 (R140). -/
theorem test_force : after (.forceResume [0]) abandoned (fun t =>
    t.csq.state = .extend && t.rpl.plan.disposition = .forced && t.rpl.plan.reheat = 232 && t.csq.cyc.extTotal = 422 &&
      t.csq.cyc.extDone = 0 && t.fsu.cls = 0) = true := by decide +kernel
theorem test_read_status : after (.readStatus [0]) heat (fun t =>
    (t.pnl.response.map fun r => (r.payload.length, r.payload.getD 0 0)) = some (154, 2)) = true := by decide +kernel
theorem test_read_plan : after (.readPlan [0]) idle (fun t =>
    t.pnl.response = some ⟨.ok, [0, 8] ++ zeros 23⟩) = true := by decide +kernel
/-- An entry that waits for its PEER_AGE_OUT still reads an age of 3 s (R188). -/
theorem test_read_peers : after (.readPeers [0]) { idle with fsu := { idle.fsu with peers := [⟨4, 8, 16, 9636, 40, 2, true, 4000000⟩] } }
    (fun t => (t.pnl.response.map fun r => (r.payload.take 2, r.payload.getD 8 0)) = some ([1, 4], 3)) = true := by decide +kernel
theorem test_read_record : after (.readRecord [0]) config (fun t => t.pnl.response = some ⟨.ok, []⟩) = true := by
  decide +kernel
theorem test_read_counters : after (.readCounters [0]) { idle with mwt := { idle.mwt with rejected := 3 } }
    (fun t => (t.pnl.response.map fun r => r.payload.length) = some 19) = true := by decide +kernel
theorem test_read_ident : after (.readIdent [0]) idle (fun t =>
    (t.pnl.response.map fun r => r.payload.length) = some 13) = true := by decide +kernel
theorem test_reset_enable : after (.resetEnable [0]) idle (fun t => t.pnl.resetEnable) = true := by decide +kernel
theorem test_reset_refused : after (.reset [0]) idle (fun t => t.pnl.response = some ⟨.refusedState, []⟩) = true := by
  decide +kernel
theorem test_reset_taken : after (.reset [0]) { heat with pnl := { heat.pnl with resetEnable := true } } (fun t =>
    t.pnl.resetPending && t.csq.endAwaited && t.ost.stopDue && (t.pjr.pend.map fun p => p.copy.endReason) = some .hostReset) = true := by
  decide +kernel
theorem test_empty_frame : after (.emptyFrame 3) { idle with pnl := { idle.pnl with response := some ⟨.ok, []⟩ } } (fun t =>
    t.pnl.dataOut = [0, 0, 0xFF] && t.pnl.response = some ⟨.ok, []⟩) = true := by decide +kernel
theorem test_unknown_command : after (.unknownCommand 0x22 [0]) idle (fun t =>
    t.pnl.response = some ⟨.unknown, []⟩) = true := by decide +kernel

/-! ## Seconds -/

theorem test_second_heat : after .sequencerSecond { heat with csq := { heat.csq with fired := true } } (fun t =>
    t.csq.cyc.heated = 1001 && t.csq.cyc.phaseElapsed = 1101 && !t.csq.fired && t.ost.airLast = 5) = true := by decide +kernel
/-- A window of 12 hits' age, quiet for 20 samples, at 929 heated seconds: an extension of 290 s (R56, R57). -/
theorem test_second_dry : after .sequencerSecond
    { heat with csq := { heat.csq with cyc := { cyc with heated := 929 } }
                dwn := { heat.dwn with resultSeen := true, window := List.replicate 31 false } } (fun t =>
    t.csq.state = .extend && t.csq.cyc.tDry = 929 && t.csq.cyc.extTotal = 290 && t.dwn.reported) = true := by decide +kernel
theorem test_guard_burst : after .guardBurstTimerExpiry
    { guard with csq := { guard.csq with cyc := { guard.csq.cyc with burstTimer := 1 } } } (fun t =>
    t.csq.cyc.burst = .tumble && t.csq.cyc.burstTimer = 10 && t.csq.cyc.guardRemaining = 3599) = true := by decide +kernel
theorem test_progress : after .progressTimerExpiry { heat with csq := { heat.csq with progress := 19 } } (fun t =>
    t.csq.progress = 0 && (t.pjr.pend.map fun p => (p.copy.kind, p.urgent, p.copy.stamp)) = some (.progress, false, 5000)) = true := by
  decide +kernel
theorem test_fault_count : after .sensorFaultCountExpiry
    { heat with scv := { heat.scv with refFault := true }, csq := { heat.csq with faultCount := 29 } } (fun t =>
    t.csq.state = .cool && t.csq.cyc.reasons.sensorFault && t.pnl.evFault) = true := by decide +kernel
theorem test_air_hold : after .airflowHoldSet { heat with ost := { heat.ost with airCount := 2, lowRun := 4 } } (fun t =>
    t.ost.airHold && t.ost.lowRun = 5 && t.ost.airCount = 0) = true := by decide +kernel
theorem test_air_clear : after .airflowHoldClear
    { heat with ost := { heat.ost with airCount := 3, goodRun := 4, airHold := true } } (fun t =>
    !t.ost.airHold && t.ost.goodRun = 5) = true := by decide +kernel
theorem test_air_fault : after .airflowFault
    { heat with ost := { heat.ost with airCount := 0, airHold := true, cumHold := 599 } } (fun t =>
    t.csq.state = .cool && t.csq.cyc.reasons.airflowFault && t.ost.airReported) = true := by decide +kernel

/-! ## Converter and planner -/

/-- A pair of the normal scan at its sensor's gate, with a valid reference of 4000. -/
def atGate (s : State) (pair : Nat) : State :=
  { s with scv := { s.scv with meas := .gate, pair := pair, refValid := true, nRef := 4000 } }

/-- The same pair in its period extension. -/
def atPeriod (s : State) (pair : Nat) : State :=
  { s with scv := { s.scv with meas := .period, pair := pair, refValid := true, nRef := 4000, nSensor := 12 } }

theorem test_ref_gate : after (.refGateEnd 4000) idle (fun t => t.scv.meas = .gate && t.scv.refValid && t.scv.nRef = 4000) = true := by
  decide +kernel
theorem test_ref_gate_bad : after (.refGateEnd 980) idle (fun t => t.scv.refFault && !t.scv.refValid && t.pnl.evFault) = true := by
  decide +kernel
theorem test_sensor_gate_exh : after (.sensorGateEnd 11719) (atGate idle 2) (fun t =>
    t.scv.exh.w = 3000 && t.dwn.exh = 102 && t.scv.pair = 3 && t.scv.meas = .ref) = true := by decide +kernel
theorem test_sensor_gate_moist : after (.sensorGateEnd 900) (atGate heat 1) (fun t =>
    t.scv.moist.w = 230 && t.dwn.resultSeen && t.dwn.hitSeen && t.scv.pair = 2) = true := by decide +kernel
theorem test_period : after (.periodEnd 520) (atPeriod heat 3) (fun t =>
    t.scv.moist.w = 9 && t.scv.moist.periodMode && t.dwn.resultSeen && !t.dwn.hitSeen) = true := by decide +kernel
theorem test_period_timeout : after .periodTimeout (atPeriod idle 2) (fun t =>
    t.scv.exhFault = .opened && !t.scv.exh.oscillation && t.pnl.evFault) = true := by decide +kernel
theorem test_strap_ref : after (.strapRefGateEnd 980) config (fun t => t.scv.meas = .strapGate && !t.scv.refValid) = true := by
  decide +kernel
/-- The fourth strap pair: levels 3 and 1 again, so that the station is 25 (R43). -/
theorem test_strap_gate : after (.strapGateEnd 17190)
    { config with scv := { config.scv with meas := .strapGate, pair := 4, refValid := true, nRef := 4001,
                                           passLevels := [some 3, some 1, some 3] } } (fun t =>
    t.scv.stationId = 25 && t.scv.strapDone && !t.scv.strapFault && t.scv.meas = .ref) = true := by decide +kernel

/-- PLANNING at the gate of EXH, with a LOSS record of EXTEND as the source, 100 s ago. -/
def planning : State :=
  atGate { inState idle .planning with
    rpl := ⟨.making, { Plan.reset with blink := false }, none⟩
    pjr := { idle.pjr with activeFound := true
                           newest := some (recordOf .loss { cyc with phase := .extend, extTotal := 290, extDone := 100 }) } } 2

/-- A ratio of 2552 is code 93: ΔT 57 and a reheat of 228, so that 190 s grow to 418, executed at once (R49, R137,
R140, R144). -/
theorem test_make_plan : after (.makePlan (.gate 9969)) planning (fun t =>
    t.csq.state = .extend && t.rpl.plan.outcome = .resumeExtend && t.rpl.plan.disposition = .executed &&
      t.rpl.plan.outage = some 100 && t.dwn.exh = 93 && t.csq.cyc.extTotal = 418) = true := by decide +kernel

/-- With a RESET taken the plan is made, and the sequencer stays in PLANNING (R134, R26). -/
theorem test_make_plan_reset : after (.makePlan (.gate 9969)) { planning with pnl := { planning.pnl with resetPending := true } }
    (fun t => t.csq.state = .planning && t.rpl.state = .made && t.rpl.plan.disposition = .pending && t.pnl.evPlan) = true := by
  decide +kernel

/-- PLANNING with the reset-enable latch set and the Cycle Record of an active cycle, as a BLINK leaves it. -/
def blinking : State :=
  { planning with csq := { planning.csq with cyc := cyc }, pnl := { planning.pnl with resetEnable := true } }

/-- A host reset in PLANNING writes no END record (R148). -/
theorem test_reset_planning : after (.reset [0]) blinking (fun t =>
    t.pnl.resetPending && !t.csq.endAwaited && t.pjr.pend = none) = true := by decide +kernel

/-! ## Mains and outputs -/

theorem test_edge_rejected : after (.zeroCrossEdge 3000) { idle with mwt := { idle.mwt with missing := 0 } } (fun t =>
    t.mwt.rejected = 1 && t.mwt.missing = 3000) = true := by decide +kernel
theorem test_edge_accepted : after (.zeroCrossEdge 1000) idle (fun t =>
    t.mwt.lastHalf = 10000 && t.mwt.missing = 0 && t.ost.positioned && t.ost.position = 0) = true := by decide +kernel

/-- HEAT at the last position of a period with the exhaust at its limit: stage 2 gives up 4 of its 32 half-cycles,
and the stages fire from the boundary on (R65 to R68). -/
def hot : State :=
  { heat with ost := { heat.ost with position := 31, positioned := true }, dwn := { heat.dwn with exh := 150 } }

theorem test_boundary : after (.periodBoundary 1000) hot (fun t =>
    t.ost.position = 0 && t.ost.stage1.on && t.ost.stage2.on && t.ost.stage2.active = 32 && t.ost.stage2.pending = 28 &&
      t.ost.stage1.pending = 32 && t.csq.fired) = true := by decide +kernel
theorem test_boundary_not_due : after (.periodBoundary 1000) { hot with ost := { hot.ost with position := 30 } }
    (fun t => t.ost.position = 30) = true := by decide +kernel
/-- A stage that was given up and granted again since the last crossing leaves FIRING at this one (R65, R66). -/
theorem test_stage_leaves : after (.zeroCrossEdge 1000)
    { hot with ost := { hot.ost with position := 3, stage1 := ⟨.firing, true, 32, 32, true⟩, stage2 := ⟨.firing, false, 32, 32, true⟩ } }
    (fun t => t.ost.stage1 = ⟨.heldOff, false, 32, 32, false⟩ && t.ost.stage2.on) = true := by decide +kernel

/-- The motor in its start window. -/
def starting : State :=
  { inState idle .heat with
    csq := { heat.csq with fired := false }
    ost := { idle.ost with motor := .starting, runRelay := true, startWindow := some 0 }
    fsu := { idle.fsu with start := .cover, want := 6, wants := ⟨true, false, false⟩, cls := 3 } }

theorem test_start_window : after .startWindowEnd starting (fun t =>
    t.ost.motor = .running && t.fsu.start = .free && t.fsu.want = 16 && t.ost.startWindow = none) = true := by decide +kernel
theorem test_motor_starts : after (.zeroCrossEdge 1000)
    { starting with ost := { starting.ost with motor := .stopped, runRelay := false, startWindow := none } } (fun t =>
    t.ost.motor = .starting && t.ost.runRelay && t.ost.startWindow = some 3000000) = true := by decide +kernel
theorem test_coast : after .coastTimeout { idle with ost := { idle.ost with coast := some 0 } } (fun t => t.ost.coast = none) = true := by
  decide +kernel
theorem test_door_opened : after .doorOpened heat (fun t =>
    t.csq.state = .paused && t.csq.cyc.before = .heat && t.ost.doorOpen && t.ost.stopDue && t.fsu.want = 0) = true := by decide +kernel
theorem test_door_opened_guard : after .doorOpened guard (fun t =>
    t.csq.state = .done && t.csq.endReason = .doorEnd) = true := by decide +kernel
theorem test_door_closed : after .doorClosed { heat with ost := { heat.ost with doorOpen := true } } (fun t =>
    !t.ost.doorOpen && t.fsu.want = 16) = true := by decide +kernel
theorem test_rail_drop : after .railDropTimeout
    { idle with ost := { idle.ost with runRelay := true, dropTimer := some 0 } } (fun t =>
    !t.ost.runRelay && t.ost.coast = some 2000000 && t.ost.dropTimer = none) = true := by decide +kernel
theorem test_missing_crossing : after .missingCrossingTimeout heat (fun t =>
    t.mwt.state = .lossWarning && t.mwt.causeCrossing && t.csq.state = .loss && t.ost.motor = .stopped &&
      !t.ost.runRelay && held t = 0 && (t.pjr.pend.map fun p => p.copy.kind) = some .loss) = true := by decide +kernel
theorem test_rail_trip : after .railTrip heat (fun t =>
    t.mwt.causeRail && t.ost.motor = .stopped && t.ost.runRelay && t.ost.dropTimer = some 10000 && t.csq.state = .loss) = true := by
  decide +kernel
/-- A new loss warning clears a mains-back note kept into PLANNING (R20). -/
theorem test_rail_trip_planning : after .railTrip { planning with csq := { planning.csq with mainsBack := true } } (fun t =>
    t.csq.state = .planning && !t.csq.mainsBack && t.rpl.state = .making) = true := by decide +kernel
theorem test_rail_healthy : after .railHealthy
    { idle with mwt := { idle.mwt with state := .lossWarning, railTripped := true, warning := true } } (fun t =>
    !t.mwt.railTripped && t.mwt.state = .lossWarning) = true := by decide +kernel

/-- MEASURING with 15 half-periods of a block. -/
def measuring : State :=
  { idle with mwt := { Mains.reset with seenEdge := true, missing := 9000, blockOpen := true, blockCount := 15, blockSum := 150112 } }

/-- The block of chapter 5: a sum of 160 112 is an average of 10 007, 50 Hz (R86). -/
theorem test_classify : after (.classifyBlock 1000) measuring (fun t =>
    t.mwt.state = .present && t.mwt.cls = .hz50 && !t.mwt.blockOpen) = true := by decide +kernel

/-- RETURNING with a warning outstanding. -/
def returning : State :=
  { inState idle .holdoverWait with
    mwt := { idle.mwt with state := .returning, warning := true, causeCrossing := true, returnCount := 7, returnCrossings := 9 } }

theorem test_return_complete : after (.returnComplete 1000) returning (fun t =>
    t.mwt.state = .present && !t.mwt.warning && t.csq.state = .planning && t.rpl.plan.blink) = true := by decide +kernel
/-- A half-period of 11 400 is out of the band and returns the count to 0 (R92). -/
theorem test_return_count : after (.zeroCrossEdge 2400) returning (fun t =>
    t.mwt.state = .returning && t.mwt.returnCount = 0 && t.mwt.returnCrossings = 10) = true := by decide +kernel
theorem test_return_timeout : after (.returnTimeout 1000)
    { returning with mwt := { returning.mwt with returnCount := 3, returnCrossings := 63 } } (fun t =>
    t.mwt.state = .lineFault && t.mwt.cls = .unknown && t.pnl.evFault) = true := by decide +kernel
theorem test_airflow_pulse : after .airflowPulse heat (fun t => t.ost.airCount = 6) = true := by decide +kernel

/-! ## Holdover Domain -/

/-- With 1800 s of a window used, one more second passes it (R138, R145). -/
theorem test_window_passes : after .holdoverSecond
    { ready with rpl := { ready.rpl with plan := { ready.rpl.plan with outage := some 1000, waited := 800 } } } (fun t =>
    t.csq.state = .abandoned && t.rpl.plan.outcome = .abandonedWindow && t.rpl.plan.waited = 801) = true := by decide +kernel
theorem test_holdover_second : after .holdoverSecond dark (fun t => t.hdm.clock = 5001) = true := by decide +kernel
theorem test_crystal_stop : after .crystalStop idle (fun t => t.hdm.clockLost && t.pnl.evFault && t.hdm.clock = 5000) = true := by
  decide +kernel
theorem test_view_watched : after (.doorViewChange true) dark (fun t => t.hdm.doorLatch && t.hdm.view = .opened) = true := by
  decide +kernel
theorem test_view_unwatched : after (.doorViewChange true) heat (fun t => !t.hdm.doorLatch && t.hdm.view = .opened) = true := by
  decide +kernel

/-! ## Progress Journal -/

/-- A PHASE record waits. -/
def waiting : State := { heat with pjr := { heat.pjr with pend := some (pendOf .phase true false false) } }

/-- It is being programmed into slot 0 of sector 0. -/
def programming : State :=
  { heat with pjr := { heat.pjr with op := .programming 0 0 none, pend := some (pendOf .phase true false true)
                                     prog := some { recordOf .phase cyc with sequence := 1 } } }

/-- Sector 1 is being erased ahead, with a PHASE record waiting. -/
def erasing : State :=
  { waiting with pjr := { waiting.pjr with op := .erasing 1, sector1 := .erasing, ptrSlot := 40 } }

theorem test_program_begin : after .programBegin waiting (fun t =>
    t.pjr.op = .programming 0 0 none && (t.pjr.prog.map fun r => r.sequence) = some 1) = true := by decide +kernel
theorem test_program_complete : after (.programComplete true) programming (fun t =>
    t.pjr.op = .ready && t.pjr.pend = none && t.pjr.nextSeq = 2 && t.pjr.ptrSlot = 1 && t.pjr.counters.written = 1 &&
      readSlot t.flash 0 0 = .valid { recordOf .phase cyc with sequence := 1 }) = true := by decide +kernel
theorem test_erase_begin : after .eraseBegin { idle with pjr := { idle.pjr with queue := [1] } } (fun t =>
    t.pjr.op = .erasing 1 && t.pjr.sector1 = .erasing && t.pjr.queue = []) = true := by decide +kernel
theorem test_erase_complete : after (.eraseComplete true)
    { idle with flash := [(4100, 5), (8200, 6)], pjr := { idle.pjr with op := .erasing 1, sector1 := .erasing } } (fun t =>
    t.flash = [(8200, 6)] && t.pjr.sector1 = .erased && t.pjr.op = .ready && t.pjr.counters.erases = 1) = true := by decide +kernel
theorem test_suspend_request : after .suspendRequest erasing (fun t => t.pjr.op = .suspending 1) = true := by decide +kernel
theorem test_suspend_effect : after .suspendEffect { erasing with pjr := { erasing.pjr with op := .suspending 1 } } (fun t =>
    t.pjr.op = .programming 0 40 (some 1) && t.pjr.sector1 = .suspended && t.pjr.counters.suspends = 1) = true := by decide +kernel

/-- A sector of the ring as read: records of rising sequence, then blank slots. -/
def sectorFrom (first n : Nat) : List SlotRead :=
  ((List.range n).map fun i => SlotRead.valid { recordOf .progress cyc with sequence := first + i }) ++ List.replicate (64 - n) .blank

/-- Sector 0 holds 64 records and sector 1 three; the pointer stands at slot 3 of sector 1 (R115, R116). -/
theorem test_scan_pointer :
    let r : Ring := ⟨sectorFrom 1 64, sectorFrom 65 3, sectorFrom 0 0, sectorFrom 0 0⟩
    r.pointer = (1, 3) ∧ (r.newest.map fun f => f.record.sequence) = some 67 ∧ r.state 0 = .full ∧ r.state 1 = .active ∧
      r.state 2 = .erased := by decide +kernel
/-- A programmed slot after a blank one makes its sector TORN (R114). -/
theorem test_scan_torn : isTorn (SlotRead.blank :: sectorFrom 5 2) = true ∧ isTorn (sectorFrom 5 2) = false ∧
    isTorn [.valid (recordOf .phase cyc), .valid (recordOf .phase cyc)] = true := by decide +kernel

/-! ## Party line -/

/-- A HEAT notice of station 4 that holds 8 units and wants 16. -/
def heard : Notice := ⟨false, 4, 8, 16, 9636, 30, 2, true, false, false, false⟩

/-- The station has gathered seven characters of that notice. -/
def gathering : State :=
  { idle with plp := { idle.plp with rx := .receiving, gathered := (noticeBytes heard).take 7, lineHigh := true } }

/-- The last character of a notice. -/
def lastByte (n : Notice) : Byte := (noticeBytes n).getD 7 0

/-- A fall that is over at the middle of the start bit begins no character (R152). -/
theorem test_first_character : after (.characterReceived (some 0x24) true true) idle (fun t =>
    t.plp.rx = .receiving && t.plp.gathered = [0x24]) = true ∧
    after (.characterReceived none true true) idle (fun t => t.plp.rx = .idle && t.plp.idleTimer = 0) = true := by
  decide +kernel
/-- The peer's budget of 30 becomes the effective budget (R171, R178). -/
theorem test_notice_heard : after (.characterReceived (some (lastByte heard)) false true) gathering (fun t =>
    t.fsu.peers = [⟨4, 8, 16, 9636, 30, 2, true, 0⟩] && t.fsu.effective = 30 && t.fsu.mismatch && t.plp.rx = .idle) = true := by
  decide +kernel
theorem test_line_idle : after .lineIdle gathering (fun t => t.plp.rx = .idle && t.plp.rxErrors = 1) = true := by decide +kernel

/-- START is granted, and its notice waits for an idle line. -/
def announcing : State :=
  { starting with
    ost := { starting.ost with motor := .stopped, runRelay := false, startWindow := none }
    fsu := { starting.fsu with start := .pending }
    plp := { idle.plp with tx := .pending, slot := some ⟨false, 13, 6, 6, 24973, 40, 2, false, true, false, false⟩
                           idleTimer := 1146 } }

/-- That notice is on the line. -/
def sending : State :=
  { announcing with
    plp := { announcing.plp with tx := .sending, line := announcing.plp.slot, lineHigh := false, drives := true } }

theorem test_frame_begin : after .frameBegin announcing (fun t =>
    t.plp.tx = .sending && t.plp.line = announcing.plp.slot && t.plp.echo.length = 8) = true := by decide +kernel
/-- The generator at its reset value 1 draws 2 × 2 character times (R156, R157). -/
theorem test_collision : after .collision sending (fun t =>
    t.plp.tx = .backoff && t.plp.backoff = some 2291 && t.plp.attempts = 1 && t.plp.collisions = 1) = true := by decide +kernel
theorem test_sixteenth : after .collision { sending with plp := { sending.plp with attempts := 15 } } (fun t =>
    t.plp.tx = .pending && t.plp.txFailures = 1 && t.plp.attempts = 0 && t.fsu.start = .free && t.plp.lineHigh) = true := by
  decide +kernel
theorem test_backoff : after .backoffExpiry { sending with plp := { sending.plp with tx := .backoff, backoff := some 0 } } (fun t =>
    t.plp.tx = .pending && t.plp.backoff = none) = true := by decide +kernel
theorem test_notice_sent : after .noticeSent sending (fun t => t.fsu.start = .cover && t.plp.tx = .empty) = true := by
  decide +kernel
theorem test_stuck_low : after .stuckLow idle (fun t =>
    t.plp.fault && t.fsu.isolated = some .lineFault && t.fsu.effective = 16 && t.pnl.evFault && t.pnl.evLine) = true := by
  decide +kernel
/-- Jitter of 1 ms for the generator at 1 (R157, R173). -/
theorem test_notice_timer : after .noticeTimerExpiry { heat with fsu := { heat.fsu with notice := some 0 } } (fun t =>
    t.plp.tx = .pending && t.fsu.notice = some 1001000 && (t.plp.slot.map fun n => (n.id, n.held, n.want)) = some (13, 16, 16)) = true := by
  decide +kernel

/-- HEAT waits for a start of 6 units, its settle timer run out. -/
def wanting (peers : List Peer) : State :=
  { starting with
    ost := { starting.ost with motor := .stopped, runRelay := false, startWindow := none }
    fsu := { starting.fsu with start := .free, want := 6, settle := some 0, peers := peers } }

theorem test_settle_grants : after .settleExpiry (wanting [⟨4, 34, 34, 1, 40, 2, true, 0⟩]) (fun t =>
    t.fsu.start = .pending && t.fsu.settle = none && t.plp.tx = .pending) = true := by decide +kernel
/-- A budget of 10 sheds STAGE2 of 20 units, whose release is confirmed at once; the evaluation that follows grants STAGE1
of 5 (R175 to R177). -/
def narrow : State :=
  { heat with settings := { sets with budget := 10, weight1 := 5, weight2 := 20 }
              fsu := { heat.fsu with stage1 := .free, want := 25, settle := some 0 } }

theorem test_settle_sheds : after .settleExpiry narrow (fun t =>
    t.fsu.stage2 = .free && t.fsu.stage1 = .pending && t.fsu.sheds = 1) = true := by decide +kernel
theorem test_settle_no_room : after .settleExpiry (wanting [⟨4, 34, 35, 1, 40, 2, true, 0⟩]) (fun t =>
    t.fsu.start = .free && unitState t = .ready) = true := by decide +kernel
theorem test_listen_in : after .listenInExpiry { idle with fsu := { idle.fsu with listenIn := some 0 } } (fun t =>
    t.fsu.listenIn = none && unitState t = .quiet) = true := by decide +kernel
theorem test_peer_age_out : after (.peerAgeOut 4)
    { idle with fsu := { idle.fsu with peers := [⟨4, 8, 16, 9636, 30, 2, true, 4000000⟩], effective := 30 } } (fun t =>
    t.fsu.peers = [] && t.fsu.effective = 40) = true := by decide +kernel

/-! ## Steps -/

theorem test_reset_queue : State.reset.pending = [] ∧ State.reset.withFetchWord 16 1 = State.reset := ⟨rfl, rfl⟩
theorem test_step_front : (match step { idle with pending := [.airflowPulse, .crystalStop] } with
    | .next t => t.ost.airCount = 1 && t.pending = [.crystalStop]
    | _ => false) = true := by decide +kernel
theorem test_step_idle : (match step idle with
    | .next t => t.mwt.missing = 9001 && t.csq.second = 1 && t.plp.lfsr = 0x8000 && t.freeCount = 1
    | _ => false) = true := by decide +kernel

/-! ## States that meet the hypotheses of each statement -/

/-- Two commands wait. -/
theorem witness_StepRunsTheFrontCommand :
    { idle with pending := [.airflowPulse, .crystalStop] }.pending = Instr.airflowPulse :: [.crystalStop] := rfl

theorem witness_IdleStepIsOneMicrosecond : heat.pending = [] ∧ heat.mainPowered = true ∧ dark.mainPowered = false := by
  decide

theorem witness_MainDomainReset :
    heat.hdm.powered = true ∧ FlashOk heat ∧ heat.pjr.op = .ready ∧
    resetting.mainPowered = true ∧ resetting.pnl.resetPending = true ∧ resetting.csq.endAwaited = false ∧
    FlashOk resetting ∧ FlashOk programming ∧ ¬ inOperation programming.pjr 64 ∧ inOperation programming.pjr 63 ∧
    FlashOk erasing ∧ ¬ inOperation erasing.pjr 4095 ∧ ¬ inOperation erasing.pjr 8192 := by
  refine ⟨by decide, by decide, by decide, by decide, by decide, by decide, by decide, by decide, ?_, ?_, by decide, ?_, ?_⟩
  · simp [inOperation, programming, slotBase]
  · exact Or.inl (by decide)
  · simp [inOperation, erasing]
  · simp [inOperation, erasing]

theorem witness_ResetEdges :
    dark.mainPowered = false ∧ idle.pnl.resetPending = false ∧
    { resetting with csq := { resetting.csq with endAwaited := true } }.csq.endAwaited = true := by decide

theorem witness_DrynessWindowAfterReset :
    resetting.mainPowered = true ∧ resetting.pnl.resetPending = true ∧ resetting.csq.endAwaited = false := by decide

theorem witness_PlannerAfterReset :
    resetting.mainPowered = true ∧ resetting.pnl.resetPending = true ∧ resetting.csq.endAwaited = false := by decide

/-- Without either supply. -/
def unsupplied : State := { dark with hdm := { dark.hdm with powered := false } }

theorem witness_Supplies :
    unsupplied.mainPowered = false ∧ unsupplied.hdm.powered = false ∧ heat.mainPowered = true ∧ FlashOk heat ∧
    dark.mainPowered = false ∧ dark.hdm.powered = true ∧ ¬ inOperation heat.pjr 0 :=
  ⟨rfl, rfl, rfl, by decide, rfl, rfl, fun h => h⟩

theorem witness_FramesAnswered :
    idle.mainPowered = true ∧ (0x22 : Byte) ∉ commandCodes ∧ (0x22 : Byte) ≠ 0xFF ∧ (0x21 : Byte) ∈ commandCodes ∧
    ¬ carries [] (payloadLength 0x21) ∧ ¬ carries [1] (payloadLength 0x21) ∧ carries [0] (payloadLength 0x21) ∧
    carries (13 :: zeros 13) (payloadLength 0x01) ∧ carries (23 :: zeros 23) (payloadLength 0x02) ∧
    resetting.mainPowered = true ∧ resetting.pnl.resetPending = true := by
  refine ⟨rfl, by decide, by decide, by decide, ?_, ?_, ⟨0, [], rfl, rfl, rfl⟩, ⟨13, zeros 13, rfl, rfl, rfl⟩,
    ⟨23, zeros 23, rfl, rfl, rfl⟩, rfl, rfl⟩
  · rintro ⟨l, p, h, -⟩; cases h
  · rintro ⟨l, p, h, h1, -⟩; cases h; revert h1; decide

theorem witness_FrameOfBytes : [(0x03 : Byte), 0].head? ≠ some 0xFF ∧ [(0xFF : Byte), 0].head? = some 0xFF := by decide

/-- SETUP with an active cycle found. -/
def configActive : State := { config with pjr := { config.pjr with activeFound := true } }

theorem witness_SetupTaken :
    ∀ s ∈ [config, configActive], s.mainPowered = true ∧ (13 : Byte).toNat = 13 ∧ setupPayload.length = 13 ∧
      s.pnl.resetPending = false ∧ s.pnl.setupDone = false ∧ s.pjr.scanDone = true ∧ s.csq.state = .config ∧
      (setupFaults setupPayload).all (· = false) = true := by decide

theorem witness_CommandsRefused :
    idle.mainPowered = true ∧ setupPayload.length = 13 ∧ idle.pnl.resetPending = false ∧ idle.pnl.setupDone = true ∧
    State.reset.pnl.setupDone = false ∧ State.reset.pjr.scanDone = false ∧ config.pjr.scanDone = true ∧
    true ∈ setupFaults (zeros 13) ∧ startPayload.length = 23 ∧
    heat.csq.state ≠ .idle ∧ heat.csq.state ≠ .done ∧ heat.csq.state ≠ .abandoned ∧
    (∀ st ∈ [CycleState.idle, .done, .abandoned], (inState idle st).csq.state = st ∧ { inState idle st with ost := .reset }.ost.doorOpen = true) ∧
    idle.csq.state ≠ .heat ∧ idle.csq.state ≠ .extend ∧ idle.csq.state ≠ .cool ∧ idle.csq.state ≠ .guard ∧
    idle.csq.state ≠ .paused ∧ idle.csq.state ≠ .planReady ∧ { paused .heat with ost := .reset }.ost.doorOpen = true ∧
    (paused .heat).csq.state = .paused ∧ { ready with ost := .reset }.csq.state = .planReady ∧
    { ready with ost := .reset }.ost.doorOpen = true ∧ { abandoned with ost := .reset }.csq.state = .abandoned ∧
    { abandoned with ost := .reset }.ost.doorOpen = true := by decide

theorem witness_StartTaken :
    ∀ s ∈ [idle, inState idle .done, inState idle .abandoned], s.mainPowered = true ∧ (23 : Byte).toNat = 23 ∧
      startPayload.length = 23 ∧ s.pnl.resetPending = false ∧
      (s.csq.state = .idle ∨ s.csq.state = .done ∨ s.csq.state = .abandoned) ∧ s.ost.doorOpen = false ∧
      s.ost.motor = .stopped := by decide

/-- Both ends of a field, its default and a value beyond (R3). -/
theorem witness_DescriptorClamps :
    clampDescriptor 8 desc = (desc, List.replicate 15 false) ∧
    (clampDescriptor 0 desc).1.stages = 1 ∧ (clampDescriptor 8 { desc with exhLimit := 255 }).1.exhLimit = 150 ∧
    (clampDescriptor 8 { desc with exhLimit := 254 }).1.exhLimit = 220 ∧
    (clampDescriptor 8 { desc with wetThreshold := 65535 }).1.wetThreshold = 64 ∧
    idle.settings.weight2 = 8 ∧ descriptorOfBytes startPayload = desc ∧ startPayload.length = 23 ∧ idle.mainPowered = true ∧
    idle.pnl.resetPending = false ∧ idle.csq.state = .idle ∧ idle.ost.doorOpen = false := by decide

theorem witness_PauseContinueCancelTaken :
    (∀ s ∈ [heat, extend, cool, guard], s.mainPowered = true ∧ s.pnl.resetPending = false ∧
      (s.csq.state = .heat ∨ s.csq.state = .extend ∨ s.csq.state = .cool ∨ s.csq.state = .guard)) ∧
    (∀ p ∈ [(Phase.heat, CycleState.heat), (.extend, .extend), (.cool, .cool), (.guard, .guard)],
      (paused p.1).csq.state = .paused ∧ (paused p.1).ost.doorOpen = false ∧
      (((paused p.1).csq.cyc.before = .heat ∧ p.2 = .heat) ∨ ((paused p.1).csq.cyc.before = .extend ∧ p.2 = .extend) ∨
        ((paused p.1).csq.cyc.before = .cool ∧ p.2 = .cool) ∨ ((paused p.1).csq.cyc.before = .guard ∧ p.2 = .guard))) := by
  decide

theorem witness_ConfirmAndDeclineTaken :
    ready.mainPowered = true ∧ ready.pnl.resetPending = false ∧ ready.csq.state = .planReady ∧
    ready.ost.doorOpen = false := by decide

theorem witness_ForceTaken :
    abandoned.mainPowered = true ∧ abandoned.pnl.resetPending = false ∧ abandoned.csq.state = .abandoned ∧
    abandoned.ost.doorOpen = false ∧
    ∃ r, abandoned.rpl.basis = some r ∧ r.cyc.phase.active = true := ⟨rfl, rfl, rfl, rfl, _, rfl, rfl⟩

/-- A plan with an outcome. -/
def planOf (o : PlanOutcome) (g : Nat) : Plan := { Plan.reset with outcome := o, newExt := 422, newGuard := g }

/-- PLAN_READY over a cycle paused out of GUARD. -/
def readyPaused : State := { ready with csq := { ready.csq with cyc := (paused .guard).csq.cyc } }

theorem witness_PlanExecuted :
    planning.csq.state = .planning ∧ ready.csq.state = .planReady ∧ abandoned.csq.state = .abandoned ∧
    (∀ o ∈ [PlanOutcome.resumeHeat, .resumeExtend, .resumeCool, .resumeGuard, .resumePaused], (planOf o 1).outcome = o) ∧
    (planOf .resumeGuard 1).newGuard ≠ 0 ∧ (planOf .resumePaused 1).newGuard ≠ 0 ∧ readyPaused.csq.state = .planReady ∧
    (planOf .resumeGuard 0).newGuard = 0 ∧ (planOf .resumeGuard 0).outcome = .resumeGuard ∧
    (planOf .resumePaused 0).outcome = .resumePaused ∧ readyPaused.csq.cyc.before = .guard := by decide

theorem witness_Reads :
    (∀ s ∈ [idle, planning, ready], s.mainPowered = true ∧ s.pnl.resetPending = false) ∧ idle.rpl.state = .empty ∧
    planning.rpl.state = .making ∧ ready.rpl.state = .made ∧ idle.pjr.scanDone = true ∧
    State.reset.pjr.scanDone = false := by decide

theorem witness_SnapshotLayout :
    (152, 1, heat.fsu.effective) ∈ [(0, 1, cycleCode heat.csq.state), (152, 1, heat.fsu.effective)] ∧
    fieldAt (snapshot heat) 152 1 = 40 ∧ fieldAt (snapshot heat) 0 1 = 2 ∧ fieldAt (snapshot heat) 10 2 = 1000 := by
  decide +kernel

theorem witness_TwoStepReset :
    idle.mainPowered = true ∧ idle.pnl.resetPending = false ∧ idle.pnl.resetEnable = false ∧
    { heat with pnl := { heat.pnl with resetEnable := true } }.pnl.resetEnable = true ∧
    heat.csq.cyc.phase.active = true ∧ heat.csq.state ≠ .planning ∧ idle.csq.cyc.phase.active = false ∧
    blinking.pnl.resetEnable = true ∧ blinking.csq.cyc.phase.active = true ∧ blinking.csq.state = .planning := by decide

/-- No slot is left: the pointer's sector is full and the next is not erased. -/
def jammed : State := { heat with pjr := { heat.pjr with ptrSlot := 64, sector1 := .torn } }

/-- An erase of sector 1 that is suspended, or about to be. -/
def halted (op : FlashOp) (s : State) : State := { s with pjr := { s.pjr with op := op } }

theorem witness_RecordRequested :
    ((halted (.suspended 1) heat).pjr.op = .suspended 1 ∧ (halted (.suspended 1) heat).pjr.fault = false ∧
      (halted (.suspended 1) heat).pjr.pend = none ∧ ((halted (.suspended 1) heat).pjr.usable true).isSome = true) ∧
    (let s := { halted (.suspended 1) jammed with pjr := { (halted (.suspended 1) jammed).pjr with lossMark := true } }
     s.pjr.op = .suspended 1 ∧ s.pjr.usable true = none ∧ s.pjr.lossMark = true ∧ s.pjr.fault = false) ∧
    ((halted (.suspending 1) heat).pjr.op = .suspending 1 ∧ (halted (.suspending 1) heat).pjr.fault = false ∧
      (halted (.suspending 1) heat).pjr.pend = none) ∧
    { heat with pjr := { heat.pjr with fault := true } }.pjr.fault = true ∧ heat.pjr.fault = false ∧
    (heat.pjr.usable true).isSome = true ∧ programming.pjr.op.programs = true ∧ suspends heat.pjr.op = false ∧
    jammed.pjr.fault = false ∧ jammed.pjr.op.programs = false ∧ jammed.pjr.usable true = none := by decide

/-- At their last second but one, and at their last (R13). -/
theorem witness_SecondCounts :
    (∀ s ∈ [heat, extend, cool, guard, idle], s.mainPowered = true ∧ s.pnl.resetPending = false ∧ s.csq.progress < 19) ∧
    { heat with csq := { heat.csq with progress := 18 } }.csq.progress < 19 ∧
    heat.csq.state = .heat ∧ ¬ dryFires heat ∧ ¬ holdFires heat ∧ faultsAfter heat < 30 ∧
    heatedAfter heat < heat.csq.desc.maxHeat ∧
    extend.csq.state = .extend ∧ ¬ holdFires extend ∧ faultsAfter extend < 30 ∧
    heatedAfter extend < extend.csq.desc.maxHeat ∧ (extendSecond extend).extDone < extend.csq.cyc.extTotal ∧
    cool.csq.state = .cool ∧ ¬ coolEnds cool ∧
    guard.csq.state = .guard ∧ (guardSecond guard).guardRemaining ≠ 0 ∧
    { guard with csq := { guard.csq with cyc := { guard.csq.cyc with burstTimer := 1 } } }.csq.cyc.burstTimer ≤ 1 ∧
    guard.csq.cyc.burst = .rest ∧ idle.csq.state.runs = false := by decide +kernel

/-- HEAT at 929 heated seconds, quiet and with a full window at this second's sample. -/
def dryAt (n : Nat) : State :=
  { heat with csq := { heat.csq with cyc := { cyc with heated := n } }
              dwn := { heat.dwn with resultSeen := true, window := List.replicate 31 false } }

theorem witness_DryPointReached :
    ∀ s ∈ [dryAt 929, dryAt 3599, { dryAt 929 with csq := { (dryAt 929).csq with desc := { desc with x := 0 } } }],
      s.mainPowered = true ∧ s.pnl.resetPending = false ∧ s.csq.progress < 19 ∧ s.csq.state = .heat ∧ dryFires s ∧
      holdAfter s = false ∧ faultsAfter s < 30 ∧ heatedAfter s < s.csq.desc.maxHeat := by decide +kernel

theorem witness_DryPointAtHeatLimit :
    let s := dryAt 3600
    s.mainPowered = true ∧ s.pnl.resetPending = false ∧ s.csq.progress < 19 ∧ s.csq.state = .heat ∧ dryFires s ∧
    holdAfter s = false ∧ faultsAfter s < 30 ∧ heatedAfter s = s.csq.desc.maxHeat ∧ s.csq.cyc.tDry = 0 ∧
    s.csq.cyc.extTotal = 0 ∧ s.csq.cyc.extDone = 0 := by decide +kernel

/-- EXTEND whose last second this is. -/
def extendLast : State :=
  { extend with csq := { extend.csq with fired := true, cyc := { extend.csq.cyc with extDone := 299 } } }

/-- COOL at its longest, and cool enough after its shortest (R12). -/
def coolLast (elapsed exh : Nat) : State :=
  { cool with csq := { cool.csq with cyc := { cool.csq.cyc with coolElapsed := elapsed } }, dwn := { cool.dwn with exh := exh } }

/-- GUARD with one second left. -/
def guardLast : State :=
  { guard with csq := { guard.csq with cyc := { guard.csq.cyc with guardRemaining := 1, burstTimer := 1 } } }

theorem witness_PhaseTests :
    (let s := { heat with csq := { heat.csq with fired := true, cyc := { cyc with heated := 3599 } } }
     s.mainPowered = true ∧ s.pnl.resetPending = false ∧ s.csq.progress < 19 ∧ s.csq.state = .heat ∧ ¬ dryFires s ∧
       holdAfter s = false ∧ faultsAfter s < 30 ∧ s.csq.desc.maxHeat ≤ heatedAfter s) ∧
    (extendLast.csq.state = .extend ∧ holdAfter extendLast = false ∧ faultsAfter extendLast < 30 ∧
      extendLast.csq.cyc.extTotal ≤ (extendSecond extendLast).extDone ∧ extendLast.csq.progress < 19) ∧
    (coolEnds (coolLast 599 150) ∧ coolEnds (coolLast 119 100) ∧ ¬ coolEnds (coolLast 119 101) ∧
      ¬ coolEnds (coolLast 118 100) ∧ (coolLast 599 150).csq.state = .cool ∧ 0 < (coolLast 599 150).csq.desc.guardTotal) ∧
    { coolLast 599 150 with csq := { (coolLast 599 150).csq with desc := { desc with guardTotal := 0 } } }.csq.desc.guardTotal = 0 ∧
    guardLast.csq.state = .guard ∧ (guardSecond guardLast).guardRemaining = 0 := by decide +kernel

theorem witness_HeatingEndsOnFault :
    (∀ s ∈ [heat, extend].map (fun s => { s with scv := { s.scv with refFault := true }, csq := { s.csq with faultCount := 29 } }),
      s.mainPowered = true ∧ s.pnl.resetPending = false ∧ s.csq.progress < 19 ∧
      (s.csq.state = .heat ∨ s.csq.state = .extend) ∧ ¬ dryFires s ∧ sensorFault s = true ∧ 29 ≤ s.csq.faultCount ∧
      holdAfter s = false) ∧
    (∀ s ∈ [heat, extend].map (fun s => { s with ost := { s.ost with airCount := 0, airHold := true, cumHold := 599 } }),
      ¬ dryFires s ∧ holdFires s ∧ s.ost.cumHold ≤ 600 ∧ faultsAfter s < 30 ∧ heatedAfter s < s.csq.desc.maxHeat ∧
      (s.csq.state = .extend → (extendSecond s).extDone < s.csq.cyc.extTotal)) ∧
    (let s := { heat with csq := { heat.csq with fired := true, cyc := { cyc with heated := 3599 } }
                          ost := { heat.ost with airCount := 0, airHold := true, cumHold := 599 } }
     s.mainPowered = true ∧ s.pnl.resetPending = false ∧ s.csq.progress < 19 ∧ ¬ dryFires s ∧ holdFires s ∧
       s.ost.cumHold ≤ 600 ∧ faultsAfter s < 30 ∧ s.csq.state = .heat ∧ s.csq.desc.maxHeat ≤ heatedAfter s) := by
  decide +kernel

theorem witness_ProgressRecorded :
    ∀ s ∈ [heat, extend, cool, guard].map (fun s => { s with csq := { s.csq with progress := 19 } }),
      s.mainPowered = true ∧ s.pnl.resetPending = false ∧ 19 ≤ s.csq.progress ∧ ¬ holdFires s ∧
      ((s.csq.state = .heat ∧ ¬ dryFires s ∧ faultsAfter s < 30 ∧ heatedAfter s < s.csq.desc.maxHeat) ∨
        (s.csq.state = .extend ∧ faultsAfter s < 30 ∧ heatedAfter s < s.csq.desc.maxHeat ∧
          (extendSecond s).extDone < s.csq.cyc.extTotal) ∨
        (s.csq.state = .cool ∧ ¬ coolEnds s) ∨
        (s.csq.state = .guard ∧ (guardSecond s).guardRemaining ≠ 0)) := by decide +kernel

theorem witness_AirflowHold :
    (let s := { heat with ost := { heat.ost with airCount := 2, lowRun := 4 } }
     s.mainPowered = true ∧ s.ost.airJudge = true ∧ s.ost.airCount < s.settings.airflowMin ∧ s.ost.lowRun = 4 ∧
       s.ost.airHold = false) ∧
    (let s := { heat with ost := { heat.ost with airCount := 3, goodRun := 4, airHold := true } }
     s.ost.airJudge = true ∧ s.settings.airflowMin ≤ s.ost.airCount ∧ s.ost.goodRun = 4 ∧ s.ost.airHold = true) := by decide

theorem witness_StrapDecode :
    (∀ n ∈ [0, 63], config.mainPowered = true ∧ ∀ r ∈ [true, false],
      let s := { config with scv := { config.scv with meas := .strapGate, refValid := r, nRef := 4000, attempt := 3 } }
      s.scv.meas = .strapGate ∧ ((s.scv.refValid = true ∧ n < 64) ∨ (s.scv.refValid = false ∧ 3 ≤ s.scv.attempt))) := by
  decide

/-- The strap phase at a strap's gate. -/
def strapGate (pair attempt : Nat) (valid : Bool) : State :=
  { config with scv := { config.scv with meas := .strapGate, refValid := valid, nRef := 4000, pair := pair, attempt := attempt,
                                         passLevels := [some 3, some 1, some 3].take (pair - 1) } }

theorem witness_StrapPhase :
    config.mainPowered = true ∧ config.scv.meas = .strapRef ∧
    (strapGate 1 2 false).scv.meas = .strapGate ∧ (strapGate 1 2 false).scv.refValid = false ∧
    (strapGate 1 2 false).scv.attempt < 3 ∧ 3 ≤ (strapGate 1 3 false).scv.attempt ∧ (strapGate 3 1 true).scv.refValid = true ∧
    (strapGate 3 1 true).scv.pair < 4 ∧ (strapGate 4 1 true).scv.pair = 4 ∧
    (strapGate 4 1 true).scv.passLevels = [some 3, some 1, some 3] := by decide

/-- Counts at both edges of the reference and of the direct ratio, and pairs whose result is a fault (R32, R34, R38). -/
theorem witness_SensorMeasurements :
    idle.mainPowered = true ∧ idle.scv.meas = .ref ∧ idle.scv.refFault = false ∧
    (∀ p ∈ [1, 2, 3, 4], (atGate idle p).scv.meas = .gate ∧ (atGate idle p).scv.refValid = true ∧ ¬ planWaits (atGate idle p) ∧
      (atPeriod idle p).scv.meas = .period ∧ ¬ planWaits (atPeriod idle p)) ∧
    { atGate idle 2 with scv := { (atGate idle 2).scv with refValid := false } }.scv.refValid = false ∧ (63 < 64) ∧
    planWaits planning ∧
    (let w := fun n => min (1024 * min n 1048575 / (atGate idle 2).scv.nRef) 65535
     w 624 < 160 ∧ (atGate idle 2).scv.exhFault ≠ .opened ∧ 30000 < w 117192 ∧ (atGate idle 4).scv.inlFault ≠ .short ∧
       160 ≤ w 76000 ∧ w 76000 ≤ 30000 ∧ 220 ≤ codeOfRatio (w 76000) ∧ (atGate idle 4).ost.tripped = false) := by
  decide +kernel

theorem witness_TemperatureCode :
    (160 ≤ 160 ∧ 312 ≤ 312) ∧ (24382 ≤ 24382 ∧ 30000 ≤ 30000) ∧
    codeOfRatio 160 = 0 ∧ codeOfRatio 312 = 0 ∧ codeOfRatio 313 = 0 ∧ codeOfRatio 1024 = 50 ∧ codeOfRatio 24381 = 240 ∧
    codeOfRatio 24382 = 240 ∧ codeOfRatio 30000 = 240 := by decide

/-- PLANNING with other settings, holdover flags or kind of ending. -/
def plans (auto : Bool) (door lost : Bool) : State :=
  { planning with settings := { sets with autoResume := auto }
                  ost := { planning.ost with doorOpen := door }, hdm := { planning.hdm with clockLost := lost } }

theorem witness_PlanMade :
    planning.mainPowered = true ∧ planWaits planning ∧ planning.csq.state = .planning ∧
    pairEnds planning (.gate 9969) (afterResult planning false 9969 0 (some 2552)) true ∧
    (let s := { planning with pnl := { planning.pnl with resetPending := true } }
     planWaits s ∧ s.pnl.resetPending = true ∧ planning.pnl.resetPending = false) ∧
    (let s := { planning with scv := { planning.scv with refValid := false } }
     planWaits s ∧ pairEnds s (.gate 0) (afterInvalid s) false) ∧
    (let s := { planning with scv := { planning.scv with meas := .period, nSensor := 12 } }
     planWaits s ∧ pairEnds s .timeout (afterResult s true 12 0 none) true ∧
       pairEnds s (.period 520) (afterResult s true 12 520 (some 9)) true) ∧
    (decidePlan planning true).outcome = .resumeExtend ∧
    planning.settings.autoResume = true ∧ planning.ost.doorOpen = false ∧ (plans false false false).settings.autoResume = false ∧
    (plans true true false).ost.doorOpen = true ∧ (decidePlan (plans true false true) true).outcome = .abandonedClock ∧
    (decidePlan { planning with hdm := { planning.hdm with clock := 6701 } } true).outcome = .abandonedWindow ∧
    (decidePlan { planning with hdm := { planning.hdm with doorLatch := true } } true).outcome = .endedDoor ∧
    (decidePlan { planning with pjr := idle.pjr } true).outcome = .none := by
  refine ⟨rfl, by decide, rfl, ⟨rfl, Or.inr ⟨rfl, by decide, rfl, rfl⟩⟩, by decide,
    ⟨by decide, rfl, Or.inl ⟨rfl, rfl, rfl⟩⟩,
    ⟨by decide, ⟨rfl, rfl, rfl⟩, ⟨rfl, rfl, rfl⟩⟩, ?_⟩
  decide +kernel

theorem witness_PlanDecided :
    planSource planning = some (recordOf .loss { cyc with phase := .extend, extTotal := 290, extDone := 100 }) ∧
    planSource idle = none ∧ planning.hdm.clockLost = false ∧
    (∀ p ∈ [Phase.heat, .extend, .cool, .guard], (recordOf .loss { cyc with phase := p }).cyc.phase = p) ∧
    (recordOf .loss (paused .extend).csq.cyc).cyc.phase = .paused ∧ (recordOf .loss (paused .extend).csq.cyc).cyc.before = .extend ∧
    (recordOf .loss (paused .guard).csq.cyc).cyc.before = .guard ∧ (recordOf .loss (paused .heat).csq.cyc).cyc.before = .heat := by
  decide

/-- 1800 s of the window are used by this second, or 1801. -/
def waited (n : Nat) : State := { ready with rpl := { ready.rpl with plan := { ready.rpl.plan with outage := some 1000, waited := n } } }

theorem witness_HoldoverEvents :
    idle.hdm.powered = true ∧ dark.hdm.powered = true ∧ idle.csq.state ≠ .planReady ∧
    (∀ n ∈ [799, 800], (waited n).hdm.powered = true ∧ (waited n).mainPowered = true ∧ (waited n).csq.state = .planReady ∧
      (waited n).pnl.resetPending = false ∧ (waited n).hdm.clock < 4294967295) ∧
    (waited 799).rpl.plan.outage.getD 0 + satInc 65535 (waited 799).rpl.plan.waited ≤ (waited 799).settings.resumeWindow ∧
    (waited 800).settings.resumeWindow < (waited 800).rpl.plan.outage.getD 0 + satInc 65535 (waited 800).rpl.plan.waited ∧
    (let s := { waited 800 with pnl := { idle.pnl with resetPending := true } }
     s.pnl.resetPending = true ∧ s.rpl.plan.disposition ≠ .abandoned) ∧
    (let s := { waited 801 with pnl := { idle.pnl with resetPending := true }
                                rpl := { (waited 801).rpl with plan := (waited 801).rpl.plan.expired } }
     s.pnl.resetPending = true ∧ s.rpl.plan.disposition = .abandoned ∧ s.csq.state = .planReady) := by
  decide

/-- Intervals of 3000 and 3001 microseconds, and the crossing into position 0. -/
theorem witness_CrossingInPresent :
    (let s := { idle with mwt := { idle.mwt with missing := 0 } }
     ¬ accepts s 3000 ∧ accepts s 3001 ∧ s.mainPowered = true ∧ s.mwt.state = .present) ∧
    accepts State.reset 0 ∧
    (accepts hot 1000 ∧ hot.mainPowered = true ∧ hot.mwt.state = .present ∧
      hot.pnl.setupDone = true ∧ positionAfter hot = 0) := by decide

/-- EXH at the limit, one below it, 5 °C below it, and one nearer. -/
def warm (code stages : Nat) : State :=
  { heat with dwn := { heat.dwn with exh := code }, csq := { heat.csq with desc := { desc with stages := stages } } }

theorem witness_DutiesRegulated :
    (∀ c ∈ [150, 149, 141, 140], ∀ n ∈ [1, 2], (warm c n).csq.state.heats = true ∧ (warm c n).scv.exhFault = .none ∧
      (warm c n).scv.refFault = false ∧ (warm c n).csq.desc.stages = n) ∧
    ¬(idle.csq.state.heats = true) ∧
    (warm 150 2).csq.desc.exhLimit ≤ (warm 150 2).dwn.exh ∧ ¬((warm 149 2).csq.desc.exhLimit ≤ (warm 149 2).dwn.exh) ∧
    ¬((warm 141 2).dwn.exh + 10 ≤ (warm 141 2).csq.desc.exhLimit) ∧ (warm 140 2).dwn.exh + 10 ≤ (warm 140 2).csq.desc.exhLimit ∧
    (0 < 4 ∧ 28 < (warm 140 2).settings.modulus ∧ (warm 140 2).settings.modulus ≤ 32) ∧
    (hot.mainPowered = true ∧ accepts hot 1000 ∧ hot.mwt.state = .present ∧ hot.pnl.setupDone = true ∧ positionAfter hot = 0 ∧
      hot.ost.stage1.pending = 32 ∧ hot.ost.stage2.pending = 32) := by decide

/-- MEASURING with a block sum that averages to a given half-period at this crossing of 10 000. -/
def blockAt (avg : Nat) : State := { measuring with mwt := { measuring.mwt with blockSum := 16 * avg - 10000 } }

theorem witness_MainsMeasured :
    (∀ a ∈ [7499, 7500, 8999, 9000, 11000, 11001],
      (blockAt a).mainPowered = true ∧ accepts (blockAt a) 1000 ∧ (blockAt a).mwt.state = .measuring ∧ (blockAt a).mwt.blockOpen = true ∧
      (blockAt a).mwt.missing + 1000 ≤ 16500 ∧ (blockAt a).mwt.blockCount = 15 ∧
      ((blockAt a).mwt.blockSum + ((blockAt a).mwt.missing + 1000)) / 16 = a) ∧
    State.reset.mwt.blockOpen = false ∧ 16500 < measuring.mwt.missing + 7501 ∧
    { measuring with mwt := { measuring.mwt with blockCount := 14 } }.mwt.blockCount < 15 ∧
    { measuring with mwt := { measuring.mwt with state := .lineFault } }.mwt.state = .lineFault ∧
    measuring.mwt.warning = false ∧ { measuring with mwt := { measuring.mwt with warning := true } }.mwt.warning = true ∧
    measuring.csq.state ≠ .holdoverWait ∧
    (let s := inState { measuring with mwt := { measuring.mwt with state := .lineFault, warning := true } } .holdoverWait
     s.mwt.state = .lineFault ∧ s.mwt.warning = true ∧ s.csq.state = .holdoverWait ∧ s.pnl.resetPending = false) := by decide

/-- RETURNING with counts of good half-periods and crossings. -/
def returned (good crossings : Nat) : State :=
  { returning with mwt := { returning.mwt with returnCount := good, returnCrossings := crossings } }

theorem witness_MainsReturns :
    (let s := { returning with mwt := { returning.mwt with state := .lossWarning } }
     s.mainPowered = true ∧ accepts s 1000 ∧ s.mwt.state = .lossWarning) ∧
    (returning.mainPowered = true ∧ returning.mwt.state = .returning ∧ accepts returning 1000) ∧
    (returning.mwt.cls = .hz50 ∧ 9000 ≤ returning.mwt.missing + 0 ∧ returning.mwt.missing + 2000 ≤ 11000) ∧
    ((returned 6 62).mwt.returnCount < 7 ∧ (returned 6 62).mwt.returnCrossings < 63) ∧
    ¬(returning.mwt.missing + 2001 ≤ 11000) ∧
    ((returned 7 63).mwt.returnCount = 7 ∧ (returned 7 63).mwt.warning = true ∧ (returned 7 63).csq.state = .holdoverWait ∧
      (returned 7 63).pnl.resetPending = false ∧ (inState (returned 7 63) .loss).csq.state ≠ .holdoverWait) ∧
    ((returned 6 63).mwt.returnCount < 7 ∧ (returned 6 63).mwt.returnCrossings = 63 ∧
      ¬((returned 6 63).mwt.returnCount = 7)) := by decide

/-- An END record of a host reset waits with its orderly mark. -/
def orderly : State := { resetting with pjr := { idle.pjr with pend := some (pendOf .finish true true false) } }

theorem witness_LossOfMains :
    (∀ s ∈ [heat, cool, paused .heat, idle, ready, config, inState idle .done, inState idle .abandoned, inState idle .planning,
        inState idle .holdoverWait, inState idle .loss],
      s.mainPowered = true ∧ s.mwt.warning = false ∧ s.pnl.resetPending = false ∧ s.mwt.railTripped = false ∧
      s.mwt.state ≠ .lossWarning ∧ s.csq.endAwaited = false ∧ s.pjr.pend = none ∧
      s.pjr.holdsOrderly = false) ∧
    (resetting.pnl.resetPending = true ∧ resetting.mwt.warning = false ∧ resetting.mwt.railTripped = false) ∧
    (let s := inState waiting .done
     s.csq.state = .done ∧ s.pjr.pend.isSome = true ∧ s.csq.endAwaited = false ∧ s.mwt.warning = false) ∧
    heat.mwt.state = .present ∧ heat.csq.state.runs = true ∧ (paused .heat).csq.state = .paused ∧
    (∃ p, orderly.pjr.pend = some p ∧ p.orderly = true ∧ (orderly.pjr.usable p.urgent).isSome = true) ∧
    (∃ p, waiting.pjr.pend = some p ∧ p.orderly = false) ∧
    (let s := { jammed with pjr := { jammed.pjr with pend := some (pendOf .finish true true false) } }
     ∃ p, s.pjr.pend = some p ∧ p.orderly = true ∧ s.pjr.op.programs = false ∧ s.pjr.usable p.urgent = none) :=
  ⟨by decide, by decide, by decide, rfl, rfl, rfl, ⟨_, rfl, rfl, by decide⟩, ⟨_, rfl, rfl⟩, ⟨_, rfl, rfl, rfl, by decide⟩⟩

theorem witness_MainsWatchAlone :
    measuring.mainPowered = true ∧ measuring.mwt.state = .measuring ∧
    { measuring with mwt := { measuring.mwt with state := .lineFault } }.mwt.state = .lineFault ∧
    returning.mwt.state = .returning ∧ returning.mwt.warning = true ∧ returning.mwt.railTripped = false ∧
    (let s := { returning with mwt := { returning.mwt with state := .lossWarning } }
     s.mwt.state = .lossWarning ∧ s.mwt.railTripped = false) ∧
    { returning with mwt := { returning.mwt with railTripped := true } }.mwt.railTripped = true := by decide

theorem witness_MotorAndDoor :
    starting.mainPowered = true ∧ starting.ost.motor = .starting ∧ starting.ost.stopDue = false ∧ starting.fsu.start ≠ .release ∧
    { idle with ost := { idle.ost with coast := some 0 } }.ost.coast ≠ none ∧
    { idle with ost := { idle.ost with dropTimer := some 0 } }.ost.dropTimer ≠ none ∧
    { idle with ost := { idle.ost with doorOpen := true } }.ost.doorOpen = true ∧
    (∀ s ∈ [heat, extend, cool, guard, idle], s.ost.doorOpen = false ∧ s.pnl.resetPending = false) ∧
    heat.ost.motor ≠ .stopped ∧ guard.csq.state = .guard ∧ idle.csq.state.runs = false ∧ resetting.pnl.resetPending = true := by
  decide

/-- The pointer at its slots of decision (R102). -/
def pointed (slot : Nat) : State := { programming with pjr := { programming.pjr with ptrSlot := slot } }

theorem witness_ProgramRuns :
    waiting.mainPowered = true ∧
    (∃ p, waiting.pjr.pend = some p ∧ waiting.pjr.fault = false ∧ waiting.pjr.usable p.urgent = some (0, 0) ∧ waiting.pjr.op = .ready) ∧
    (let s := { waiting with pjr := { waiting.pjr with op := .suspended 1 } }
     ∃ p, s.pjr.pend = some p ∧ s.pjr.op = .suspended 1 ∧ p.urgent = true ∧ p.orderly = false ∧ s.pjr.usable p.urgent = some (0, 0)) ∧
    (∃ p r, programming.pjr.pend = some p ∧ programming.pjr.op = .programming 0 0 none ∧ programming.pjr.prog = some r ∧
      FlashOk programming ∧ p.inFlight = true ∧ programming.pjr.fault = false ∧ r.sequence < 4294967294 ∧
      programming.pjr.consecutive = 0 ∧ (programming.pjr.usable p.urgent).isSome = true ∧ p.copy.kind ≠ .loss ∧ p.hurried = false) ∧
    { pointed 62 with pjr := { (pointed 62).pjr with prog := some { recordOf .phase cyc with sequence := 4294967294 } } }.pjr.prog.any
      (fun r : Record => decide (4294967294 ≤ r.sequence)) = true ∧
    (let s := pointed 63
     let u := { s with pjr := { s.pjr with sector1 := .erasing, pend := some (pendOf .loss true false true) } }
     u.pjr.consecutive = 0 ∧ u.pjr.ptrSector < 4 ∧ u.pjr.ptrSlot ≤ 63 ∧ ¬ roomAfter u true ∧ roomAfter s true) ∧
    (pointed 62).pjr.ptrSlot < 63 ∧ (pointed 63).pjr.ptrSlot = 63 ∧ (pointed 63).pjr.ptrSector < 4 ∧
    (pointed 63).pjr.sector (((pointed 63).pjr.ptrSector + 1) % 4) = .erased ∧
    { pointed 63 with pjr := { (pointed 63).pjr with sector1 := .erasing } }.pjr.sector 1 ≠ .erased ∧
    (inState programming .loss).csq.state = .loss ∧ programming.csq.state ≠ .loss ∧ programming.csq.endAwaited = false ∧
    programming.pnl.resetPending = false ∧ { programming with pjr := { programming.pjr with consecutive := 1 } }.pjr.consecutive = 1 := by
  refine ⟨rfl, ⟨_, rfl, rfl, by decide, rfl⟩, ⟨_, rfl, rfl, rfl, rfl, by decide⟩,
    ⟨_, _, rfl, rfl, rfl, by decide, rfl, rfl, by decide, rfl, by decide, by decide, rfl⟩, ?_⟩
  decide

/-- An erase of sector 1 with no record waiting. -/
def erasingIdle : State := { idle with pjr := { idle.pjr with op := .erasing 1, sector1 := .erasing } }

theorem witness_EraseRuns :
    (idle.mainPowered = true ∧ 0 < 4 ∧ 3 < 4) ∧
    (let s := { idle with pjr := { idle.pjr with queue := [1] } }
     s.pjr.op = .ready ∧ s.pjr.pend = none ∧ s.pjr.fault = false ∧ s.pjr.queue = 1 :: []) ∧
    (erasingIdle.pjr.op = .erasing 1 ∧ erasingIdle.pjr.pend = none ∧ FlashOk erasingIdle ∧ erasingIdle.pjr.ptrSlot < 64 ∧
      erasingIdle.pjr.eraseAgain = false ∧ erasingIdle.pjr.fault = false) ∧
    { erasingIdle with pjr := { erasingIdle.pjr with op := .suspending 1 } }.pjr.op = .suspending 1 ∧
    { erasingIdle with pjr := { erasingIdle.pjr with ptrSlot := 64 } }.pjr.ptrSlot = 64 ∧ 1 = (erasingIdle.pjr.ptrSector + 1) % 4 ∧
    { erasingIdle with pjr := { erasingIdle.pjr with eraseAgain := true } }.pjr.eraseAgain = true ∧
    (∃ p, erasing.pjr.pend = some p ∧ p.urgent = true ∧ p.orderly = false ∧ erasing.pjr.usable true = some (0, 40) ∧
      erasing.pjr.op = .erasing 1 ∧ (∀ t, erasing.pjr.sinceResume = some t → 1000 ≤ t) ∧ erasing.pjr.fault = false ∧
      1 ≠ erasing.pjr.ptrSector) ∧
    (∀ t ∈ [999, 1000], { erasing with pjr := { erasing.pjr with sinceResume := some t } }.pjr.sinceResume = some t) := by
  refine ⟨by decide, ⟨rfl, rfl, rfl, rfl⟩, by decide, rfl, rfl, rfl, rfl,
    ⟨_, rfl, rfl, rfl, by decide, rfl, ?_, rfl, by decide⟩, by decide⟩
  intro t h; cases h

/-- A scan over a flash. -/
def scanOver (m : List Host.Cell) : State := { State.reset with flash := m }

/-- One record, in slot 0 of sector 0, with a programmed slot behind a blank one in sector 2. -/
def oneRecord : List Host.Cell := putSlot [] 0 0 (recordBytes (recordOf .loss cyc)) ++ [(8256, 0)]

theorem oneRecord_newest : (readRing oneRecord).newest = some ⟨recordOf .loss cyc, 0, 0⟩ := by decide +kernel

/-- The last of the sequence numbers, in slot 0 of sector 0. -/
def lastRecord : List Host.Cell := putSlot [] 0 0 (recordBytes { recordOf .loss cyc with sequence := 4294967295 })

/-- It is in use, and no record takes it again (R103, R106). -/
theorem test_scan_numbers_used : (scanComplete (scanOver lastRecord)).pjr.fault = true := by
  have h : (readRing lastRecord).newest = some ⟨{ recordOf .loss cyc with sequence := 4294967295 }, 0, 0⟩ := by
    decide +kernel
  exact scanComplete_numbersUsed (s := scanOver lastRecord) rfl h rfl

/-- A sector whose last slot alone is VALID, after 63 BAD ones. -/
def lastSlot : List SlotRead := List.replicate 63 .bad ++ [.valid (recordOf .loss cyc)]

/-- Its cells, in sector 0. -/
def lastSlotCells : List Host.Cell :=
  (List.range 63).map (fun i => (slotBase 0 i, 0)) ++ putSlot [] 0 63 (recordBytes (recordOf .loss cyc))

/-- The bytes of each BAD slot. -/
def badBytes : List Byte := 0 :: List.replicate 63 0xFF

theorem badBytes_bad : readSlotBytes badBytes = .bad := by decide +kernel

theorem lastSlotCells_bad : ∀ i ∈ List.range 63,
    Memory.within lastSlotCells (slotBase 0 i) 64 = [(slotBase 0 i, 0)] ∧
    Memory.bytes [(slotBase 0 i, 0)] (slotBase 0 i) 64 = badBytes := by decide +kernel

theorem lastSlotCells_last : readSlot lastSlotCells 0 63 = .valid (recordOf .loss cyc) := by decide +kernel

theorem lastSlot_read (rest : List Host.Cell) (h : Memory.within rest 0 4096 = []) :
    readSector (lastSlotCells ++ rest) 0 = lastSlot := by
  have e : Memory.within (lastSlotCells ++ rest) (0 * 4096) 4096 = lastSlotCells := by
    rw [Nat.zero_mul, Memory.within, List.filter_append, ← Memory.within, ← Memory.within, h]
    decide +kernel
  unfold readSector
  rw [e, List.range_succ (n := 63), List.map_append, List.map_singleton, lastSlotCells_last]
  refine congrArg (· ++ _) (List.map_eq_replicate_iff.mpr fun i hi => ?_)
  obtain ⟨h1, h2⟩ := lastSlotCells_bad i hi
  rw [readSlot, h1]
  exact (congrArg readSlotBytes h2).trans badBytes_bad
/-- The newest record in the last slot of sector 0, with the rest of the ring blank, or with slot 0 of sector 1 BAD. -/
theorem lastSlot_newest (bad : Bool) :
    (readRing (lastSlotCells ++ if bad then [(4096, 0)] else [])).newest = some ⟨recordOf .loss cyc, 0, 63⟩ := by
  have h : readRing (lastSlotCells ++ if bad then [(4096, 0)] else []) =
      ⟨lastSlot, (if bad then .bad else .blank) :: List.replicate 63 .blank, List.replicate 64 .blank,
        List.replicate 64 .blank⟩ := by
    rw [readRing, lastSlot_read _ (by cases bad <;> decide)]
    cases bad <;> decide +kernel
  rw [h]
  cases bad <;> decide +kernel

/-- No VALID record, and no blank sector. -/
def allBad : List Host.Cell := [(0, 0), (4096, 0), (8192, 0), (12288, 0)]

/-- The newest record with a blank slot after it; in the last slot of its sector, the next blank or not; none, in a blank
ring and in one without a blank sector; and a TORN sector. -/
theorem witness_ScanCompletes :
    (∀ m, (scanOver m).mainPowered = true ∧ (scanOver m).pjr.scanDone = false ∧ (scanOver m).flash = m) ∧
    NewestAt oneRecord 0 0 (recordOf .loss cyc) ∧ (readSector oneRecord 0)[1]? = some .blank ∧
    Torn (readSector oneRecord 2) ∧
    (∀ bad : Bool, let m := lastSlotCells ++ if bad then [(4096, 0)] else []
      NewestAt m 0 63 (recordOf .loss cyc) ∧ Blank ((readSector m 0).drop 64) ∧
      (∀ j, 63 < j → (readSector m 0)[j]? ≠ some .blank) ∧
      (Blank (readSector m 1) ↔ bad = false)) ∧
    (∀ k, k < 4 → Blank (readSector [] k)) ∧
    ((readRing allBad).newest = none ∧ ∀ k, k < 4 → ¬ Blank (readSector allBad k)) := by
  refine ⟨fun m => ⟨rfl, rfl, rfl⟩, newest_some oneRecord_newest, by decide +kernel,
    (isTorn_iff _).mp (by decide +kernel), fun bad => ⟨newest_some (lastSlot_newest bad), ?_, ?_, ?_⟩, ?_, ?_, ?_⟩
  · rw [lastSlot_read _ (by cases bad <;> decide), ← allBlank_iff]; decide +kernel
  · intro j hj
    rw [lastSlot_read _ (by cases bad <;> decide), List.getElem?_eq_none (by simp [lastSlot]; omega)]
    exact nofun
  · rw [← allBlank_iff]; cases bad <;> decide +kernel
  · intro k hk
    rw [← allBlank_iff]
    match k with
    | 0 | 1 | 2 | 3 => decide +kernel
    | n + 4 => omega
  · decide +kernel
  · intro k hk
    rw [← allBlank_iff]
    match k with
    | 0 | 1 | 2 | 3 => decide +kernel
    | n + 4 => omega

theorem witness_LineReceives :
    (gathering.mainPowered = true ∧ State.reset.scv.strapDone = false ∧ gathering.scv.strapDone = true ∧
      gathering.plp.rx = .receiving ∧ gathering.plp.gathered.length = 7 ∧ gathering.pnl.setupDone = true) ∧
    idle.plp.rx ≠ .receiving ∧
    noticeOfBytes (gathering.plp.gathered ++ [lastByte heard]) = some heard ∧
    noticeOfBytes (gathering.plp.gathered ++ [lastByte heard ^^^ 1]) = none ∧ heard.id ≠ gathering.scv.stationId ∧
    (let own := { heard with id := 13, annStart := false }
     let s := { gathering with plp := { gathering.plp with gathered := (noticeBytes own).take 7, echo := noticeBytes own } }
     noticeOfBytes (s.plp.gathered ++ [lastByte own]) = some own ∧ own.id = s.scv.stationId ∧
       s.plp.gathered ++ [lastByte own] = s.plp.echo ∧ s.plp.gathered ++ [lastByte own] ≠ gathering.plp.echo) ∧
    heard.farewell = false ∧ gathering.fsu.peers.length < 30 ∧ (∀ p ∈ gathering.fsu.peers, p.id ≠ heard.id) ∧
    (let s := { gathering with fsu := { gathering.fsu with
        peers := ((List.range 32).filter fun i => i != 0 && i != 4).map fun i => ⟨i, 0, 0, 0, 40, 2, false, 0⟩ } }
     30 ≤ s.fsu.peers.length ∧ ∀ p ∈ s.fsu.peers, p.id ≠ heard.id) ∧
    noticeOfBytes (noticeBytes { heard with farewell := true }) = some { heard with farewell := true } := by decide +kernel

/-- Both stages granted in HEAT, and the notice on the line announces STAGE1 alone. -/
def announcingHeat : State :=
  { heat with
    fsu := { heat.fsu with stage1 := .pending, stage2 := .pending }
    plp := { sending.plp with line := some ⟨false, 13, 16, 16, 24973, 40, 2, false, false, true, false⟩
                              slot := some ⟨false, 13, 16, 16, 24973, 40, 2, false, false, true, false⟩ } }

/-- The same, with the notice replaced meanwhile, at the third sixteenth collision, and as a FAREWELL in IDLE. -/
def renewed : State := { announcingHeat with plp := { announcingHeat.plp with newer := true } }
def lastTry (failures : Nat) : State :=
  { announcingHeat with plp := { announcingHeat.plp with attempts := 15, consecutive := failures } }
def leaving : State :=
  { idle with plp := { sending.plp with attempts := 15, slot := some ⟨true, 13, 0, 0, 0, 40, 0, false, false, false, false⟩ } }

/-- The clauses of LineSends on the steps, the slot and the failed notice. -/
theorem witness_LineSends_steps :
    (announcingHeat.plp.tx = .sending ∧ stepOf announcingHeat.fsu .stage1 = .pending ∧ withinCap announcingHeat ∧
      after .noticeSent announcingHeat (fun t => wanted t .stage1 && wanted t .stage2) = true) ∧
    (announcingHeat.plp.newer = false ∧ renewed.plp.newer = true ∧
      (∀ s ∈ [announcingHeat, renewed], ∀ k ∈ [CoverStep.start, .stage1, .stage2], stepOf s.fsu k ≠ .release) ∧
      ∀ s ∈ [announcingHeat, renewed], after .noticeSent s (fun t => held t = held s && t.fsu.want = s.fsu.want) = true) ∧
    (∀ n ∈ [0, 2], 15 ≤ (lastTry n).plp.attempts ∧ withinCap (lastTry n) ∧ (lastTry n).fsu.isolated = none ∧
      wantTaken (lastTry n) ∧ ((lastTry n).plp.slot.map fun m => announces m .stage1) = some true ∧
      ((lastTry n).plp.slot.map fun m => announces m .stage2) = some false) ∧
    (leaving.plp.slot.map Notice.farewell = some true ∧ held leaving = 0 ∧ leaving.fsu.want = 0) ∧
    (announcingHeat.plp.fault = false ∧ announcingHeat.mwt.warning = false) := by decide +kernel

/-- What they conclude there (R155, R158, R168, R174, R179). -/
theorem test_notice_ends :
    after .noticeSent announcingHeat (fun t => t.fsu.stage1 = .cover && t.fsu.stage2 = .pending && t.plp.tx = .empty) = true ∧
    after .noticeSent renewed (fun t => t.plp.tx = .pending && t.plp.attempts = 0 && t.plp.slot.isSome) = true ∧
    after .collision (lastTry 0) (fun t => t.fsu.stage1 = .free && t.fsu.stage2 = .pending && t.plp.tx = .pending &&
      t.plp.slot.map Notice.held = some 8) = true ∧
    after .collision (lastTry 2) (fun t => t.fsu.isolated = some .txFail && t.fsu.stage2 = .cover) = true ∧
    after .collision leaving (fun t => t.plp.tx = .empty && t.plp.slot.isNone) = true ∧
    after .stuckLow announcingHeat (fun t => t.fsu.stage1 = .cover && t.fsu.stage2 = .cover) = true := by decide +kernel

/-- One low sample among high ones is not read, two are (R151); a start bit high at its middle begins no character, and
the eleventh bit ends one (R152). -/
theorem test_line_samples :
    (∀ b, (⟨0, true, true, none, []⟩ : LineReader).value b = true) ∧
    (⟨0, false, true, none, []⟩ : LineReader).value false = false ∧
    ((⟨0, true, true, some 7, []⟩ : LineReader).follow false true).place = none ∧
    ((⟨0, false, false, some 7, []⟩ : LineReader).follow false false).bits = [false] ∧
    (let r := (⟨0, true, true, some 167, List.replicate 10 false⟩ : LineReader).follow false true
     r.place = none ∧ r.bits.length = 11) := by decide

theorem witness_LineSends :
    (announcing.mainPowered = true ∧ announcing.plp.tx = .pending ∧ announcing.plp.slot.isSome = true ∧ announcing.plp.lineHigh = true ∧
      1146 ≤ announcing.plp.idleTimer ∧ announcing.plp.fault = false) ∧
    (sending.plp.tx = .sending ∧ (sending.plp.line.map Notice.annStart) = some true ∧ sending.fsu.start = .pending ∧
      wanted sending .start = true ∧ sending.plp.attempts < 15) ∧
    { sending with plp := { sending.plp with attempts := 14 } }.plp.attempts < 15 ∧
    15 ≤ { sending with plp := { sending.plp with attempts := 15, consecutive := 2 } }.plp.attempts ∧
    { sending with plp := { sending.plp with tx := .backoff } }.plp.tx = .backoff ∧ idle.plp.fault = false ∧
    idle.mwt.warning = false := by decide

/-- A peer of station 4. -/
def peer4 : Peer := ⟨4, 8, 16, 9636, 30, 2, true, 4000000⟩

/-- Both stages conduct within the cover, at a settle expiry after the full grant. -/
def conducting : State :=
  { heat with ost := { heat.ost with stage1 := ⟨.firing, false, 32, 32, true⟩, stage2 := ⟨.firing, false, 32, 32, true⟩ }
              fsu := { heat.fsu with cls := 2, settle := some 0 } }

theorem witness_UnitTimers :
    (let s := { idle with fsu := { idle.fsu with notice := some 0 } }
     s.mainPowered = true ∧ s.fsu.notice ≠ none ∧ held s = 0 ∧ s.fsu.want = 0) ∧
    (let s := { heat with fsu := { heat.fsu with notice := some 0 } }
     s.fsu.notice ≠ none ∧ 0 < held s ∧ s.pnl.setupDone = true ∧ s.mwt.warning = false ∧ s.scv.strapDone = true ∧
       1 ≤ s.scv.stationId ∧ s.scv.stationId ≤ 31) ∧
    (let s := wanting []
     s.fsu.settle ≠ none ∧ wantTaken s ∧ s.pnl.setupDone = true ∧
       s.mwt.warning = false ∧ s.fsu.listenIn = none ∧ s.scv.strapDone = true ∧ s.fsu.start = .free ∧
       s.fsu.stage1 = .free ∧ s.fsu.stage2 = .free ∧ wanted s .start = true ∧ s.ost.motor = .stopped ∧
       s.settings.startUnits ≤ s.settings.budget ∧ s.fsu.isolated = none ∧ s.fsu.peers = []) ∧
    (let s := { heat with fsu := { heat.fsu with stage1 := .free, stage2 := .free, settle := some 0 } }
     s.fsu.settle ≠ none ∧ wantTaken s ∧ s.fsu.listenIn = none ∧
       s.fsu.start = .free ∧ wanted s .stage1 = true ∧ wanted s .stage2 = true ∧ 0 < s.settings.weight1) ∧
    (∀ b ∈ [16, 15, 7], let s := { conducting with settings := { sets with budget := b } }
     s.fsu.settle ≠ none ∧ wantTaken s ∧ s.pnl.setupDone = true ∧
       s.mwt.warning = false ∧ s.fsu.listenIn = none ∧ s.scv.strapDone = true ∧ s.fsu.cls = 2 ∧
       s.fsu.start = .free ∧ s.fsu.stage1 = .cover ∧ s.fsu.stage2 = .cover ∧ wanted s .stage2 = true ∧
       s.mwt.state = .present ∧ s.ost.stage1.on = true ∧ s.ost.stage2.on = true ∧ s.ost.stage2.state = .firing ∧
       s.fsu.peers = [] ∧ 0 < s.settings.weight1) ∧
    { idle with fsu := { idle.fsu with listenIn := some 0 } }.fsu.listenIn ≠ none ∧
    ∃ p ∈ [peer4], p.id = 4 := by decide

/-- Both stages under release in a half-cycle that they conduct, the door open. -/
def releasing : State :=
  { conducting with ost := { conducting.ost with doorOpen := true }
                    fsu := { conducting.fsu with stage1 := .release, stage2 := .release } }

/-- The clauses of UnitTimers on the want: heat newly wanted at the end of a start window, heat no longer wanted as the
door opens, the crossing that ends the last half-cycle, and the last held units given back. -/
theorem witness_UnitTimers_wants :
    (movesWant .startWindowEnd = true ∧ wantTaken starting ∧ wanted starting .stage1 = false ∧
      after .startWindowEnd starting (fun t => !t.mwt.warning && wanted t .stage1) = true) ∧
    (movesWant .doorOpened = true ∧ wanted conducting .stage1 = true ∧ conducting.fsu.stage1 = .cover ∧
      after .doorOpened conducting (fun t => !wanted t .stage1 && loadDraws t .stage1) = true) ∧
    (movesWant (.zeroCrossEdge 1000) = true ∧ releasing.fsu.stage1 = .release ∧ loadDraws releasing .stage1 = true ∧
      after (.zeroCrossEdge 1000) releasing (fun t => !wanted t .stage1 && !loadDraws t .stage1) = true) ∧
    (0 < held heat ∧ after .doorOpened heat (fun t => held t = 0 && t.fsu.want = 0 && t.pnl.setupDone &&
      !t.mwt.warning && t.scv.strapDone && 1 ≤ t.scv.stationId && t.scv.stationId ≤ 31) = true) := by decide +kernel

/-- The clauses on BUDGET_MISMATCH, the class, the settle timer and the HEAT notice: a peer with a smaller budget; the last
wanted steps announced; a settle window that the door cuts short; and heat newly wanted. -/
theorem witness_UnitTimers_evaluations :
    (∃ p ∈ (wanting [⟨4, 0, 6, 9636, 30, 2, true, 0⟩]).fsu.peers, p.budget < (wanting []).settings.budget) ∧
    (announcingHeat.plp.tx = .sending ∧ announcingHeat.fsu.cls = 3) ∧
    (let s := { heat with fsu := { heat.fsu with stage1 := .free, stage2 := .free, settle := some 9 } }
     wantTaken s ∧ after .doorOpened s (fun t => !t.mwt.warning && t.fsu.want < s.fsu.want && t.fsu.want ≤ held t) = true) ∧
    after .startWindowEnd starting (fun t => decide (mayAnnounce t) && held t ≠ held starting) = true := by decide +kernel

/-- What they conclude (R170, R173, R175, R178). -/
theorem test_evaluations :
    after .settleExpiry (wanting [⟨4, 0, 6, 9636, 30, 2, true, 0⟩]) (fun t => t.fsu.mismatch && t.pnl.evFault) = true ∧
    after .noticeSent { announcingHeat with plp := { announcingHeat.plp with
        line := some ⟨false, 13, 16, 16, 24973, 40, 2, false, false, true, true⟩ } } (fun t => t.fsu.cls = 2) = true ∧
    after .doorOpened { heat with fsu := { heat.fsu with stage1 := .free, stage2 := .free, settle := some 9 } }
      (fun t => t.fsu.settle = none) = true ∧
    after .startWindowEnd starting (fun t => t.plp.slot.map (fun n => (n.farewell, n.held, n.want)) = some (false, 0, 16)) =
      true := by decide +kernel

/-- What those clauses conclude there (R71, R169, R173, R175). -/
theorem test_wants :
    after .startWindowEnd starting (fun t => t.fsu.settle = some 2500000) = true ∧
    after .doorOpened conducting (fun t => t.fsu.stage1 = .release) = true ∧
    after (.zeroCrossEdge 1000) releasing (fun t => t.fsu.stage1 = .free) = true ∧
    after .doorOpened heat (fun t => t.fsu.notice = none && t.plp.slot.map Notice.farewell = some true) = true := by
  decide +kernel

/-- The same with the settle timer taken as run out: READY. -/
def readyFor (peers : List Peer) : State := { wanting peers with fsu := { (wanting peers).fsu with settle := none } }

/-- Room for 6 units, and for 5 (R176). -/
theorem witness_GrantKeepsBudget :
    (∃ t, grantTest (readyFor [⟨4, 34, 34, 1, 40, 2, true, 0⟩]) = t ∧ t.fsu.start = .pending) ∧
    (∃ t, grantTest (readyFor [⟨4, 35, 35, 1, 40, 2, true, 0⟩]) = t ∧ t.fsu.start = .free) :=
  ⟨⟨_, rfl, by decide +kernel⟩, ⟨_, rfl, by decide +kernel⟩⟩

theorem witness_NoticeRoundTrip :
    noticeFits heard ∧ noticeFits ⟨false, 31, 63, 63, 32767, 63, 15, true, true, true, true⟩ ∧
    noticeFits ⟨true, 1, 0, 0, 0, 0, 0, false, false, false, false⟩ := by decide

theorem witness_RecordRoundTrip :
    recordFits (recordOf .loss cyc) ∧ recordFits { recordOf .finish cyc with sequence := 4294967295, exh := 255 } ∧
    Memory.wf [] = true := by decide

theorem witness_FlashKept : FlashOk programming ∧ ∃ t, step { programming with pending := [.programComplete true] } = .next t :=
  ⟨by decide, _, rfl⟩

theorem witness_LineInvariantsKept :
    GeneratorOk gathering ∧ StrapsOk gathering ∧ PeersOk gathering ∧
    (let s := { gathering with fsu := { gathering.fsu with peers := [peer4] } }
     GeneratorOk s ∧ StrapsOk s ∧ PeersOk s) ∧ ∃ t, step { gathering with pending := [.noticeSent] } = .next t :=
  ⟨by decide, by decide, by decide, by decide, _, rfl⟩

theorem witness_CycleInvariantsKept :
    WindowOk (dryAt 929) ∧ FaultOk (dryAt 929) ∧ PhaseOk (dryAt 929) ∧
    WindowOk { heat with dwn := { heat.dwn with window := List.replicate 32 true } } ∧
    ∃ t, step { dryAt 929 with pending := [.sequencerSecond] } = .next t := ⟨by decide, by decide, rfl, by decide, _, rfl⟩

theorem witness_CoverKept :
    EnergizedOk starting ∧ EnergizedOk heat ∧
    EnergizedOk { hot with ost := { hot.ost with stage1 := ⟨.firing, false, 32, 32, true⟩ } } ∧
    ∃ t, step { starting with pending := [.startWindowEnd] } = .next t := ⟨by decide, by decide, by decide, _, rfl⟩

theorem witness_DrawnWithinHeld :
    EnergizedOk starting ∧ starting.mwt.state = .present ∧ energized starting = 6 ∧ held starting = 6 := by decide

theorem witness_ClockNeverFalls :
    (∃ t, step { dark with pending := [.holdoverSecond] } = .next t ∧ t.hdm.clock = 5001) ∧
    (∃ t, step { dark with pending := [.holdoverSupplyLoss] } = .next t ∧ t.hdm.clock = 0 ∧ t.hdm.powered = false) ∧
    ∃ t, step { unsupplied with pending := [.holdoverPowerOn] } = .next t ∧ unsupplied.hdm.powered = false ∧ t.hdm.clock = 0 :=
  ⟨⟨_, rfl, rfl⟩, ⟨_, rfl, rfl, rfl⟩, _, rfl, rfl, rfl⟩

end Sys2Proof.Tests
end

section
/-! PROOFS. The clamps of START and its answer (R3): what one field's clamp gives and reports, what a judged command frame
runs, and that nothing after START is taken touches the descriptor it stored. -/

namespace Sys2Proof.Machine

/-! ## One field's clamp -/

/-- What the clamp of one field does: raise it to the range, lower it to the range, or leave it (R3). -/
theorem clampTo_cases (lo hi v : Nat) :
    (v < lo ∧ clampTo lo hi v = (lo, true)) ∨ (lo ≤ v ∧ hi < v ∧ clampTo lo hi v = (hi, true)) ∨
      (lo ≤ v ∧ v ≤ hi ∧ clampTo lo hi v = (v, false)) := by
  by_cases hlo : v < lo
  · exact .inl ⟨hlo, if_pos hlo⟩
  · have hge : clampTo lo hi v = if hi < v then (hi, true) else (v, false) := if_neg hlo
    by_cases hhi : hi < v
    · exact .inr (.inl ⟨Nat.le_of_not_lt hlo, hhi, hge.trans (if_pos hhi)⟩)
    · exact .inr (.inr ⟨Nat.le_of_not_lt hlo, Nat.le_of_not_lt hhi, hge.trans (if_neg hhi)⟩)

theorem clampTo_fst {lo hi : Nat} (h : lo ≤ hi) (v : Nat) : (clampTo lo hi v).1 = max lo (min v hi) := by
  rcases clampTo_cases lo hi v with ⟨hv, e⟩ | ⟨hlo, hv, e⟩ | ⟨hlo, hv, e⟩ <;> rw [e] <;> dsimp only <;> omega

/-- A field is reported as clamped exactly when it was changed. -/
theorem clampTo_snd (lo hi v : Nat) : (clampTo lo hi v).2 = ((clampTo lo hi v).1 != v) := by
  rcases clampTo_cases lo hi v with ⟨hv, e⟩ | ⟨-, hv, e⟩ | ⟨-, -, e⟩ <;> rw [e]
  · exact (bne_iff_ne.mpr (Nat.ne_of_gt hv)).symm
  · exact (bne_iff_ne.mpr (Nat.ne_of_lt hv)).symm
  · exact (bne_self_eq_false v).symm

theorem clampDefault_ones (ones dflt lo hi : Nat) : clampDefault ones dflt lo hi ones = (dflt, false) := if_pos rfl

theorem clampDefault_given {ones v : Nat} (h : v ≠ ones) (dflt lo hi : Nat) :
    clampDefault ones dflt lo hi v = clampTo lo hi v := if_neg h

theorem clampDefault_fst {lo hi : Nat} (h : lo ≤ hi) (ones dflt v : Nat) :
    (clampDefault ones dflt lo hi v).1 = if v = ones then dflt else max lo (min v hi) := by
  by_cases hv : v = ones
  · rw [if_pos hv, hv, clampDefault_ones]
  · rw [if_neg hv, clampDefault_given hv, clampTo_fst h]

/-- A field with a default is reported exactly when it was changed and not given as all ones. -/
theorem clampDefault_snd (ones dflt lo hi v : Nat) :
    (clampDefault ones dflt lo hi v).2 = (v != ones && (clampDefault ones dflt lo hi v).1 != v) := by
  by_cases hv : v = ones
  · rw [hv, clampDefault_ones, bne_self_eq_false, Bool.false_and]
  · rw [clampDefault_given hv, clampTo_snd, bne_iff_ne.mpr hv, Bool.true_and]

/-! ## The two cross-field clamps -/

/-- A field raised to a bound is the larger of the two. -/
theorem raised_eq_max (a b : Nat) : (if a < b then b else a) = max a b := by
  by_cases h : a < b
  · rw [if_pos h]; omega
  · rw [if_neg h]; omega

/-- A clamped field raised to a bound within its range, as cool_max to cool_min, still is reported exactly when it was
changed: a bound above the clamped value is not the value given. -/
theorem clampTo_raised_snd {lo hi b : Nat} (hb : b ≤ hi) (v : Nat) :
    ((clampTo lo hi v).2 || decide ((clampTo lo hi v).1 < b)) =
      ((if (clampTo lo hi v).1 < b then b else (clampTo lo hi v).1) != v) := by
  by_cases hr : (clampTo lo hi v).1 < b
  · have hne : b ≠ v := by
      rcases clampTo_cases lo hi v with ⟨hv, e⟩ | ⟨-, hv, e⟩ | ⟨-, hv, e⟩ <;> rw [e] at hr <;> dsimp only at hr <;> omega
    rw [if_pos hr, decide_eq_true hr, Bool.or_true, bne_iff_ne.mpr hne]
  · rw [if_neg hr, decide_eq_false hr, Bool.or_false, clampTo_snd]

/-- stages_wanted without a stage 2 is 1, whatever was given. -/
theorem stages_lowered_fst (w2 v : Nat) :
    (if ((clampTo 1 2 v).1 = 2 && w2 = 0) = true then 1 else (clampTo 1 2 v).1) =
      if w2 = 0 then 1 else max 1 (min v 2) := by
  rw [clampTo_fst (by decide)]
  simp only [Bool.and_eq_true, decide_eq_true_eq]
  by_cases hw : w2 = 0
  · rw [if_pos hw]
    by_cases hv : max 1 (min v 2) = 2
    · rw [if_pos ⟨hv, hw⟩]
    · rw [if_neg fun h => hv h.1]
      omega
  · rw [if_neg hw, if_neg fun h => hw h.2]

/-- stages_wanted lowered for want of a stage 2 still is reported exactly when it was changed: it was given as 2 or more. -/
theorem stages_lowered_snd (w2 v : Nat) :
    ((clampTo 1 2 v).2 || ((clampTo 1 2 v).1 = 2 && w2 = 0)) =
      ((if ((clampTo 1 2 v).1 = 2 && w2 = 0) = true then 1 else (clampTo 1 2 v).1) != v) := by
  by_cases hl : ((clampTo 1 2 v).1 = 2 && w2 = 0) = true
  · have hne : 1 ≠ v := by
      have h2 := hl
      rw [clampTo_fst (by decide), Bool.and_eq_true, decide_eq_true_eq] at h2
      omega
    rw [if_pos hl, hl, Bool.or_true, bne_iff_ne.mpr hne]
  · rw [if_neg hl, Bool.eq_false_iff.mpr hl, Bool.or_false, clampTo_snd]

/-! ## The descriptor that START stored stays -/

variable (s : State)

@[simp] theorem setCycle_desc (st : CycleState) : (setCycle s st).csq.desc = s.csq.desc := by
  unfold setCycle
  split
  · rfl
  · rw [(raisePhase_frame _).2.1]; rfl

@[simp] theorem enterPlanning_desc (b : Bool) : (enterPlanning s b).csq.desc = s.csq.desc :=
  setCycle_desc s .planning

@[simp] theorem leaveLoss_desc : (leaveLoss s).csq.desc = s.csq.desc := by
  unfold leaveLoss
  split
  · exact enterPlanning_desc s true
  · exact setCycle_desc s .holdoverWait

@[simp] theorem recordDone_desc : (recordDone s).csq.desc = s.csq.desc := by
  unfold recordDone
  split
  · rfl
  split
  · rfl
  split
  · exact leaveLoss_desc s
  · rfl

@[simp] theorem abandonPending_desc : (abandonPending s).csq.desc = s.csq.desc := by
  unfold abandonPending
  split
  · exact recordDone_desc _
  · rfl

@[simp] theorem journalSettle_desc : (journalSettle s).csq.desc = s.csq.desc := by
  unfold journalSettle
  split
  · rfl
  · exact abandonPending_desc s

@[simp] theorem requestRecord_desc (kind : RecordKind) (reason : EndReason) :
    (requestRecord s kind reason).csq.desc = s.csq.desc := by
  simp only [requestRecord]
  split
  · exact recordDone_desc _
  · exact journalSettle_desc _

@[simp] theorem clearWindow_csq : (clearWindow s).csq = s.csq := rfl

@[simp] theorem takeStart_desc (d : Descriptor) : (takeStart s d).csq.desc = d :=
  (requestRecord_desc _ .start .none).trans (setCycle_desc _ .heat)

/-! ## Judged command frames -/

@[simp] theorem openFrame_frame (tail : Tail) (keeps : Bool) :
    (openFrame s tail keeps).csq = s.csq ∧ (openFrame s tail keeps).ost = s.ost ∧
    (openFrame s tail keeps).settings = s.settings := by
  cases keeps <;> exact ⟨rfl, rfl, rfl⟩

@[simp] theorem taken_csq (s0 : State) (status : Status) (payload : List Byte) :
    (taken s0 s status payload).csq = s.csq :=
  (finish_frame s false s0).2.1

@[simp] theorem taken_response (s0 : State) (status : Status) (payload : List Byte) :
    (taken s0 s status payload).pnl.response = some ⟨status, payload⟩ := rfl

variable {s}

/-- A command frame of the right length is judged by its command's own rule while no reset is pending (R184). -/
theorem command_judged {l : Byte} {p : List Byte} {n : Nat} (keeps : Bool) (body : State → List Byte → State)
    (hpow : s.mainPowered = true) (hl : l.toNat = n) (hp : p.length = n) (hres : s.pnl.resetPending = false) :
    command s (l :: p) n keeps body = .next (body (openFrame s (l :: p) keeps) p) := by
  have hframe : framePayload n (l :: p) = some p := by
    simp only [framePayload, hl, hp, decide_true, Bool.and_self, if_true]
  unfold command
  rw [if_pos hpow, hframe]
  exact congrArg Host.Outcome.next (if_neg (by rw [hres]; exact Bool.false_ne_true))

/-- START with the door closed in a state that takes it (R4). -/
theorem startBody_taken (p : List Byte) (hst : s.csq.state = .idle ∨ s.csq.state = .done ∨ s.csq.state = .abandoned)
    (hdoor : s.ost.doorOpen = false) {e : Descriptor} {m : List Bool}
    (hc : clampDescriptor s.settings.weight2 (descriptorOfBytes p) = (e, m)) :
    startBody s p =
      if m.any id then taken s (takeStart s e) .clamped (leBytes 2 (maskNat m)) else taken s (takeStart s e) .ok [] := by
  have hs : startable s.csq.state = true := by
    rcases hst with h | h | h <;> rw [h] <;> rfl
  simp only [startBody, hs, hdoor, hc, if_true, Bool.false_eq_true, if_false]

/-- What a taken START stores and answers (R3). -/
theorem startBody_stores (p : List Byte) (hst : s.csq.state = .idle ∨ s.csq.state = .done ∨ s.csq.state = .abandoned)
    (hdoor : s.ost.doorOpen = false) {e : Descriptor} {m : List Bool}
    (hc : clampDescriptor s.settings.weight2 (descriptorOfBytes p) = (e, m)) :
    (startBody s p).csq.desc = e ∧
      (startBody s p).pnl.response = some (if m.any id then ⟨.clamped, leBytes 2 (maskNat m)⟩ else ⟨.ok, []⟩) := by
  rw [startBody_taken p hst hdoor hc]
  by_cases hm : m.any id = true
  · rw [if_pos hm, if_pos hm, taken_csq, taken_response]
    exact ⟨takeStart_desc s e, rfl⟩
  · rw [if_neg hm, if_neg hm, taken_csq, taken_response]
    exact ⟨takeStart_desc s e, rfl⟩

end Sys2Proof.Machine

namespace Sys2Proof.Proofs

open Sys2Proof.Machine

/-- Settles O15: field by field from the clamp of one field and the two cross-field clamps, and for the taken START from
what its rule stores and answers. -/
theorem descriptorClamps : Obligations.DescriptorClamps := by
  intro w2 d e m h
  have hmax := clampTo_raised_snd (lo := 120) (hi := 3600) (b := (clampTo 60 1800 d.coolMin).1)
    (by rw [clampTo_fst (by decide)]; omega) d.coolMax
  have hdesc := h
  simp only [clampDescriptor, Prod.mk.injEq] at h
  obtain ⟨he, hm⟩ := h
  refine ⟨?x, ?minHeat, ?maxHeat, ?exhLimit, ?coolTarget, ?coolMin, ?coolMax, ?guardTotal, ?guardRest, ?guardTumble,
    ?guardResumeMin, ?stages, ?dryRun, ?dryHits, ?wetThreshold, ?mask, ?taken⟩
  case taken =>
    intro s l p hpow hl hp hres hst hdoor hw hd
    obtain ⟨hcsq, host, hset⟩ := openFrame_frame s (l :: p) false
    exact ⟨_, command_judged false startBody hpow hl hp hres,
      startBody_stores p (by rw [hcsq]; exact hst) (by rw [host]; exact hdoor) (by rw [hset, hw, hd]; exact hdesc)⟩
  case mask =>
    rw [← hm, ← he, hmax, stages_lowered_snd]
    simp only [clampTo_snd, clampDefault_snd]
  case coolMax =>
    rw [← he, ← clampTo_fst (by decide)]
    exact raised_eq_max _ _
  case stages => rw [← he]; exact stages_lowered_fst w2 d.stages
  case exhLimit | dryRun | wetThreshold => rw [← he]; exact clampDefault_fst (by decide) _ _ _
  case dryHits => rw [← he]; simpa only [Nat.zero_max] using clampDefault_fst (Nat.zero_le 8) 255 2 d.dryHits
  case x | guardTotal | guardResumeMin => rw [← he]; exact (clampTo_fst (Nat.zero_le _) _).trans (Nat.zero_max _)
  all_goals rw [← he]; exact clampTo_fst (by decide) _

end Sys2Proof.Proofs
end

section
/-! PROOFS. The strap decode (R42): the accepted band of a level as its nominal ratio gives it, bands that never meet, and
the level *none* of a strap pair without a usable ratio (R40, R41). -/

namespace Sys2Proof.Machine

/-! ## The bands -/

/-- The nominal ratio of a strap level (R42). -/
def strapNominal (k : Nat) : Nat := 8192 / 2 ^ k

/-- A band reaches from 0.8 times the nominal ratio, rounded up, to 1.25 times it, rounded down (R42). -/
theorem strapBand_eq_nominal : ∀ k < 8,
    strapBand k = ((4 * strapNominal k + 4) / 5, 5 * strapNominal k / 4) := by decide

/-- The band of a higher level lies wholly below the band of a lower one (R42). -/
theorem strapBand_descends : ∀ k < 8, ∀ j < k, (strapBand k).2 < (strapBand j).1 := by decide

/-- A ratio decodes to the level in whose band it lies: as bands never meet, the order of the search does not count. -/
theorem strapLevel_eq_some_iff (w k : Nat) :
    strapLevel w = some k ↔ k < 8 ∧ (strapBand k).1 ≤ w ∧ w ≤ (strapBand k).2 := by
  simp only [strapLevel, List.find?_range_eq_some, List.mem_range, Bool.and_eq_true, decide_eq_true_eq]
  constructor
  · rintro ⟨hband, hk, -⟩
    exact ⟨hk, hband⟩
  · rintro ⟨hk, hband⟩
    refine ⟨hband, hk, fun j hj => ?_⟩
    have hbelow := strapBand_descends k hk j hj
    have hout : ¬ (strapBand j).1 ≤ w := by omega
    simp only [hout, decide_false, Bool.false_and, Bool.not_false]

/-- The decode by the bounds of R42, 0.8 and 1.25 times the nominal ratio. -/
theorem strapLevel_eq_some_iff_nominal (w k : Nat) :
    strapLevel w = some k ↔ k ≤ 7 ∧ 4 * strapNominal k ≤ 5 * w ∧ 4 * w ≤ 5 * strapNominal k := by
  rw [strapLevel_eq_some_iff, Nat.lt_succ_iff]
  refine and_congr_right fun hk => ?_
  rw [strapBand_eq_nominal k (Nat.lt_succ_of_le hk)]
  dsimp only
  omega

/-- The decode by the table of R42. -/
theorem strapLevel_eq_some_iff_table (w k : Nat) :
    strapLevel w = some k ↔
      (k = 0 ∧ 6554 ≤ w ∧ w ≤ 10240) ∨ (k = 1 ∧ 3277 ≤ w ∧ w ≤ 5120) ∨ (k = 2 ∧ 1639 ≤ w ∧ w ≤ 2560) ∨
      (k = 3 ∧ 820 ≤ w ∧ w ≤ 1280) ∨ (k = 4 ∧ 410 ≤ w ∧ w ≤ 640) ∨ (k = 5 ∧ 205 ≤ w ∧ w ≤ 320) ∨
      (k = 6 ∧ 103 ≤ w ∧ w ≤ 160) ∨ (k = 7 ∧ 52 ≤ w ∧ w ≤ 80) := by
  rw [strapLevel_eq_some_iff]
  constructor
  · rintro ⟨hk, hband⟩
    match k, hk with
    | 0, _ => exact .inl ⟨rfl, hband⟩
    | 1, _ => exact .inr (.inl ⟨rfl, hband⟩)
    | 2, _ => exact .inr (.inr (.inl ⟨rfl, hband⟩))
    | 3, _ => exact .inr (.inr (.inr (.inl ⟨rfl, hband⟩)))
    | 4, _ => exact .inr (.inr (.inr (.inr (.inl ⟨rfl, hband⟩))))
    | 5, _ => exact .inr (.inr (.inr (.inr (.inr (.inl ⟨rfl, hband⟩)))))
    | 6, _ => exact .inr (.inr (.inr (.inr (.inr (.inr (.inl ⟨rfl, hband⟩))))))
    | 7, _ => exact .inr (.inr (.inr (.inr (.inr (.inr (.inr ⟨rfl, hband⟩))))))
  · rintro (⟨rfl, hband⟩ | ⟨rfl, hband⟩ | ⟨rfl, hband⟩ | ⟨rfl, hband⟩ | ⟨rfl, hband⟩ | ⟨rfl, hband⟩ | ⟨rfl, hband⟩ |
      ⟨rfl, hband⟩) <;> exact ⟨by decide, hband⟩

/-! ## The end of a strap pair -/

variable (s : State)

/-- The end of the strap phase touches the converter only to settle the straps (R43). -/
@[simp] theorem strapDone_scv (levels : List (Option Nat)) :
    (strapDone s levels).scv = s.scv.settleStraps levels := by
  simp only [strapDone]
  split <;> split <;>
    simp only [isolate_frame, raiseFault_frame, State.setPlp_scv, State.setScv_scv]

/-- Whether another pair follows or the phase ends, the pair's level joins those taken so far (R40). -/
@[simp] theorem strapPairEnd_passLevels (level : Option Nat) :
    (strapPairEnd s level).scv.passLevels = s.scv.passLevels ++ [level] := by
  unfold strapPairEnd
  split
  · rfl
  · rw [strapDone_scv]; rfl

variable {s}

/-- A strap pair whose count fell below 64 (R40), or whose attempts ran out (R41), ends with the level *none*. -/
theorem strapEnd_none {n : Nat} (hmeas : s.scv.meas = .strapGate)
    (hnone : (s.scv.refValid = true ∧ n < 64) ∨ (s.scv.refValid = false ∧ 3 ≤ s.scv.attempt)) :
    strapEnd s n = strapPairEnd s none := by
  unfold strapEnd
  rw [if_pos hmeas]
  rcases hnone with ⟨hvalid, hn⟩ | ⟨hbad, hlast⟩
  · have hcount : gateCount n < 64 := Nat.lt_of_le_of_lt (Nat.min_le_left n _) hn
    simp only [hvalid, if_true, hcount]
  · simp only [hbad, Bool.false_eq_true, if_false, Nat.not_lt.mpr hlast]

/-- STRAP_GATE_END at a strap's gate ends the strap measurement and settles the part after it. -/
theorem exec_strapGateEnd_due (n : Nat) (hpow : s.mainPowered = true) (hmeas : s.scv.meas = .strapGate) :
    exec (.strapGateEnd n) s =
      .next (finish (!s.scv.strapDone && (strapEnd s n).scv.strapDone) s (strapEnd s n)) :=
  congrArg Host.Outcome.next (if_pos (by rw [hpow, hmeas]; rfl))

end Sys2Proof.Machine

namespace Sys2Proof.Proofs

open Sys2Proof.Machine

/-- Settles O31: both forms of the decode from the band a level accepts, and the level *none* from the two ways a strap
pair ends without a ratio. -/
theorem strapDecode : Obligations.StrapDecode := by
  refine ⟨strapLevel_eq_some_iff_nominal, strapLevel_eq_some_iff_table, fun s n hpow hmeas hnone => ?_⟩
  refine ⟨_, exec_strapGateEnd_due n hpow hmeas, ?_⟩
  rw [(Safety.finish_settled _ s _).scv, strapEnd_none hmeas hnone]
  exact strapPairEnd_passLevels s none

end Sys2Proof.Proofs
end

section
/-! PROOFS. The temperature code (R49): straight segments that meet with equal codes at the breakpoints they share, and
so a code that never falls as the ratio rises. -/

namespace Sys2Proof.Machine

/-! ## One segment -/

/-- At its low breakpoint a segment has the code of that breakpoint. -/
@[simp] theorem segment_low (lo clo hi chi : Nat) : segment lo lo clo hi chi = clo := by
  simp only [segment, Nat.sub_self, Nat.zero_mul, Nat.zero_div, Nat.add_zero]

/-- A function of the ratio that never falls as the ratio rises. -/
def Rises (f : Nat → Nat) : Prop := ∀ v w, v ≤ w → f v ≤ f w

/-- A constant piece of the table never falls. -/
theorem rises_const (c : Nat) : Rises fun _ => c := fun _ _ _ => Nat.le_refl c

/-- A segment never falls as the ratio rises, over its whole length and past both of its breakpoints. -/
theorem segment_rises (lo clo hi chi : Nat) : Rises fun w => segment w lo clo hi chi := fun _ _ h =>
  Nat.add_le_add_left (Nat.div_le_div_right (Nat.mul_le_mul_right _ (Nat.sub_le_sub_right h lo))) clo

/-- Two rising pieces joined at `b` rise together when the second does not lie below the first there. -/
theorem rises_join {f g : Nat → Nat} {b : Nat} (hf : Rises f) (hg : Rises g) (hb : f b ≤ g b) :
    Rises fun w => if w ≤ b then f w else g w := by
  intro v w h
  dsimp only
  by_cases hw : w ≤ b
  · rw [if_pos (Nat.le_trans h hw), if_pos hw]
    exact hf v w h
  · rw [if_neg hw]
    by_cases hv : v ≤ b
    · rw [if_pos hv]
      calc f v ≤ f b := hf v b hv
        _ ≤ g b := hb
        _ ≤ g w := hg b w (Nat.le_of_not_le hw)
    · rw [if_neg hv]
      exact hg v w h

/-! ## The table -/

/-- The segments of the breakpoint table (R49): low ratio and code, high ratio and code. -/
def codeSegments : List (Nat × Nat × Nat × Nat) :=
  [(313, 0, 1024, 50), (1024, 50, 1921, 80), (1921, 80, 2844, 100), (2844, 100, 4096, 120),
   (4096, 120, 5785, 140), (5785, 140, 8000, 160), (8000, 160, 14422, 200), (14422, 200, 24381, 240)]

/-- At the low breakpoint of a segment, where the model takes the segment before it, the code is the same. -/
theorem codeOfRatio_at_low : ∀ p ∈ codeSegments, codeOfRatio p.1 = p.2.1 := by decide

/-- Above its low breakpoint, up to and with its high one, a segment gives the code. -/
theorem codeOfRatio_above_low {w lo clo hi chi : Nat} (hmem : (lo, clo, hi, chi) ∈ codeSegments) (hlo : lo < w)
    (hhi : w ≤ hi) : codeOfRatio w = segment w lo clo hi chi := by
  simp only [codeSegments, List.mem_cons, List.not_mem_nil, or_false, Prod.mk.injEq] at hmem
  rcases hmem with ⟨rfl, rfl, rfl, rfl⟩ | ⟨rfl, rfl, rfl, rfl⟩ | ⟨rfl, rfl, rfl, rfl⟩ | ⟨rfl, rfl, rfl, rfl⟩ |
    ⟨rfl, rfl, rfl, rfl⟩ | ⟨rfl, rfl, rfl, rfl⟩ | ⟨rfl, rfl, rfl, rfl⟩ | ⟨rfl, rfl, rfl, rfl⟩ <;>
    simp (disch := omega) only [codeOfRatio, if_pos, if_neg]

/-- A segment gives the code from its low breakpoint to its high one, both included. -/
theorem codeOfRatio_eq_segment {w lo clo hi chi : Nat} (hmem : (lo, clo, hi, chi) ∈ codeSegments) (hlo : lo ≤ w)
    (hhi : w ≤ hi) : codeOfRatio w = segment w lo clo hi chi := by
  rcases Nat.eq_or_lt_of_le hlo with rfl | hlt
  · rw [segment_low]
    exact codeOfRatio_at_low _ hmem
  · exact codeOfRatio_above_low hmem hlt hhi

/-- Below the first breakpoint the code is 0. -/
theorem codeOfRatio_below {w : Nat} (h : w ≤ 312) : codeOfRatio w = 0 := if_pos h

/-- Above the last breakpoint the code is 240. -/
theorem codeOfRatio_above {w : Nat} (h : 24382 ≤ w) : codeOfRatio w = 240 := by
  simp (disch := omega) only [codeOfRatio, if_neg]

/-- The code never falls as the ratio rises: each piece rises, and at each joint the next one is not below it. -/
theorem codeOfRatio_rises : Rises codeOfRatio :=
  rises_join (rises_const 0)
    (rises_join (segment_rises _ _ _ _)
      (rises_join (segment_rises _ _ _ _)
        (rises_join (segment_rises _ _ _ _)
          (rises_join (segment_rises _ _ _ _)
            (rises_join (segment_rises _ _ _ _)
              (rises_join (segment_rises _ _ _ _)
                (rises_join (segment_rises _ _ _ _)
                  (rises_join (segment_rises _ _ _ _) (rises_const 240)
                    (by decide)) (by decide)) (by decide)) (by decide)) (by decide)) (by decide)) (by decide))
      (by decide)) (by decide)

/-- No ratio has a code above that of the last breakpoint. -/
theorem codeOfRatio_le (w : Nat) : codeOfRatio w ≤ 240 :=
  calc codeOfRatio w ≤ codeOfRatio (max w 24382) := codeOfRatio_rises _ _ (Nat.le_max_left ..)
    _ = 240 := codeOfRatio_above (Nat.le_max_right ..)

end Sys2Proof.Machine

namespace Sys2Proof.Proofs

open Sys2Proof.Machine

/-- Settles O34: the two ends of the table, its segments, and the rise of the code over them. -/
theorem temperatureCode : Obligations.TemperatureCode :=
  ⟨fun _ _ hhi => codeOfRatio_below hhi, fun _ hlo _ => codeOfRatio_above hlo,
    fun _ _ _ _ _ hmem hlo hhi => codeOfRatio_eq_segment hmem hlo hhi,
    fun V W _ hle _ => ⟨codeOfRatio_rises V W hle, codeOfRatio_le W⟩⟩

end Sys2Proof.Proofs
end

section
/-! PROOFS. The regulation of the duties (R68): which of its three cases stands, what one step takes or gives, and that the
crossing of a period boundary loads the pending duties and regulates them so (R67), whatever else it moves. -/

namespace Sys2Proof.Machine

/-! ## One step of a duty -/

theorem takeDuty_second {d2 : Nat} (step d1 : Nat) (h : 0 < d2) :
    takeDuty true step (d1, d2) = (d1, d2 - step) :=
  if_pos (decide_eq_true h)

theorem takeDuty_first {two : Bool} {d2 : Nat} (step d1 : Nat) (h : two = false ∨ d2 = 0) :
    takeDuty two step (d1, d2) = (d1 - step, d2) := by
  refine if_neg ?_
  rcases h with rfl | rfl
  · exact Bool.false_ne_true
  · rw [Bool.and_eq_true]
    exact fun ⟨_, hpos⟩ => Nat.lt_irrefl 0 (of_decide_eq_true hpos)

theorem giveDuty_first {m d1 : Nat} (two : Bool) (step d2 : Nat) (h : d1 < m) :
    giveDuty two m step (d1, d2) = (min m (d1 + step), d2) := if_pos h

theorem giveDuty_second {m d1 : Nat} (step d2 : Nat) (h : m ≤ d1) :
    giveDuty true m step (d1, d2) = (d1, min m (d2 + step)) := if_neg (Nat.not_lt.mpr h)

theorem giveDuty_full {m d1 : Nat} (step d2 : Nat) (h : m ≤ d1) :
    giveDuty false m step (d1, d2) = (d1, d2) := if_neg (Nat.not_lt.mpr h)

/-! ## The three cases of the regulation -/

variable {s : State}

theorem regulates_iff :
    regulates s = true ↔ s.csq.state.heats = true ∧ s.scv.exhFault = .none ∧ s.scv.refFault = false := by
  simp only [regulates, Bool.and_eq_true, decide_eq_true_eq, Bool.not_eq_true', and_assoc]

theorem regulate_unsound (h : ¬ regulates s = true) (d : Nat × Nat) : regulate s d = d := if_neg h

theorem regulate_hot (hs : regulates s = true) (hot : s.csq.desc.exhLimit ≤ s.dwn.exh) (d : Nat × Nat) :
    regulate s d = takeDuty (s.csq.desc.stages = 2) (s.settings.modulus / 8) d :=
  (if_pos hs).trans (if_pos hot)

theorem regulate_cold (hs : regulates s = true) (cold : s.dwn.exh + 10 ≤ s.csq.desc.exhLimit) (d : Nat × Nat) :
    regulate s d = giveDuty (s.csq.desc.stages = 2) s.settings.modulus (s.settings.modulus / 8) d :=
  (if_pos hs).trans ((if_neg (by omega)).trans (if_pos cold))

theorem regulate_between (hs : regulates s = true) (hot : ¬ s.csq.desc.exhLimit ≤ s.dwn.exh)
    (cold : ¬ s.dwn.exh + 10 ≤ s.csq.desc.exhLimit) (d : Nat × Nat) : regulate s d = d :=
  (if_pos hs).trans ((if_neg hot).trans (if_neg cold))

/-! ## Duties within the modulus -/

theorem takeDuty_le {m : Nat} {d : Nat × Nat} (two : Bool) (step : Nat) (h : d.1 ≤ m ∧ d.2 ≤ m) :
    (takeDuty two step d).1 ≤ m ∧ (takeDuty two step d).2 ≤ m := by
  unfold takeDuty
  split
  · exact ⟨h.1, Nat.le_trans (Nat.sub_le ..) h.2⟩
  · exact ⟨Nat.le_trans (Nat.sub_le ..) h.1, h.2⟩

theorem giveDuty_le {m : Nat} {d : Nat × Nat} (two : Bool) (step : Nat) (h : d.1 ≤ m ∧ d.2 ≤ m) :
    (giveDuty two m step d).1 ≤ m ∧ (giveDuty two m step d).2 ≤ m := by
  unfold giveDuty
  split
  · exact ⟨Nat.min_le_left .., h.2⟩
  split
  · exact ⟨h.1, Nat.min_le_left ..⟩
  · exact h

theorem regulate_le {d : Nat × Nat} (h : d.1 ≤ s.settings.modulus ∧ d.2 ≤ s.settings.modulus) :
    (regulate s d).1 ≤ s.settings.modulus ∧ (regulate s d).2 ≤ s.settings.modulus := by
  by_cases hs : regulates s = true
  · by_cases hot : s.csq.desc.exhLimit ≤ s.dwn.exh
    · rw [regulate_hot hs hot]
      exact takeDuty_le _ _ h
    by_cases cold : s.dwn.exh + 10 ≤ s.csq.desc.exhLimit
    · rw [regulate_cold hs cold]
      exact giveDuty_le _ _ h
    · rwa [regulate_between hs hot cold]
  · rwa [regulate_unsound hs]

/-! ## The duties at a crossing -/

/-- The active duties of the two stages. -/
def Output.activeDuties (o : Output) : Nat × Nat := (o.stage1.active, o.stage2.active)

/-- The pending duties of the two stages. -/
def Output.pendingDuties (o : Output) : Nat × Nat := (o.stage1.pending, o.stage2.pending)

/-- Two outputs with the same duties, active and pending. -/
def SameDuties (o p : Output) : Prop := p.activeDuties = o.activeDuties ∧ p.pendingDuties = o.pendingDuties

theorem SameDuties.refl (o : Output) : SameDuties o o := ⟨rfl, rfl⟩

theorem SameDuties.trans {o p q : Output} (h : SameDuties o p) (h' : SameDuties p q) : SameDuties o q :=
  ⟨h'.1.trans h.1, h'.2.trans h.2⟩

theorem openRelay_duties (o : Output) : SameDuties o o.openRelay := by
  unfold Output.openRelay
  split <;> exact ⟨rfl, rfl⟩

variable (s)

/-- The relays that open at a crossing are no duties (R81). -/
theorem railDropEnd_duties : SameDuties s.ost (railDropEnd s).ost := by
  unfold railDropEnd
  split <;> exact ⟨rfl, rfl⟩

theorem crossMotorStop_duties : SameDuties s.ost (crossMotorStop s).ost := by
  unfold crossMotorStop
  split
  · have hrelease : (releaseStart s).ost = s.ost := by simp only [releaseStart_frame]
    have hstop : SameDuties s.ost (releaseStart s).ost.stopMotor := by
      rw [hrelease]
      exact ⟨rfl, rfl⟩
    exact hstop.trans (openRelay_duties _)
  · exact .refl _

theorem crossStages_duties (boundary : Bool) : SameDuties s.ost (crossStages s boundary).ost := ⟨rfl, rfl⟩

theorem crossMotorStart_duties : SameDuties s.ost (crossMotorStart s).ost := by
  unfold crossMotorStart
  split <;> exact ⟨rfl, rfl⟩

/-- A crossing in its parts (R66, R67, R71, R74, R81): the relays that open are those that the end of the drop timer opens. -/
theorem crossing_eq : crossing s =
    crossMotorStart (crossStages (crossMotorStop (advancePosition (railDropEnd s))) (atBoundary (railDropEnd s))) := rfl

/-- Once the position has moved, a crossing touches no duty. -/
theorem crossing_duties : SameDuties (advancePosition (railDropEnd s)).ost (crossing s).ost := by
  rw [crossing_eq]
  exact ((crossMotorStop_duties _).trans (crossStages_duties _ _)).trans (crossMotorStart_duties _)

theorem atBoundary_railDropEnd : atBoundary (railDropEnd s) = atBoundary s := by
  unfold railDropEnd Output.drop Output.openRelay
  split
  · split <;> rfl
  · rfl

/-- The Output Stage's own state is not what the regulation looks at (R68). -/
theorem regulate_railDropEnd (d : Nat × Nat) : regulate (railDropEnd s) d = regulate s d := by
  unfold railDropEnd
  split <;> rfl

variable {s}

/-- A position that moves into 0 loads the pending duties and regulates them (R67, R68). -/
theorem advancePosition_loads (h : atBoundary s = true) :
    (advancePosition s).ost.activeDuties = s.ost.pendingDuties ∧
      (advancePosition s).ost.pendingDuties = regulate s s.ost.pendingDuties := by
  obtain ⟨hmod, hpos⟩ := (Bool.and_eq_true _ _).mp h
  have hload : advancePosition s =
      (loadDuties s).setOst { (loadDuties s).ost with position := nextPosition s, positioned := true } := by
    simp only [advancePosition, hmod, of_decide_eq_true hpos, if_true]
  rw [hload]
  exact ⟨rfl, rfl⟩

/-- A crossing that is a period boundary does so too (R67, R68). -/
theorem crossing_loads (h : atBoundary s = true) :
    (crossing s).ost.activeDuties = s.ost.pendingDuties ∧
      (crossing s).ost.pendingDuties = regulate s s.ost.pendingDuties := by
  obtain ⟨hactive, hpending⟩ := advancePosition_loads ((atBoundary_railDropEnd s).trans h)
  obtain ⟨hactive', hpending'⟩ := crossing_duties s
  have hsame : (railDropEnd s).ost.pendingDuties = s.ost.pendingDuties := (railDropEnd_duties s).2
  rw [hactive', hpending', hactive, hpending, hsame, regulate_railDropEnd]
  exact ⟨rfl, rfl⟩

/-! ## PERIOD_BOUNDARY -/

theorem edgeRejected_eq_false {us : Nat} (h : Safety.accepts s us) : edgeRejected s us = false := by
  rw [edgeRejected, edgeInterval, blankingUs, Bool.and_eq_false_iff, decide_eq_false_iff_not, Nat.not_le]
  exact h

/-- In PRESENT the Mains Watch keeps its state at an accepted edge (R85, R91). -/
theorem mainsEdge_present (us : Nat) (h : s.mwt.state = .present) : mainsEdge s us = acceptEdge s us := by
  have hstate : (acceptEdge s us).mwt.state = .present := h
  simp only [mainsEdge, settleCrossing, hstate]

theorem nextPosition_eq : nextPosition s = Safety.positionAfter s := by
  simp only [nextPosition, Safety.positionAfter, Bool.and_eq_true, decide_eq_true_eq]

theorem atBoundary_of_present (hstate : s.mwt.state = .present) (hsetup : s.pnl.setupDone = true)
    (hpos : Safety.positionAfter s = 0) : atBoundary s = true := by
  simp only [atBoundary, modulates, nextPosition_eq, hstate, hsetup, hpos, decide_true, Bool.and_self]

/-- PERIOD_BOUNDARY at an accepted edge that begins position 0 in PRESENT is the crossing and what follows it. -/
theorem exec_periodBoundary_due {us : Nat} (hpow : s.mainPowered = true) (hacc : Safety.accepts s us)
    (hstate : s.mwt.state = .present) (hb : atBoundary (acceptEdge s us) = true) :
    exec (.periodBoundary us) s = .next (finish false s (crossing (acceptEdge s us))) := by
  have hrej := edgeRejected_eq_false hacc
  have hdue : boundaryDue s us = true := by rw [boundaryDue, hrej, mainsEdge_present us hstate, hb]; rfl
  change edgeEvent (boundaryDue s us) us s = _
  simp only [edgeEvent, edge, hpow, hdue, hrej, mainsEdge_present us hstate, Bool.and_self, if_true, Bool.false_eq_true,
    if_false]

end Sys2Proof.Machine

namespace Sys2Proof.Safety

open Sys2Proof.Machine

/-- Settling after an event touches no duty. -/
theorem Settled.duties {u t : State} (h : Settled u t) : SameDuties u.ost t.ost :=
  ⟨congrArg (·.ost.activeDuties) h, congrArg (·.ost.pendingDuties) h⟩

end Sys2Proof.Safety

namespace Sys2Proof.Proofs

open Sys2Proof.Machine Sys2Proof.Safety

/-- Settles O39: the cases of the regulation from what one step takes or gives, and PERIOD_BOUNDARY from what a crossing that
is a period boundary loads. -/
theorem dutiesRegulated : Obligations.DutiesRegulated := by
  intro s d1 d2 m sound hot cold
  have hone : s.csq.desc.stages ≠ 2 → decide (s.csq.desc.stages = 2) = false := decide_eq_false
  refine ⟨fun hs => regulate_unsound (mt regulates_iff.mp hs) _,
    fun hs hh hc => regulate_between (regulates_iff.mpr hs) hh hc _, ?takeSecond, ?takeFirst, ?giveFirst, ?giveSecond,
    ?giveNone, fun h1 h2 => regulate_le ⟨h1, h2⟩, ?boundary⟩
  case takeSecond =>
    intro hs hh h2 hd
    rw [regulate_hot (regulates_iff.mpr hs) hh, decide_eq_true h2, takeDuty_second _ _ hd]
  case takeFirst =>
    intro hs hh hd
    rw [regulate_hot (regulates_iff.mpr hs) hh, takeDuty_first _ _ (hd.imp_left hone)]
  case giveFirst =>
    intro hs hc hd
    rw [regulate_cold (regulates_iff.mpr hs) hc, giveDuty_first _ _ _ hd]
  case giveSecond =>
    intro hs hc hd h2
    rw [regulate_cold (regulates_iff.mpr hs) hc, decide_eq_true h2, giveDuty_second _ _ hd]
  case giveNone =>
    intro hs hc hd h2
    rw [regulate_cold (regulates_iff.mpr hs) hc, hone h2, giveDuty_full _ _ hd]
  case boundary =>
    rintro us rfl rfl hpow hacc hstate hsetup hpos
    have hb : atBoundary (acceptEdge s us) = true := atBoundary_of_present hstate hsetup hpos
    obtain ⟨hactive, hpending⟩ := crossing_loads hb
    obtain ⟨hactive', hpending'⟩ := (finish_settled false s (crossing (acceptEdge s us))).duties
    obtain ⟨h1, h2⟩ := Prod.mk.inj (hactive'.trans hactive)
    exact ⟨_, exec_periodBoundary_due hpow hacc hstate hb, h1, h2, hpending'.trans hpending⟩

end Sys2Proof.Proofs
end

section
/-! PROOFS. What a command can do, said once: `exec_happens` takes each command's answer apart into one event of the part, so
that a property of all steps is a case split over the events. -/

namespace Sys2Proof.Machine

/-! ## The events -/

/-- What a command of the host that is taken makes of the state, but for its answer and what follows it. -/
inductive HostTakes (s : State) : State → Prop where
  | setup (x : Settings) (h : s.pnl.setupDone = false) : HostTakes s (leaveConfig (applySettings s x))
  | start (d : Descriptor) (h : startable s.csq.state = true) : HostTakes s (takeStart s d)
  | pause (h : s.csq.state.runs = true) : HostTakes s (enterPaused s)
  | resume (st : CycleState) (h : s.csq.state = .paused) (hst : runningState s.csq.cyc.before = some st) :
      HostTakes s (takeContinue s st)
  | cancel (h : s.csq.state.runs = true ∨ s.csq.state = .paused) : HostTakes s (takeCancel s)
  | confirm (h : s.csq.state = .planReady) : HostTakes s (takeConfirm s)
  | decline (h : s.csq.state = .planReady) : HostTakes s (takeDecline s)
  | force (r : Record) (h : s.csq.state = .abandoned) (hr : r.cyc.phase.active = true) : HostTakes s (takeForce s r)
  | reset (h : s.pnl.resetEnable = true) : HostTakes s (takeReset (clearEnable s))

/-- What an event of the main domain makes of the state, where the settling of the part follows it. -/
inductive MainActs (s : State) : State → Prop where
  | second : MainActs s (secondBody s)
  | exh (e : ExhEnd) : MainActs s (exhEnds s e)
  | ref (n : Nat) : MainActs s (refEnd s n)
  | strap (n : Nat) (h : s.scv.meas = .strapGate) : MainActs s (strapEnd s n)
  | edge (us : Nat) (h : edgeRejected s us = false) : MainActs s (crossing (mainsEdge s us))
  | window (h : windowDue s = true) : MainActs s (startWindowEnd s)
  | doorOpens : MainActs s (doorOpens s)
  | doorCloses : MainActs s (doorCloses s)
  | missing (h : s.mwt.state ≠ .lossWarning) : MainActs s (missingCrossing s)
  | trip : MainActs s (railTripped s)
  | character (d : Option Byte) (flag ok : Bool) : MainActs s (character s d flag ok)
  | collision (h : s.plp.tx = .sending) : MainActs s (collision s)
  | sent (h : s.plp.tx = .sending) : MainActs s (noticeSent s)
  | stuck : MainActs s (stuckLow s)
  | settle : MainActs s (settleEnds s)
  | listenIn : MainActs s (listenInEnds s)
  | age (id : Nat) : MainActs s (agePeerOut s id)

/-- What an event makes of the state that no settling follows. -/
inductive QuietActs (s : State) : State → Prop where
  | strapRef (n : Nat) : QuietActs s (strapRefEnd s n)
  | noise (us : Nat) : QuietActs s (rejectEdge s us)
  | coast : QuietActs s (coastEnd s)
  | railDrop : QuietActs s (railDropEnd s)
  | railHealthy : QuietActs s (railHealthyAgain s)
  | vane : QuietActs s (airflowCount s)
  | programBegin : QuietActs s (journalStep Journal.beginProgram s)
  | programComplete (agrees : Bool) : QuietActs s (programComplete s agrees)
  | eraseBegin : QuietActs s (journalStep Journal.beginErase s)
  | eraseComplete (blank : Bool) : QuietActs s (eraseComplete s blank)
  | suspendRequest : QuietActs s (journalStep Journal.requestSuspend s)
  | suspendEffect : QuietActs s (journalStep Journal.suspendEffect s)
  | scan (h : s.pjr.scanDone = false) : QuietActs s (scanComplete s)
  | character (d : Option Byte) (flag ok : Bool) : QuietActs s (character s d flag ok)
  | lineIdle : QuietActs s (lineBecomesIdle s)
  | frame : QuietActs s (s.setPlp s.plp.beginFrame)
  | backoff : QuietActs s (backoffEnds s)
  | notice : QuietActs s (noticeTimerEnds s)
  | holdoverSecond : QuietActs s (holdoverSecond s)
  | crystalStop : QuietActs s (crystalStops s)
  | doorView (b : Bool) : QuietActs s (viewChanges s b)
  | holdoverFails : QuietActs s (holdoverFails s)
  | holdoverRises : QuietActs s (holdoverRises s)

/-- A panel link that has exchanged a frame with the host: SETUP and a pending reset stand as before. -/
def Panel.Exchanged (p q : Panel) : Prop := q.setupDone = p.setupDone ∧ q.resetPending = p.resetPending

/-- What a command can do: nothing, an answer of the panel link alone, a host's command that is taken, an event of the main
domain with the settling that follows, one without, a reset, or the failure of the main supply. -/
inductive Happens (s : State) : State → Prop where
  | nothing : Happens s s
  | answer (q : Panel) (h : s.pnl.Exchanged q) : Happens s (s.setPnl q)
  | taken (q : Panel) (h : s.pnl.Exchanged q) (hr : q.resetPending = false) {u : State} (hu : HostTakes (s.setPnl q) u)
      (st : Status) (pl : List Byte) : Happens s (taken (s.setPnl q) u st pl)
  | main (ev : Bool) {u : State} (hu : MainActs s u) : Happens s (finish ev s u)
  | quiet {u : State} (hu : QuietActs s u) : Happens s u
  | mainReset (inputs : ResetInputs) : Happens s (mainReset s inputs)
  | hostReset (inputs : ResetInputs) : Happens s (hostReset s inputs)
  | mainFails : Happens s (mainFails s)

/-! ## Every command does one of them -/

/-- A command's answer is a next state (log entry 2). -/
theorem exec_next (c : Instr) (s : State) : ∃ t, exec c s = .next t := by
  cases c <;> exact ⟨_, rfl⟩

variable {s t : State}

theorem mainEvent_happens {due ev : Bool} {body : State → State} (h : mainEvent due ev body s = .next t)
    (hb : due = true → MainActs s (body s)) : Happens s t := by
  cases h
  split
  case isTrue hd => exact .main ev (hb (Bool.and_eq_true_iff.mp hd).2)
  case isFalse => exact .nothing

theorem quietEvent_happens {due : Bool} {body : State → State} (h : quietEvent due body s = .next t)
    (hb : due = true → QuietActs s (body s)) : Happens s t := by
  cases h
  split
  case isTrue hd => exact .quiet (hb (Bool.and_eq_true_iff.mp hd).2)
  case isFalse => exact .nothing

theorem edgeEvent_happens {due : Bool} {us : Nat} (h : edgeEvent due us s = .next t) : Happens s t := by
  cases h
  split
  · split
    case isTrue => exact .quiet (.noise us)
    case isFalse hr =>
      rw [edge, if_neg hr]
      exact .main false (.edge us (Bool.not_eq_true _ ▸ hr))
  · exact .nothing

/-- A command frame as it is opened has exchanged its bytes with the host and done nothing else. -/
theorem openFrame_eq (s : State) (tail : Tail) (keeps : Bool) :
    ∃ q, openFrame s tail keeps = s.setPnl q ∧ s.pnl.Exchanged q := by
  cases keeps <;> exact ⟨_, rfl, rfl, rfl⟩

/-- A known command's frame does nothing, answers, or runs the command's own rule on the panel link as opened. -/
theorem command_happens {tail : Tail} {len : Nat} {keeps : Bool} {body : State → List Byte → State}
    (h : command s tail len keeps body = .next t)
    (hb : ∀ q payload, s.pnl.Exchanged q → q.resetPending = false → Happens s (body (s.setPnl q) payload)) :
    Happens s t := by
  obtain ⟨q, hq, hx⟩ := openFrame_eq s tail keeps
  cases h
  split
  · rw [hq]
    dsimp only
    split
    · exact .answer _ hx
    · split
      case isTrue => exact .answer _ hx
      case isFalse hr => exact hb q _ hx (hx.2.trans (Bool.not_eq_true _ ▸ hr))
  · exact .nothing

/-- An answer to a frame that has been opened changes the panel link alone. -/
theorem respond_happens {q : Panel} (hx : s.pnl.Exchanged q) (st : Status) (pl : List Byte) :
    Happens s (respond (s.setPnl q) st pl) := .answer _ hx

section
variable {q : Panel} (hx : s.pnl.Exchanged q) (hr : q.resetPending = false) (payload : List Byte)
include hx hr

theorem setupBody_happens : Happens s (setupBody (s.setPnl q) payload) := by
  unfold setupBody
  split
  · exact respond_happens hx _ _
  case isFalse hset =>
    split
    · exact respond_happens hx _ _
    · split
      · exact respond_happens hx _ _
      · exact .taken q hx hr (.setup _ (Bool.not_eq_true _ ▸ hset)) _ _

theorem startBody_happens : Happens s (startBody (s.setPnl q) payload) := by
  unfold startBody
  split
  case isTrue hst =>
    split
    · exact respond_happens hx _ _
    · dsimp only
      split
      · exact .taken q hx hr (.start _ hst) _ _
      · exact .taken q hx hr (.start _ hst) _ _
  case isFalse => exact respond_happens hx _ _

theorem pauseBody_happens : Happens s (pauseBody (s.setPnl q) payload) := by
  unfold pauseBody
  split
  case isTrue h => exact .taken q hx hr (.pause h) _ _
  case isFalse => exact respond_happens hx _ _

theorem continueBody_happens : Happens s (continueBody (s.setPnl q) payload) := by
  unfold continueBody
  split
  case isTrue hst =>
    split
    · exact respond_happens hx _ _
    · split
      case h_1 st hrun => exact .taken q hx hr (.resume st hst hrun) _ _
      case h_2 => exact respond_happens hx _ _
  case isFalse => exact respond_happens hx _ _

theorem cancelBody_happens : Happens s (cancelBody (s.setPnl q) payload) := by
  unfold cancelBody
  split
  case isTrue h =>
    exact .taken q hx hr (.cancel ((Bool.or_eq_true_iff.mp h).imp_right of_decide_eq_true)) _ _
  case isFalse => exact respond_happens hx _ _

theorem confirmBody_happens : Happens s (confirmBody (s.setPnl q) payload) := by
  unfold confirmBody
  split
  case isTrue h =>
    split
    · exact respond_happens hx _ _
    · exact .taken q hx hr (.confirm h) _ _
  case isFalse => exact respond_happens hx _ _

theorem declineBody_happens : Happens s (declineBody (s.setPnl q) payload) := by
  unfold declineBody
  split
  case isTrue h => exact .taken q hx hr (.decline h) _ _
  case isFalse => exact respond_happens hx _ _

theorem forceBody_happens : Happens s (forceBody (s.setPnl q) payload) := by
  unfold forceBody
  split
  case isTrue h =>
    split
    · exact respond_happens hx _ _
    · split
      · split
        case isTrue hact => exact .taken q hx hr (.force _ h hact) _ _
        case isFalse => exact respond_happens hx _ _
      · exact respond_happens hx _ _
  case isFalse => exact respond_happens hx _ _

theorem resetBody_happens : Happens s (resetBody (s.setPnl q) payload) := by
  unfold resetBody
  split
  case isTrue h => exact .taken q hx hr (.reset h) _ _
  case isFalse => exact respond_happens hx _ _

end

/-- A frame of the host does one of the events of the part. -/
theorem exec_happens_frame {c : Instr} (h : exec c s = .next t) (hf : frameOfCommand c ≠ none) : Happens s t := by
  cases c with
  | setup tail => exact command_happens h fun _ p hx hr => setupBody_happens hx hr p
  | start tail => exact command_happens h fun _ p hx hr => startBody_happens hx hr p
  | pause tail => exact command_happens h fun _ p hx hr => pauseBody_happens hx hr p
  | continueCycle tail => exact command_happens h fun _ p hx hr => continueBody_happens hx hr p
  | cancel tail => exact command_happens h fun _ p hx hr => cancelBody_happens hx hr p
  | confirmResume tail => exact command_happens h fun _ p hx hr => confirmBody_happens hx hr p
  | declineResume tail => exact command_happens h fun _ p hx hr => declineBody_happens hx hr p
  | forceResume tail => exact command_happens h fun _ p hx hr => forceBody_happens hx hr p
  | readStatus tail => exact command_happens h fun _ _ hx _ => .answer _ hx
  | readPlan tail =>
    refine command_happens h fun q p hx _ => ?_
    unfold planBody
    split <;> exact respond_happens hx _ _
  | readPeers tail => exact command_happens h fun _ _ hx _ => .answer _ hx
  | readRecord tail =>
    refine command_happens h fun q p hx _ => ?_
    unfold recordBodyAnswer
    split <;> exact respond_happens hx _ _
  | readCounters tail => exact command_happens h fun _ _ hx _ => .answer _ hx
  | readIdent tail =>
    refine command_happens h fun q p hx _ => ?_
    unfold identBody
    split <;> exact respond_happens hx _ _
  | resetEnable tail => exact command_happens h fun _ _ hx _ => .answer _ hx
  | reset tail => exact command_happens h fun _ p hx hr => resetBody_happens hx hr p
  | emptyFrame count =>
    cases h
    split
    · exact .answer _ ⟨rfl, rfl⟩
    · exact .nothing
  | unknownCommand code tail =>
    cases h
    split
    · exact .answer _ ⟨rfl, rfl⟩
    · exact .nothing
  | _ => exact absurd rfl hf

/-- Every command does one of the events of the part. -/
theorem exec_happens {c : Instr} (h : exec c s = .next t) : Happens s t := by
  cases c with
  | mainReset inputs => cases h; exact .mainReset inputs
  | hostReset inputs => cases h; exact .hostReset inputs
  | mainSupplyFail => cases h; exact .mainFails
  | holdoverSupplyLoss => cases h; exact .quiet .holdoverFails
  | holdoverPowerOn => cases h; exact .quiet .holdoverRises
  | sequencerSecond => exact mainEvent_happens h fun _ => .second
  | guardBurstTimerExpiry => exact mainEvent_happens h fun _ => .second
  | progressTimerExpiry => exact mainEvent_happens h fun _ => .second
  | sensorFaultCountExpiry => exact mainEvent_happens h fun _ => .second
  | airflowHoldSet => exact mainEvent_happens h fun _ => .second
  | airflowHoldClear => exact mainEvent_happens h fun _ => .second
  | airflowFault => exact mainEvent_happens h fun _ => .second
  | makePlan e => exact mainEvent_happens (body := (exhEnds · e)) h fun _ => .exh e
  | refGateEnd n => exact mainEvent_happens (body := (refEnd · n)) h fun _ => .ref n
  | sensorGateEnd n => exact mainEvent_happens (body := (gateEnd · n)) h fun _ => .exh (.gate n)
  | periodEnd us => exact mainEvent_happens (body := (periodEnds · us)) h fun _ => .exh (.period us)
  | periodTimeout => exact mainEvent_happens (body := periodExpires) h fun _ => .exh .timeout
  | strapRefGateEnd n => exact quietEvent_happens (body := (strapRefEnd · n)) h fun _ => .strapRef n
  | strapGateEnd n => exact mainEvent_happens (body := (strapEnd · n)) h fun hd => .strap n (of_decide_eq_true hd)
  | zeroCrossEdge us => exact edgeEvent_happens h
  | periodBoundary us => exact edgeEvent_happens h
  | classifyBlock us => exact edgeEvent_happens h
  | returnComplete us => exact edgeEvent_happens h
  | returnTimeout us => exact edgeEvent_happens h
  | startWindowEnd => exact mainEvent_happens h fun hd => .window hd
  | coastTimeout => exact quietEvent_happens h fun _ => .coast
  | doorOpened => exact mainEvent_happens h fun _ => .doorOpens
  | doorClosed => exact mainEvent_happens h fun _ => .doorCloses
  | railDropTimeout => exact quietEvent_happens h fun _ => .railDrop
  | missingCrossingTimeout => exact mainEvent_happens h fun hd => .missing (bne_iff_ne.mp hd)
  | railTrip => exact mainEvent_happens h fun _ => .trip
  | railHealthy => exact quietEvent_happens h fun _ => .railHealthy
  | holdoverSecond => cases h; exact .quiet .holdoverSecond
  | crystalStop => cases h; exact .quiet .crystalStop
  | doorViewChange isOpen => cases h; exact .quiet (.doorView isOpen)
  | programBegin => exact quietEvent_happens h fun _ => .programBegin
  | programComplete agrees => exact quietEvent_happens (body := (programComplete · agrees)) h fun _ => .programComplete agrees
  | eraseBegin => exact quietEvent_happens h fun _ => .eraseBegin
  | eraseComplete blank => exact quietEvent_happens (body := (eraseComplete · blank)) h fun _ => .eraseComplete blank
  | suspendRequest => exact quietEvent_happens h fun _ => .suspendRequest
  | suspendEffect => exact quietEvent_happens h fun _ => .suspendEffect
  | scanComplete => exact quietEvent_happens h fun hd => .scan (by simpa using hd)
  | characterReceived d flag ok =>
    cases h
    split
    · split
      · exact .main true (.character d flag ok)
      · exact .quiet (.character d flag ok)
    · exact .nothing
  | lineIdle => exact quietEvent_happens h fun _ => .lineIdle
  | frameBegin => exact quietEvent_happens (body := fun s => s.setPlp s.plp.beginFrame) h fun _ => .frame
  | collision => exact mainEvent_happens h fun hd => .collision (of_decide_eq_true hd)
  | backoffExpiry => exact quietEvent_happens h fun _ => .backoff
  | noticeSent => exact mainEvent_happens h fun hd => .sent (of_decide_eq_true hd)
  | stuckLow => exact mainEvent_happens h fun _ => .stuck
  | noticeTimerExpiry => exact quietEvent_happens h fun _ => .notice
  | settleExpiry => exact mainEvent_happens h fun _ => .settle
  | listenInExpiry => exact mainEvent_happens h fun _ => .listenIn
  | peerAgeOut id => exact mainEvent_happens (body := (agePeerOut · id)) h fun _ => .age id
  | airflowPulse => exact quietEvent_happens h fun _ => .vane
  | _ => exact exec_happens_frame h (Option.some_ne_none _)

/-- A step is one microsecond or an event, of the state with the queue's rest. -/
theorem step_cases (h : step s = .next t) :
    (s.pending = [] ∧ t = tick s) ∨ ∃ rest, Happens { s with pending := rest } t := by
  unfold step at h
  split at h
  case h_1 hp => cases h; exact .inl ⟨hp, rfl⟩
  case h_2 c rest _ => exact .inr ⟨rest, exec_happens h⟩

end Sys2Proof.Machine
end

section
/-! PROOFS. What no command touches: the queue, and but for the flash operations the flash, whose canonical form every step
keeps. With them the statements that read the kept properties alone. -/

namespace Sys2Proof.Machine

variable (s : State)

/-! ## Frames of the commands and resets -/

@[simp] theorem applySettings_frame (x : Settings) :
    (applySettings s x).csq = s.csq ∧ (applySettings s x).scv = s.scv ∧ (applySettings s x).dwn = s.dwn ∧
    (applySettings s x).ost = s.ost ∧ (applySettings s x).mwt = s.mwt ∧ (applySettings s x).pjr = s.pjr ∧
    (applySettings s x).hdm = s.hdm ∧ (applySettings s x).rpl = s.rpl ∧ (applySettings s x).plp = s.plp ∧
    (applySettings s x).flash = s.flash ∧ (applySettings s x).settings = x ∧
    (applySettings s x).mainPowered = s.mainPowered ∧ (applySettings s x).freeCount = s.freeCount ∧
    (applySettings s x).pending = s.pending := by
  simp [applySettings]

@[simp] theorem leaveConfig_frame :
    (leaveConfig s).scv = s.scv ∧ (leaveConfig s).dwn = s.dwn ∧ (leaveConfig s).ost = s.ost ∧
    (leaveConfig s).mwt = s.mwt ∧ (leaveConfig s).pjr = s.pjr ∧ (leaveConfig s).plp = s.plp ∧
    (leaveConfig s).fsu = s.fsu ∧ (leaveConfig s).flash = s.flash ∧ (leaveConfig s).settings = s.settings ∧
    (leaveConfig s).mainPowered = s.mainPowered ∧ (leaveConfig s).freeCount = s.freeCount ∧
    (leaveConfig s).pending = s.pending := by
  simp [leaveConfig]

@[simp] theorem respond_frame (st : Status) (pl : List Byte) :
    (respond s st pl).csq = s.csq ∧ (respond s st pl).scv = s.scv ∧ (respond s st pl).dwn = s.dwn ∧
    (respond s st pl).ost = s.ost ∧ (respond s st pl).mwt = s.mwt ∧ (respond s st pl).pjr = s.pjr ∧
    (respond s st pl).hdm = s.hdm ∧ (respond s st pl).rpl = s.rpl ∧ (respond s st pl).plp = s.plp ∧
    (respond s st pl).fsu = s.fsu ∧ (respond s st pl).flash = s.flash ∧ (respond s st pl).settings = s.settings ∧
    (respond s st pl).mainPowered = s.mainPowered ∧ (respond s st pl).freeCount = s.freeCount ∧
    (respond s st pl).pending = s.pending := by
  simp [respond]

@[simp] theorem clearEnable_frame :
    (clearEnable s).csq = s.csq ∧ (clearEnable s).scv = s.scv ∧ (clearEnable s).dwn = s.dwn ∧
    (clearEnable s).ost = s.ost ∧ (clearEnable s).mwt = s.mwt ∧ (clearEnable s).pjr = s.pjr ∧
    (clearEnable s).hdm = s.hdm ∧ (clearEnable s).rpl = s.rpl ∧ (clearEnable s).plp = s.plp ∧
    (clearEnable s).fsu = s.fsu ∧ (clearEnable s).flash = s.flash ∧ (clearEnable s).settings = s.settings ∧
    (clearEnable s).mainPowered = s.mainPowered ∧ (clearEnable s).freeCount = s.freeCount ∧
    (clearEnable s).pending = s.pending := by
  simp [clearEnable]

/-- A main-domain reset takes the main domain alone. -/
@[simp] theorem cutMain_frame :
    (cutMain s).mainPowered = s.mainPowered ∧ (cutMain s).hdm = s.hdm ∧ (cutMain s).flash = (tearFlash s).flash ∧
    (cutMain s).freeCount = (tearFlash s).freeCount ∧ (cutMain s).pending = s.pending ∧ (cutMain s).csq = .reset ∧
    (cutMain s).scv = .reset ∧ (cutMain s).dwn = .reset ∧ (cutMain s).ost = .reset ∧ (cutMain s).mwt = .reset ∧
    (cutMain s).pjr = .reset ∧ (cutMain s).rpl = .reset ∧ (cutMain s).plp = .reset ∧ (cutMain s).fsu = .reset ∧
    (cutMain s).pnl = .reset ∧ (cutMain s).settings = .reset := by
  simp [cutMain, resetMain]

@[simp] theorem endReset_frame (b : Bool) :
    (endReset s b).mainPowered = s.mainPowered ∧ (endReset s b).dwn = s.dwn ∧ (endReset s b).hdm = s.hdm ∧
    (endReset s b).settings = s.settings ∧ (endReset s b).flash = s.flash ∧
    (endReset s b).freeCount = s.freeCount ∧ (endReset s b).pending = s.pending := by
  simp [endReset]

/-! ## The queue -/

variable {s} {t : State}

theorem hostTakes_pending (h : HostTakes s t) : t.pending = s.pending := by
  cases h <;> simp

theorem mainActs_pending (h : MainActs s t) : t.pending = s.pending := by
  cases h <;> simp

theorem quietActs_pending (h : QuietActs s t) : t.pending = s.pending := by
  cases h <;> simp [journalStep, holdoverFails, holdoverRises]

/-- No command touches the queue. -/
theorem happens_pending (h : Happens s t) : t.pending = s.pending := by
  cases h with
  | nothing => rfl
  | answer q _ => rfl
  | taken q _ _ hu st pl => simpa [taken] using hostTakes_pending hu
  | main ev hu => simpa using mainActs_pending hu
  | quiet hu => exact quietActs_pending hu
  | mainReset inputs => simp [mainReset, holdReset]
  | hostReset inputs => simp [hostReset, holdReset]
  | mainFails => simp [mainFails]

/-! ## The flash -/

theorem tearFlash_wf (h : Memory.wf s.flash = true) : Memory.wf (tearFlash s).flash = true := by
  unfold tearFlash
  split
  case h_2 => exact tearProgram_wf h _ _ _ _
  case h_3 => exact tearErase_wf (tearProgram_wf h _ _ _ _) _ _
  case h_1 | h_4 => exact h
  all_goals exact tearErase_wf h _ _

@[simp] theorem programVerified_flash (sector slot : Nat) (halted : Option Nat) (r : Record) :
    (programVerified s sector slot halted r).flash = putSlot s.flash sector slot (recordBytes r) := by
  simp [programVerified]

@[simp] theorem programFailed_flash (sector slot : Nat) (halted : Option Nat) :
    (programFailed s sector slot halted).flash = putSlot s.flash sector slot (badSlot s.freeCount sector slot) := by
  simp [programFailed]

theorem programComplete_wf (agrees : Bool) (h : Memory.wf s.flash = true) :
    Memory.wf (programComplete s agrees).flash = true := by
  unfold programComplete
  split
  · split
    · rw [programVerified_flash]; exact putSlot_wf h _ _ _
    · rw [programFailed_flash]; exact putSlot_wf h _ _ _
  · exact h

@[simp] theorem eraseDone_flash (k : Nat) : (eraseDone s k).flash = Memory.erase s.flash (k * 4096) 4096 := by
  simp [eraseDone]

@[simp] theorem eraseFailed_flash (k : Nat) : (eraseFailed s k).flash = failErase s.flash s.freeCount k := by
  unfold eraseFailed
  dsimp only
  split
  · simp
  · split <;> simp

theorem eraseComplete_wf (blank : Bool) (h : Memory.wf s.flash = true) :
    Memory.wf (eraseComplete s blank).flash = true := by
  unfold eraseComplete
  split
  · split
    · rw [eraseDone_flash]; exact Memory.erase_wf h _ _
    · rw [eraseFailed_flash]; exact failErase_wf h _ _
  · exact h

theorem hostTakes_flash (h : HostTakes s t) : t.flash = s.flash := by
  cases h <;> simp

theorem mainActs_flash (h : MainActs s t) : t.flash = s.flash := by
  cases h <;> simp

theorem quietActs_wf (h : QuietActs s t) (hw : Memory.wf s.flash = true) : Memory.wf t.flash = true := by
  cases h with
  | programComplete agrees => exact programComplete_wf agrees hw
  | eraseComplete blank => exact eraseComplete_wf blank hw
  | _ => simpa [journalStep, holdoverFails, holdoverRises] using hw

/-- Every event keeps the flash in canonical form. -/
theorem happens_wf (h : Happens s t) (hw : Memory.wf s.flash = true) : Memory.wf t.flash = true := by
  cases h with
  | nothing => exact hw
  | answer q _ => exact hw
  | taken q _ _ hu st pl => simpa [taken, hostTakes_flash hu] using hw
  | main ev hu => simpa [mainActs_flash hu] using hw
  | quiet hu => exact quietActs_wf hu hw
  | mainReset inputs => simpa [mainReset, holdReset] using tearFlash_wf hw
  | hostReset inputs =>
    unfold hostReset
    split
    · simpa [holdReset] using tearFlash_wf hw
    · exact hw
  | mainFails =>
    unfold mainFails
    split
    · simpa using tearFlash_wf hw
    · exact hw

@[simp] theorem tick_flash : (tick s).flash = s.flash := by
  unfold tick
  dsimp only
  split <;> rfl

end Sys2Proof.Machine

namespace Sys2Proof.Proofs

open Sys2Proof.Machine Sys2Proof.Safety

/-- Settles O54: a microsecond leaves the flash, and every event keeps its canonical form. -/
theorem flashKept : Obligations.FlashKept := by
  intro s t hw h
  rcases step_cases h with ⟨_, rfl⟩ | ⟨rest, hh⟩
  · rw [FlashOk, tick_flash]; exact hw
  · exact happens_wf hh hw

/-- Settles O3: every command answers, and none of its events touches the queue. -/
theorem everyCommandCompletes : Obligations.EveryCommandCompletes := by
  intro c s
  obtain ⟨t, ht⟩ := exec_next c s
  exact ⟨t, ht, happens_pending (exec_happens ht)⟩

/-- Settles O1: the step's own choice on a queue that is not empty. -/
theorem stepRunsTheFrontCommand : Obligations.StepRunsTheFrontCommand := by
  intro s c rest h
  simp only [step, h]

/-- Settles O60: the state after reset, block by block. -/
theorem resetHasInvariants : Obligations.ResetHasInvariants := by
  refine ⟨reset_flash_wf, ?generator, ?straps, ?peers, Nat.zero_le _, fun _ => rfl, trivial, ?loads⟩
  case generator => exact (by decide : (1 : BitVec 16) ≠ 0)
  case straps => exact ⟨by decide, by decide, fun _ => rfl⟩
  case peers => exact ⟨by decide, List.Pairwise.nil, fun p hp => absurd hp List.not_mem_nil, fun _ => rfl⟩
  case loads => exact ⟨fun _ => ⟨rfl, rfl, by decide⟩, by decide, fun _ => rfl, fun h => absurd h (by decide)⟩

/-- A load that draws is among the units held for its step, which is in the cover or under release (R69, R167). -/
theorem worth_le_unitsIf (s : State) (k : CoverStep) (h : Covered (stepOf s.fsu k)) :
    worth s k ≤ unitsIf s (· != .free) k := by
  rcases h with h | h <;> simp [unitsIf, h]

/-- Settles O58: in PRESENT each load that draws has its step in the cover, so that its worth is held. -/
theorem drawnWithinHeld : Obligations.DrawnWithinHeld := by
  intro s ⟨_, _, _, hpresent⟩ hs
  obtain ⟨h1, h2, h3⟩ := hpresent hs
  have draws1 : (if s.ost.stage1.on then s.settings.weight1 else 0) ≤ unitsIf s (· != .free) .stage1 := by
    split
    case isTrue hon => exact worth_le_unitsIf s .stage1 (h1 hon)
    case isFalse => exact Nat.zero_le _
  have draws2 : (if s.ost.stage2.on then s.settings.weight2 else 0) ≤ unitsIf s (· != .free) .stage2 := by
    split
    case isTrue hon => exact worth_le_unitsIf s .stage2 (h2 hon)
    case isFalse => exact Nat.zero_le _
  have drawsStart : (if s.ost.motor = .starting then s.settings.startUnits else 0) ≤ unitsIf s (· != .free) .start := by
    split
    case isTrue hm =>
      rcases h3 hm with hc | h0
      · exact worth_le_unitsIf s .start hc
      · exact h0 ▸ Nat.zero_le _
    case isFalse => exact Nat.zero_le _
  unfold energized held
  omega

end Sys2Proof.Proofs
end

section
/-! PROOFS. The Holdover Domain (R122 to R131): what each operation makes of its block, and that its clock never falls while
its supply stands. -/

namespace Sys2Proof.Machine

variable (s : State)

/-! ## The holdover flags and the clock -/

/-- The Holdover Domain with its flags cleared (R130). -/
def Holdover.cleared (h : Holdover) : Holdover := { h with clockLost := false, doorLatch := false }

@[simp] theorem orderClear_hdm : (orderClear s).hdm = s.hdm.cleared := rfl

@[simp] theorem enterAbandoned_hdm : (enterAbandoned s).hdm = s.hdm.cleared := by
  simp [enterAbandoned]

@[simp] theorem executePlan_hdm (p : Plan) : (executePlan s p).hdm = s.hdm.cleared := by
  unfold executePlan
  dsimp only
  split
  · simp
  · split <;> simp

@[simp] theorem cleared_clock (h : Holdover) : h.cleared.clock = h.clock := rfl

@[simp] theorem ite_clock (p : Prop) [Decidable p] (a b : Holdover) :
    (if p then a else b).clock = if p then a.clock else b.clock := apply_ite Holdover.clock p a b

theorem leaveConfig_clock : (leaveConfig s).hdm.clock = s.hdm.clock := by
  unfold leaveConfig
  split <;> simp

theorem actOnPlan_clock : (actOnPlan s).hdm.clock = s.hdm.clock := by
  unfold actOnPlan
  split <;> simp

theorem makePlan_clock (v : Bool) : (makePlan s v).hdm.clock = s.hdm.clock := by
  unfold makePlan deliverPlan
  dsimp only
  split
  · split
    · simp
    · rw [actOnPlan_clock]; simp
  · rfl

theorem completePair_clock (ch : Channel) (v : Bool) : (completePair s ch v).hdm.clock = s.hdm.clock := by
  unfold completePair
  dsimp only
  split
  · rw [makePlan_clock]; simp
  · simp

theorem endMeasurement_clock (m : Bool) (count period : Nat) (w : Option Nat) :
    (endMeasurement s m count period w).hdm.clock = s.hdm.clock := by
  unfold endMeasurement
  dsimp only
  rw [completePair_clock]
  simp

theorem exhEnds_clock (e : ExhEnd) : (exhEnds s e).hdm.clock = s.hdm.clock := by
  cases e with
  | gate n =>
    unfold exhEnds gateEnd
    dsimp only
    split
    · split
      · exact completePair_clock _ _ _
      · split
        · exact endMeasurement_clock _ _ _ _ _
        · rfl
    · rfl
  | period us =>
    unfold exhEnds periodEnds
    dsimp only
    split
    · exact endMeasurement_clock _ _ _ _ _
    · rfl
  | timeout =>
    unfold exhEnds periodExpires
    dsimp only
    split
    · exact endMeasurement_clock _ _ _ _ _
    · rfl

theorem waitSecond_clock : (waitSecond s).hdm.clock = s.hdm.clock := by
  unfold waitSecond windowExpires
  dsimp only
  split
  · split
    · split <;> simp
    · simp
  · rfl

variable {s} {t : State}

theorem hostTakes_clock (h : HostTakes s t) : t.hdm.clock = s.hdm.clock := by
  cases h with
  | setup x _ => rw [leaveConfig_clock]; simp
  | confirm _ => simp [takeConfirm]
  | decline _ => simp [takeDecline]
  | force r _ _ => simp [takeForce]
  | _ => simp

theorem mainActs_clock (h : MainActs s t) : t.hdm.clock = s.hdm.clock := by
  cases h with
  | exh e => exact exhEnds_clock s e
  | _ => simp

/-! ## The door view during a reset -/

@[simp] theorem changeView_clock (h : Holdover) (watch b : Bool) :
    (h.changeView watch b).clock = h.clock ∧ (h.changeView watch b).clockLost = h.clockLost := ⟨rfl, rfl⟩

/-- The door in the course of a reset moves its view and its latch alone (R126 to R128). -/
theorem inReset_eq (views : List Bool) : ∀ h : Holdover,
    h.inReset views = { h with view := (h.inReset views).view, doorLatch := (h.inReset views).doorLatch } := by
  induction views with
  | nil => intro h; rfl
  | cons b rest ih => intro h; exact ih (h.changeView true b)

@[simp] theorem inReset_clock (views : List Bool) (h : Holdover) : (h.inReset views).clock = h.clock := by
  rw [inReset_eq]

@[simp] theorem inReset_clockLost (views : List Bool) (h : Holdover) : (h.inReset views).clockLost = h.clockLost := by
  rw [inReset_eq]

/-- A latch that stands stays through a reset. -/
theorem inReset_latch (views : List Bool) : ∀ {h : Holdover}, h.doorLatch = true → (h.inReset views).doorLatch = true := by
  induction views with
  | nil => intro h hl; exact hl
  | cons b rest ih =>
    intro h hl
    exact ih (h := h.changeView true b) (by simp [Holdover.changeView, hl])

/-- An absent or a lost supply: the clock at 0, its loss marked and the door latch set (R122, R125). -/
def Holdover.Lost (h : Holdover) : Prop := h.clock = 0 ∧ h.clockLost = true ∧ h.doorLatch = true

theorem inReset_lost {h : Holdover} (hl : h.Lost) (views : List Bool) : (h.inReset views).Lost := by
  obtain ⟨h1, h2, h3⟩ := hl
  exact ⟨(inReset_clock views h).trans h1, (inReset_clockLost views h).trans h2, inReset_latch views h3⟩

/-! ## The clock through an event -/

/-- The clock has not fallen, or its supply is or becomes absent. -/
def ClockStands (s t : State) : Prop :=
  s.hdm.clock ≤ t.hdm.clock ∨ ((s.hdm.powered = false ∨ t.hdm.powered = false) ∧ t.hdm.Lost)

theorem ClockStands.of_eq (h : t.hdm.clock = s.hdm.clock) : ClockStands s t := .inl (Nat.le_of_eq h.symm)

theorem le_satInc (limit n : Nat) : n ≤ satInc limit n := by
  unfold satInc
  split <;> omega

theorem holdoverSecond_clock : s.hdm.clock ≤ (holdoverSecond s).hdm.clock := by
  unfold holdoverSecond
  dsimp only
  split
  · split
    · rw [waitSecond_clock]; exact le_satInc _ _
    · exact le_satInc _ _
  · exact Nat.le_refl _

theorem quietActs_clock (h : QuietActs s t) : ClockStands s t := by
  cases h with
  | holdoverSecond => exact .inl holdoverSecond_clock
  | crystalStop =>
    refine .of_eq ?_
    unfold crystalStops
    dsimp only
    split
    · split <;> simp
    · rfl
  | doorView b =>
    refine .of_eq ?_
    unfold viewChanges
    split <;> simp
  | holdoverFails =>
    unfold holdoverFails
    split
    · exact .of_eq rfl
    · exact .inr ⟨.inr rfl, rfl, rfl, rfl⟩
  | holdoverRises =>
    unfold holdoverRises
    split
    · exact .of_eq rfl
    case isFalse hp => exact .inr ⟨.inl (Bool.or_eq_false_iff.mp (Bool.not_eq_true _ ▸ hp)).2, rfl, rfl, rfl⟩
  | _ => exact .of_eq (by simp [journalStep])

/-- The Holdover Domain through a main reset: risen with the main supply where its own was down (R122, R125). -/
theorem mainReset_hdm (inputs : ResetInputs) :
    (mainReset s inputs).hdm = (if s.hdm.powered then s.hdm else Holdover.powerOn).inReset inputs.doorViews := by
  unfold mainReset holdReset raiseHoldover
  rw [(endReset_frame _ _).2.2.1]
  simp only [cutMain_frame]
  split <;> simp

theorem hostReset_hdm (inputs : ResetInputs) (h1 : s.mainPowered = true) (h2 : s.pnl.resetPending = true)
    (h3 : s.csq.endAwaited = false) : (hostReset s inputs).hdm = s.hdm.inReset inputs.doorViews := by
  unfold hostReset holdReset
  simp [h1, h2, h3]

theorem happens_clock (h : Happens s t) : ClockStands s t := by
  cases h with
  | nothing => exact .of_eq rfl
  | answer q _ => exact .of_eq rfl
  | taken q _ _ hu st pl => exact .of_eq (by simpa [taken] using hostTakes_clock hu)
  | main ev hu => exact .of_eq (by simpa using mainActs_clock hu)
  | quiet hu => exact quietActs_clock hu
  | mainReset inputs =>
    rw [ClockStands, mainReset_hdm]
    split
    · exact .inl (Nat.le_of_eq (inReset_clock _ _).symm)
    case isFalse hp => exact .inr ⟨.inl (Bool.not_eq_true _ ▸ hp), inReset_lost ⟨rfl, rfl, rfl⟩ _⟩
  | hostReset inputs =>
    unfold hostReset
    split
    · exact .of_eq (by simp [holdReset])
    · exact .of_eq rfl
  | mainFails =>
    refine .of_eq ?_
    unfold mainFails
    split
    · simp
    · rfl

theorem holdoverTick_clock (h : Holdover) (b : Bool) : (h.tick b).clock = h.clock := by
  unfold Holdover.tick
  split
  · rfl
  · split <;> rfl

theorem tick_hdm : (tick s).hdm = s.hdm.tick (Config.crystalCycle s.freeCount) := by
  unfold tick
  dsimp only
  split <;> rfl

end Sys2Proof.Machine

namespace Sys2Proof.Proofs

open Sys2Proof.Machine Sys2Proof.Safety

/-- Settles O59: a microsecond leaves the clock, and no event lowers it but where the supply is or becomes absent. -/
theorem clockNeverFalls : Obligations.ClockNeverFalls := by
  intro s t h
  rcases step_cases h with ⟨_, rfl⟩ | ⟨rest, hh⟩
  · exact .inl (Nat.le_of_eq (by rw [tick_hdm, holdoverTick_clock]))
  · have hc := happens_clock hh
    exact hc

end Sys2Proof.Proofs
end

section
/-! PROOFS. The panel link through the settling after an event: an evaluation may raise the fault event (R178), and nothing
clears it. -/

namespace Sys2Proof.Machine

variable (s : State)

@[simp] theorem giveUp_pnl (k : CoverStep) : (giveUp s k).pnl = s.pnl := by
  unfold giveUp
  split <;> simp

@[simp] theorem dropUnwanted_pnl (k : CoverStep) : (dropUnwanted s k).pnl = s.pnl := by
  simp [dropUnwanted]

@[simp] theorem dropAll_pnl : (dropAll s).pnl = s.pnl := by simp [dropAll]

@[simp] theorem confirmStep_pnl (k : CoverStep) : (confirmStep s k).pnl = s.pnl := by simp [confirmStep]

@[simp] theorem confirmAll_pnl : (confirmAll s).pnl = s.pnl := by simp [confirmAll]

@[simp] theorem takeWant_pnl : (takeWant s).pnl = s.pnl := rfl

@[simp] theorem settleClass_pnl : (settleClass s).pnl = s.pnl := by simp [settleClass]

@[simp] theorem settleEntry_pnl : (settleEntry s).pnl = s.pnl := by simp [settleEntry]

@[simp] theorem shedStep_pnl (k : CoverStep) : (shedStep s k).pnl = s.pnl := by simp [shedStep]

@[simp] theorem shedTest_pnl : (shedTest s).pnl = s.pnl := by simp [shedTest]

@[simp] theorem grantSteps_pnl (x : StepState) (ks : List CoverStep) : ∀ (s : State) (r : Nat),
    (grantSteps s x r ks).pnl = s.pnl := by
  induction ks with
  | nil => intro s r; rfl
  | cons k rest ih => intro s r; simp [grantSteps, ih]

@[simp] theorem grantTest_pnl : (grantTest s).pnl = s.pnl := by
  unfold grantTest
  split
  · split <;> simp
  · rfl

@[simp] theorem applyTests_pnl : (applyTests s).pnl = s.pnl := by simp [applyTests]

@[simp] theorem announce_pnl (s0 : State) (g : Bool) : (announce s0 g s).pnl = s.pnl := by simp [announce]

@[simp] theorem raiseFault_evFault : (raiseFault s).pnl.evFault = true := rfl

variable {s}

theorem formEvaluation_evFault (h : s.pnl.evFault = true) : (formEvaluation s).pnl.evFault = true := by
  unfold formEvaluation
  dsimp only
  split
  · rfl
  · exact h

theorem evaluateOnce_evFault (h : s.pnl.evFault = true) : (evaluateOnce s).pnl.evFault = true := by
  simpa [evaluateOnce] using formEvaluation_evFault h

theorem evaluateTimes_evFault (n : Nat) : ∀ {s : State}, s.pnl.evFault = true →
    (evaluateTimes n s).pnl.evFault = true := by
  induction n with
  | zero => exact formEvaluation_evFault
  | succ n ih =>
    intro s h
    unfold evaluateTimes
    split
    · exact ih (evaluateOnce_evFault h)
    · exact evaluateOnce_evFault h

theorem evaluate_evFault (h : s.pnl.evFault = true) : (evaluate s).pnl.evFault = true := by
  rw [evaluate]
  exact evaluateTimes_evFault 4 h

/-- The state that the settling after an event reaches before it announces it. -/
def settleAndEvaluate (ev : Bool) (s0 s : State) : State :=
  if evaluates ev s0 s (settleEntry s) then evaluate (settleEntry s) else settleEntry s

theorem finish_eq (ev : Bool) (s0 s : State) : finish ev s0 s =
    announce s0 (granted (settleEntry s).fsu (settleAndEvaluate ev s0 s).fsu) (settleAndEvaluate ev s0 s) := rfl

/-- The settling after an event leaves a fault event that stands. -/
theorem finish_evFault (ev : Bool) (s0 : State) (h : s.pnl.evFault = true) : (finish ev s0 s).pnl.evFault = true := by
  have hentry : (settleEntry s).pnl.evFault = true := by rw [settleEntry_pnl]; exact h
  rw [finish_eq, announce_pnl, settleAndEvaluate]
  split
  · exact evaluate_evFault hentry
  · exact hentry

end Sys2Proof.Machine
end

section
/-! PROOFS. Resets and supplies (R1, R26, R89, R113, R122, R125, R127): the flash that a cut-off operation leaves, the door in
the course of a reset, a reset that ends with the rail at its trip level, and each block after a reset. -/

namespace Sys2Proof.Machine

open Safety (finish_settled)

/-! ## Bytes of a slot -/

@[simp] theorem length_leBytes (w : Nat) : ∀ n : Nat, (leBytes w n).length = w := by
  induction w with
  | zero => intro n; rfl
  | succ w ih => intro n; simp [leBytes, ih]

@[simp] theorem length_descriptorBytes (d : Descriptor) : (descriptorBytes d).length = 23 := by
  simp [descriptorBytes]

@[simp] theorem length_cycleBytes (c : CycleRecord) : (cycleBytes c).length = 21 := by
  simp [cycleBytes]

@[simp] theorem length_recordBody (r : Record) : (recordBody r).length = 62 := by
  simp [recordBody]

@[simp] theorem length_recordBytes (r : Record) : (recordBytes r).length = 64 := by
  simp [recordBytes]

theorem length_forceBad {bs : List Byte} (h : bs.length = 64) : (forceBad bs).length = 64 := by
  unfold forceBad
  split
  · exact h
  · simp [h]

@[simp] theorem length_badSlot (n k i : Nat) : (badSlot n k i).length = 64 := length_forceBad (by simp)

/-! ## What a cut-off operation leaves (R113) -/

variable {m : List Host.Cell}

theorem read_tearProgram (h : Memory.wf m = true) (n k i : Nat) (r : Record) {a : Nat}
    (ha : a < slotBase k i ∨ slotBase k i + 64 ≤ a) : Memory.read (tearProgram m n k i r) a = Memory.read m a := by
  unfold tearProgram
  split
  · rfl
  split
  · exact read_putSlot_outside h _ _ _ (length_recordBytes r) ha
  · exact read_putSlot_outside h _ _ _ (length_badSlot ..) ha

theorem read_tearSlot (h : Memory.wf m = true) (n k i : Nat) {a : Nat}
    (ha : a < slotBase k i ∨ slotBase k i + 64 ≤ a) : Memory.read (tearSlot m n k i) a = Memory.read m a := by
  unfold tearSlot
  split
  · rw [Memory.read_erase, if_neg (by omega)]
  split
  · rfl
  · exact read_putSlot_outside h _ _ _ (length_badSlot ..) ha

theorem read_tearSlots (n k : Nat) {a : Nat} (is : List Nat)
    (ha : ∀ i ∈ is, a < slotBase k i ∨ slotBase k i + 64 ≤ a) : ∀ m : List Host.Cell, Memory.wf m = true →
      Memory.read (is.foldl (fun m i => tearSlot m n k i) m) a = Memory.read m a := by
  induction is with
  | nil => intro m _; rfl
  | cons i rest ih =>
    intro m h
    rw [List.foldl_cons, ih (fun j hj => ha j (List.mem_cons_of_mem _ hj)) _ (tearSlot_wf h n k i),
      read_tearSlot h n k i (ha i List.mem_cons_self)]

theorem read_tearErase (h : Memory.wf m = true) (n k : Nat) {a : Nat} (ha : a < k * 4096 ∨ k * 4096 + 4096 ≤ a) :
    Memory.read (tearErase m n k) a = Memory.read m a := by
  unfold tearErase
  have hout : ∀ i ∈ List.range 64, a < slotBase k i ∨ slotBase k i + 64 ≤ a := fun i hi => by
    have hi64 : i < 64 := List.mem_range.mp hi
    unfold slotBase
    generalize k * 4096 = base at ha ⊢
    omega
  exact read_tearSlots n k (List.range 64) hout m h

variable {s : State}

/-- Outside the operation in flight, a cut-off leaves every byte (R113). -/
theorem read_tearFlash (h : Memory.wf s.flash = true) {a : Nat} (ha : ¬ Safety.inOperation s.pjr a) :
    Memory.read (tearFlash s).flash a = Memory.read s.flash a := by
  unfold tearFlash
  split
  case h_1 | h_4 => rfl
  case h_2 hop _ =>
    simp only [Safety.inOperation, hop, not_or, Classical.not_and_iff_not_or_not, not_exists] at ha
    exact read_tearProgram h _ _ _ _ (by omega)
  case h_3 k i e r hop _ =>
    simp only [Safety.inOperation, hop, not_or, not_exists] at ha
    obtain ⟨hslot, hsec⟩ := ha
    have hsec := hsec e
    simp only [true_and] at hsec
    have hout := read_tearErase (tearProgram_wf h s.freeCount k i r) (s.freeCount + 1) e (a := a) (by omega)
    exact hout.trans (read_tearProgram h _ _ _ _ (by omega))
  all_goals
    rename_i hop
    simp only [Safety.inOperation, hop] at ha
    exact read_tearErase h _ _ (by omega)

theorem tearFlash_ready (h : s.pjr.op = .ready) : tearFlash s = s := by
  unfold tearFlash
  rw [h]

/-! ## The door in the course of a reset (R126 to R128) -/

theorem opensIn_nil (v : DoorView) : ¬ Safety.opensIn v [] := by
  rintro ⟨i, _, h⟩
  simp at h

theorem opensIn_cons (v : DoorView) (b : Bool) (rest : List Bool) :
    Safety.opensIn v (b :: rest) ↔ (v = .closed ∧ b = true) ∨ Safety.opensIn (viewOf b) rest := by
  have hv : (viewOf b != .closed) = b := by cases b <;> rfl
  unfold Safety.opensIn
  rw [hv]
  constructor
  · rintro ⟨i, h1, h2⟩
    cases i with
    | zero =>
      refine .inl ⟨?_, by simpa using h2⟩
      simpa using h1
    | succ i => exact .inr ⟨i, h1, h2⟩
  · rintro (⟨rfl, rfl⟩ | ⟨i, h1, h2⟩)
    · exact ⟨0, rfl, rfl⟩
    · exact ⟨i + 1, h1, h2⟩

theorem inReset_view (views : List Bool) : ∀ h : Holdover, (h.inReset views).view =
    (match views.getLast? with | none => h.view | some true => .opened | some false => .closed) := by
  induction views with
  | nil => intro h; rfl
  | cons b rest ih =>
    intro h
    refine (ih (h.changeView true b)).trans ?_
    cases rest with
    | nil => cases b <;> rfl
    | cons c rest =>
      rw [List.getLast?_cons_cons, List.getLast?_eq_some_getLast (List.cons_ne_nil c rest)]
      cases (c :: rest).getLast (List.cons_ne_nil c rest) <;> rfl

theorem inReset_latch_iff (views : List Bool) : ∀ h : Holdover, (h.inReset views).doorLatch = true ↔
    h.doorLatch = true ∨ Safety.opensIn h.view views := by
  induction views with
  | nil => intro h; simp [Holdover.inReset, opensIn_nil]
  | cons b rest ih =>
    intro h
    refine (ih (h.changeView true b)).trans ?_
    rw [opensIn_cons]
    simp [Holdover.changeView, and_comm, or_assoc]

theorem doorsWatched_inReset (views : List Bool) (h : Holdover) : Safety.DoorsWatched h views (h.inReset views) :=
  ⟨inReset_eq views h, inReset_view views h, inReset_latch_iff views h⟩

/-! ## The end of a reset -/

/-- A part whose main domain stands at its values after a reset, but for the fault event (R1, R131). -/
structure MainFresh (s : State) : Prop where
  csq : s.csq = .reset
  scv : s.scv = .reset
  dwn : s.dwn = .reset
  ost : s.ost = .reset
  mwt : s.mwt = .reset
  pjr : s.pjr = .reset
  rpl : s.rpl = .reset
  plp : s.plp = .reset
  fsu : s.fsu = .reset
  pnl : s.pnl = { Panel.reset with evFault := s.hdm.clockLost }
  settings : s.settings = .reset

/-- A reset with the rail input healthy at its end leaves the main domain fresh (R1, R131). -/
theorem endReset_fresh (h : s.csq = .reset ∧ s.scv = .reset ∧ s.dwn = .reset ∧ s.ost = .reset ∧ s.mwt = .reset ∧
    s.pjr = .reset ∧ s.rpl = .reset ∧ s.plp = .reset ∧ s.fsu = .reset ∧ s.pnl = .reset ∧ s.settings = .reset) :
    MainFresh (endReset s false) := by
  obtain ⟨h1, h2, h3, h4, h5, h6, h7, h8, h9, h10, h11⟩ := h
  have hpnl : (endReset s false).pnl = { Panel.reset with evFault := s.hdm.clockLost } := by
    cases hc : s.hdm.clockLost <;> simp [endReset, raiseFault, hc, h10, Panel.reset]
  refine ⟨?_, ?_, ?_, ?_, ?_, ?_, ?_, ?_, ?_, hpnl.trans ?_, ?_⟩
  all_goals simp [endReset, *]

/-- The trip that a reset ends with is one after the reset (R89). -/
theorem endReset_trip (s : State) :
    endReset s true = finish false (endReset s false) (railTripped (endReset s false)) := by
  simp only [endReset, if_true, Bool.false_eq_true, if_false]

/-- A loss warning in CONFIG, PLANNING, HOLDOVER_WAIT or LOSS moves no cycle state (R19, R20). -/
theorem lossMove_stays (h : s.csq.state = .config ∨ s.csq.state = .planning ∨ s.csq.state = .holdoverWait ∨
    s.csq.state = .loss) : lossMove s = s := by
  unfold lossMove
  rcases h with h | h | h | h <;> rw [h]

theorem lossCycle_stays (h : s.csq.state = .config ∨ s.csq.state = .planning ∨ s.csq.state = .holdoverWait ∨
    s.csq.state = .loss) : lossCycle s = clearNote s := by
  unfold lossCycle
  rw [lossMove_stays (s := clearNote s) h, ite_self]

/-- A loss warning with no record pending leaves its mark alone in the journal (R111). -/
theorem journalLoss_empty (h : s.pjr.pend = none) : journalLoss s = s.setPjr { s.pjr with lossMark := true } := by
  simp [journalLoss, Journal.warned, Journal.holdsOrderly, h]

/-- A trip in MEASURING right after a reset: LOSS_WARNING with the cause RAIL, the sequencer in CONFIG, the planner and the
panel link as the reset left them (R89, R19). -/
theorem railTripped_fresh (h : MainFresh s) :
    (railTripped s).csq = .reset ∧ (railTripped s).rpl = .reset ∧ (railTripped s).pnl = s.pnl ∧
    (railTripped s).pjr = { Journal.reset with lossMark := true } ∧
    (railTripped s).mwt = { Mains.reset with state := .lossWarning, railTripped := true, causeRail := true, warning := true } := by
  have hnot : s.mwt.railTripped = false := by rw [h.mwt]; rfl
  have hstate : s.mwt.tripCounts = s.mwt := by rw [h.mwt]; rfl
  have hmeasuring : s.mwt.state = .measuring := by rw [h.mwt]; rfl
  have hwarning : s.mwt.warning = false := by rw [h.mwt]; rfl
  have hpend : s.pjr.pend = none := by rw [h.pjr]; rfl
  have hcsq : s.csq.state = .config := by rw [h.csq]; rfl
  unfold railTripped enterLossWarning raiseWarning
  simp only [hnot, hstate, hmeasuring, hwarning, State.setMwt_mwt, Bool.false_eq_true, if_false, reduceCtorEq]
  rw [journalLoss_empty (by simpa using hpend), lossCycle_stays (by simpa using Or.inl hcsq)]
  simp [clearNote, h.csq, h.pjr, h.mwt, h.rpl, Sequencer.reset, Mains.reset]

/-- The state that a main reset ends in, or a host reset that is due. -/
theorem mainReset_fresh (s : State) (views : List Bool) : MainFresh (mainReset s ⟨false, views⟩) := by
  refine endReset_fresh ?_
  simp [holdReset]

theorem hostReset_due (inputs : ResetInputs) (h1 : s.mainPowered = true) (h2 : s.pnl.resetPending = true)
    (h3 : s.csq.endAwaited = false) :
    hostReset s inputs = endReset (holdReset (cutMain s) inputs.doorViews) inputs.railTrip := by
  simp [hostReset, h1, h2, h3]

theorem hostReset_fresh (views : List Bool) (h1 : s.mainPowered = true) (h2 : s.pnl.resetPending = true)
    (h3 : s.csq.endAwaited = false) : MainFresh (hostReset s ⟨false, views⟩) := by
  rw [hostReset_due _ h1 h2 h3]
  refine endReset_fresh ?_
  simp [holdReset]

/-- Whatever the rail does as the reset ends, the window and the planner stand at their values after a reset. -/
theorem endReset_dwn_rpl {b : Bool} (h : MainFresh (endReset s false)) :
    (endReset s b).dwn = .reset ∧ (endReset s b).rpl = .reset := by
  cases b with
  | false => exact ⟨h.dwn, h.rpl⟩
  | true =>
    obtain ⟨-, hrpl, -⟩ := railTripped_fresh h
    have hdwn : (railTripped (endReset s false)).dwn = .reset := by
      rw [(railTripped_frame _).2.1]; exact h.dwn
    rw [endReset_trip, (finish_frame _ _ _).2.2.2.1]
    exact ⟨hdwn, ((finish_settled _ _ _).rpl).trans hrpl⟩

theorem mainReset_dwn_rpl (s : State) (inputs : ResetInputs) :
    (mainReset s inputs).dwn = .reset ∧ (mainReset s inputs).rpl = .reset :=
  endReset_dwn_rpl (mainReset_fresh s inputs.doorViews)

theorem hostReset_dwn_rpl (inputs : ResetInputs) (h1 : s.mainPowered = true) (h2 : s.pnl.resetPending = true)
    (h3 : s.csq.endAwaited = false) :
    (hostReset s inputs).dwn = .reset ∧ (hostReset s inputs).rpl = .reset := by
  have hf := hostReset_fresh inputs.doorViews h1 h2 h3
  rw [hostReset_due _ h1 h2 h3] at hf ⊢
  exact endReset_dwn_rpl hf

theorem holdoverRises_powered (h : s.mainPowered = true) : holdoverRises s = s :=
  if_pos (by rw [h]; rfl)

theorem mainReset_flash (s : State) (inputs : ResetInputs) :
    (mainReset s inputs).flash = (tearFlash s).flash ∧ (mainReset s inputs).freeCount = (tearFlash s).freeCount ∧
      (mainReset s inputs).mainPowered = true := by
  unfold mainReset
  simp [holdReset, raiseHoldover]

theorem hostReset_flash (inputs : ResetInputs) (h1 : s.mainPowered = true) (h2 : s.pnl.resetPending = true)
    (h3 : s.csq.endAwaited = false) : (hostReset s inputs).flash = (tearFlash s).flash ∧
      (hostReset s inputs).freeCount = (tearFlash s).freeCount ∧ (hostReset s inputs).mainPowered = true := by
  rw [hostReset_due _ h1 h2 h3]
  simp [holdReset, h1]

end Sys2Proof.Machine

namespace Sys2Proof.Proofs

open Sys2Proof.Machine Sys2Proof.Safety

/-- Settles O4: after either reset the main domain is fresh, the door has been watched, and the flash is as a cut-off
operation leaves it. -/
theorem mainDomainReset : Obligations.MainDomainReset := by
  intro s c views hc hw
  obtain ⟨t, hexec, hfresh, hhdm, hflash, hcount, hpow⟩ : ∃ t, exec c s = .next t ∧ MainFresh t ∧
      t.hdm = s.hdm.inReset views ∧ t.flash = (tearFlash s).flash ∧ t.freeCount = (tearFlash s).freeCount ∧
      t.mainPowered = true := by
    rcases hc with ⟨rfl, hp⟩ | ⟨rfl, h1, h2, h3⟩
    · exact ⟨_, rfl, mainReset_fresh s views, by rw [mainReset_hdm, if_pos hp], mainReset_flash s _⟩
    · exact ⟨_, rfl, hostReset_fresh views h1 h2 h3, hostReset_hdm _ h1 h2 h3, hostReset_flash _ h1 h2 h3⟩
  refine ⟨t, hexec, hpow, hhdm ▸ doorsWatched_inReset views s.hdm, ?_⟩
  obtain ⟨e1, e2, e3, e4, e5, e6, e7, e8, e9, e10, -⟩ := hfresh
  have hlost : t.hdm.clockLost = s.hdm.clockLost := by rw [hhdm, inReset_clockLost]
  have hready : s.pjr.op = .ready → t.flash = s.flash ∧ t.freeCount = s.freeCount := fun h => by
    rw [hflash, hcount, tearFlash_ready h]; exact ⟨rfl, rfl⟩
  have hread : ∀ a, ¬ inOperation s.pjr a → Memory.read t.flash a = Memory.read s.flash a := fun a ha => by
    rw [hflash]; exact read_tearFlash hw ha
  simp only [e1, e2, e3, e4, e5, e6, e7, e8, e9, e10, hlost]
  simpa [Sequencer.reset, CycleRecord.reset, Descriptor.reset, Converter.reset, ChannelRecord.reset, Output.reset,
    Stage.reset, Mains.reset, Journal.reset, Dryness.reset, Verdict.none, Planner.reset, Plan.reset, Port.reset,
    Feeder.reset, Wants.nothing, Panel.reset] using And.intro hready hread

/-- Settles O5: a host reset that is not due, and a main reset that ends in a trip. -/
theorem resetEdges : Obligations.ResetEdges := by
  refine ⟨fun s b views h => congrArg Host.Outcome.next (if_neg ?_), fun s views => ⟨_, rfl, ?_⟩⟩
  · rcases h with h | h | h <;> simp [h]
  · obtain ⟨h1, -, -, h3, h4⟩ := railTripped_fresh (mainReset_fresh s views)
    have he : mainReset s ⟨true, views⟩ =
        finish false (mainReset s ⟨false, views⟩) (railTripped (mainReset s ⟨false, views⟩)) := rfl
    simp [he, h1, h3, h4, Sequencer.reset, Mains.reset, Journal.reset]

/-- Settles O6: the window after either reset, and a holdover power-on with the main supply. -/
theorem drynessWindowAfterReset : Obligations.DrynessWindowAfterReset := by
  refine ⟨fun s b views => ⟨_, rfl, ?_⟩, fun s b views h1 h2 h3 => ⟨_, rfl, ?_⟩,
    fun s h => congrArg Host.Outcome.next (holdoverRises_powered h)⟩
  · rw [(mainReset_dwn_rpl s _).1]; exact ⟨rfl, rfl, rfl, rfl⟩
  · rw [(hostReset_dwn_rpl _ h1 h2 h3).1]; exact ⟨rfl, rfl, rfl, rfl⟩

/-- Settles O7: the planner after either reset, and a holdover power-on with the main supply. -/
theorem plannerAfterReset : Obligations.PlannerAfterReset :=
  ⟨fun s _ _ => ⟨_, rfl, (mainReset_dwn_rpl s _).2⟩, fun _ _ _ h1 h2 h3 => ⟨_, rfl, (hostReset_dwn_rpl _ h1 h2 h3).2⟩,
    fun _ h => congrArg Host.Outcome.next (holdoverRises_powered h)⟩

/-- Settles O8: each supply's rise and fall, row by row. -/
theorem supplies : Obligations.Supplies := by
  refine ⟨fun s hm hh => ?rises, fun s b views hh => ?together, fun s hm hw => ?mainFails, fun s hm hh => ?lost,
    fun s hm => congrArg Host.Outcome.next (if_pos (by rw [hm]; rfl))⟩
  case rises =>
    have he : holdoverRises s = s.setHdm .powerOn := if_neg (by simp [hm, hh])
    exact ⟨_, congrArg Host.Outcome.next he, rfl, rfl, rfl, rfl, rfl, rfl, rfl, rfl, rfl, by simp [doorWatch, hm]⟩
  case together =>
    refine ⟨_, rfl, ?_⟩
    have hhdm := mainReset_hdm (s := s) ⟨b, views⟩
    rw [if_neg (by simp [hh])] at hhdm
    have hlost : (mainReset s ⟨b, views⟩).hdm.clockLost = true := by rw [hhdm, inReset_clockLost]; rfl
    refine ⟨?_, ?_, ?_, hlost, ?_, fun hv => ?_, ?_⟩
    · rw [hhdm, inReset_eq]; rfl
    · rw [hhdm, inReset_eq]; rfl
    · rw [hhdm, inReset_clock]; rfl
    · rw [hhdm]; exact inReset_latch _ rfl
    · rw [hhdm, hv]; rfl
    · have hpnl := (mainReset_fresh s views).pnl
      have hfault : (mainReset s ⟨false, views⟩).pnl.evFault = true := by
        rw [hpnl]
        rw [mainReset_hdm] at hhdm ⊢
        exact (congrArg Holdover.clockLost hhdm).trans ((inReset_clockLost _ _).trans rfl)
      cases b with
      | false => exact hfault
      | true => exact finish_evFault _ _ ((congrArg Panel.evFault (railTripped_fresh (mainReset_fresh s views)).2.2.1).trans hfault)
  case mainFails =>
    have he : mainFails s = { cutMain s with mainPowered := false } := if_pos hm
    refine ⟨_, congrArg Host.Outcome.next he, rfl, (cutMain_frame s).2.1, rfl, rfl, rfl, rfl, rfl, fun a ha => ?_⟩
    exact read_tearFlash hw ha
  case lost =>
    have he : holdoverFails s = s.setHdm { Holdover.powerOn with powered := false } := if_neg (by simp [hm, hh])
    exact ⟨_, congrArg Host.Outcome.next he, rfl, rfl⟩

end Sys2Proof.Proofs
end

section
/-! PROOFS. The window, the pending record and the phase (R5, R54, R106): one property of a state, carried through the requests
for records, the sequencer's moves, the journal's operations and every event. -/

namespace Sys2Proof.Machine

open Safety (WindowOk FaultOk PhaseOk)

/-! ## The property -/

/-- A phase agrees with a cycle state (R5). -/
def PhaseFits : CycleState → Phase → Prop
  | .heat, p => p = .heat
  | .extend, p => p = .extend
  | .cool, p => p = .cool
  | .guard, p => p = .guard
  | .paused, p => p = .paused
  | .done, p | .abandoned, p => p = .ended
  | .config, _ | .idle, _ | .loss, _ | .holdoverWait, _ | .planning, _ | .planReady, _ => True

theorem phaseOk_iff (s : State) : PhaseOk s ↔ PhaseFits s.csq.state s.csq.cyc.phase := by
  unfold PhaseOk PhaseFits
  cases s.csq.state <;> rfl

/-- The window, the pending record and the phase are as they must be. -/
structure CycleOk (s : State) : Prop where
  window : WindowOk s
  fault : FaultOk s
  phase : PhaseFits s.csq.state s.csq.cyc.phase

variable {s t u : State}

/-- The property looks at the window, the journal, the cycle state and the phase alone. -/
theorem CycleOk.congr (h : CycleOk s) (hd : t.dwn.window = s.dwn.window) (hj : t.pjr = s.pjr) (hs : t.csq.state = s.csq.state)
    (hp : t.csq.cyc.phase = s.csq.cyc.phase) : CycleOk t :=
  ⟨by rw [WindowOk, hd]; exact h.window, by rw [FaultOk, hj]; exact h.fault, by rw [hs, hp]; exact h.phase⟩

theorem CycleOk.frame (h : CycleOk s) (hd : t.dwn = s.dwn) (hj : t.pjr = s.pjr) (hc : t.csq = s.csq) : CycleOk t :=
  h.congr (by rw [hd]) hj (by rw [hc]) (by rw [hc])

theorem cycleOk_ite {p : Prop} [Decidable p] (ht : CycleOk t) (hu : CycleOk u) : CycleOk (if p then t else u) := by
  split
  · exact ht
  · exact hu

/-! ## Cycle states -/

@[simp] theorem setCycle_state (s : State) (st : CycleState) : (setCycle s st).csq.state = st := by
  unfold setCycle
  split
  case isTrue h => exact h
  case isFalse => simp

@[simp] theorem setCycle_cyc (s : State) (st : CycleState) : (setCycle s st).csq.cyc = s.csq.cyc := by
  unfold setCycle
  split <;> simp

/-- A state is entered with the phase that agrees with it. -/
theorem cycleOk_setCycle (hw : WindowOk u) (hf : FaultOk u) {st : CycleState} (hp : PhaseFits st u.csq.cyc.phase) :
    CycleOk (setCycle u st) :=
  ⟨by simpa [WindowOk] using hw, by simpa [FaultOk] using hf, by simpa using hp⟩

theorem enterPlanning_cycleOk (h : CycleOk s) (b : Bool) : CycleOk (enterPlanning s b) :=
  (cycleOk_setCycle (st := .planning) h.window h.fault trivial).frame rfl rfl rfl

theorem leaveLoss_cycleOk (h : CycleOk s) : CycleOk (leaveLoss s) :=
  cycleOk_ite (enterPlanning_cycleOk h true) (cycleOk_setCycle h.window h.fault trivial)

theorem recordDone_cycleOk (h : CycleOk s) : CycleOk (recordDone s) :=
  cycleOk_ite (h.congr rfl rfl rfl rfl) (cycleOk_ite h (cycleOk_ite (leaveLoss_cycleOk h) h))

theorem mainsBackCycle_cycleOk (h : CycleOk s) : CycleOk (mainsBackCycle s) :=
  cycleOk_ite (h.congr rfl rfl rfl rfl) (cycleOk_ite (enterPlanning_cycleOk h true) h)

theorem setReasons_cycleOk (h : CycleOk s) (f : Reasons → Reasons) : CycleOk (setReasons s f) :=
  h.congr rfl rfl rfl rfl

theorem raiseFault_cycleOk (h : CycleOk s) : CycleOk (raiseFault s) := h.frame rfl rfl rfl

/-! ## The journal -/

/-- A journal's pending record is empty while JOURNAL_FAULT stands (R106). -/
def Journal.FaultEmpties (j : Journal) : Prop := j.fault = true → j.pend = none

theorem CycleOk.setPjr (h : CycleOk s) {j : Journal} (hj : j.FaultEmpties) : CycleOk (s.setPjr j) :=
  ⟨h.window, hj, h.phase⟩

@[simp] theorem setSector_pend (j : Journal) (k : Nat) (x : SectorState) :
    (j.setSector k x).pend = j.pend ∧ (j.setSector k x).fault = j.fault := by
  unfold Journal.setSector
  repeat' split
  all_goals exact ⟨rfl, rfl⟩

@[simp] theorem count_pend (j : Journal) (f : JournalCounters → JournalCounters) :
    (j.count f).pend = j.pend ∧ (j.count f).fault = j.fault := ⟨rfl, rfl⟩

@[simp] theorem setPtr_pend (j : Journal) (k i : Nat) :
    (j.setPtr k i).pend = j.pend ∧ (j.setPtr k i).fault = j.fault := ⟨rfl, rfl⟩

@[simp] theorem openNext_pend (j : Journal) : j.openNext.pend = j.pend ∧ j.openNext.fault = j.fault := by
  unfold Journal.openNext
  split <;> simp

@[simp] theorem eraseAhead_pend (j : Journal) : j.eraseAhead.pend = j.pend ∧ j.eraseAhead.fault = j.fault := by
  unfold Journal.eraseAhead
  dsimp only
  split <;> simp

@[simp] theorem advance_pend (j : Journal) : j.advance.pend = j.pend ∧ j.advance.fault = j.fault := by
  unfold Journal.advance
  dsimp only
  split <;> simp

@[simp] theorem settleErase_pend (j : Journal) : j.settleErase.pend = j.pend ∧ j.settleErase.fault = j.fault := by
  unfold Journal.settleErase
  split
  · split
    · split <;> simp
    · simp
  · split <;> simp
  · simp

theorem programs_fault {j : Journal} (h : j.fault = true) : j.programs = none := if_pos h

theorem beginProgram_of_none {j : Journal} (h : j.programs = none) : j.beginProgram = j := by
  unfold Journal.beginProgram
  rw [h]

@[simp] theorem beginProgram_fault (j : Journal) : j.beginProgram.fault = j.fault := by
  unfold Journal.beginProgram
  split
  · dsimp only
    split <;> simp
  · rfl

theorem beginProgram_faultEmpties {j : Journal} (h : j.FaultEmpties) : j.beginProgram.FaultEmpties := by
  intro hf
  rw [beginProgram_fault] at hf
  rw [beginProgram_of_none (programs_fault hf)]
  exact h hf

theorem beginErase_faultEmpties {j : Journal} (h : j.FaultEmpties) : j.beginErase.FaultEmpties := by
  unfold Journal.FaultEmpties at h ⊢
  unfold Journal.beginErase
  split <;> simpa using h

theorem requestSuspend_faultEmpties {j : Journal} (h : j.FaultEmpties) : j.requestSuspend.FaultEmpties := by
  unfold Journal.FaultEmpties at h ⊢
  unfold Journal.requestSuspend
  split <;> simpa using h

theorem suspendEffect_faultEmpties {j : Journal} (h : j.FaultEmpties) : j.suspendEffect.FaultEmpties := by
  unfold Journal.suspendEffect
  split
  · exact beginProgram_faultEmpties (by simpa [Journal.FaultEmpties] using h)
  · exact h

theorem warned_faultEmpties {j : Journal} (h : j.FaultEmpties) : j.warned.FaultEmpties := by
  unfold Journal.warned
  split
  case h_1 p hp => exact fun hf => absurd (h hf) (by simp [hp])
  case h_2 => exact h

theorem setJournalFault_cycleOk (h : CycleOk s) : CycleOk (setJournalFault s) := by
  have h1 : CycleOk (s.setPjr { s.pjr with fault := true, pend := none }) := h.setPjr fun _ => rfl
  have h2 : CycleOk (if s.pjr.pend.isSome then recordDone (s.setPjr { s.pjr with fault := true, pend := none })
      else s.setPjr { s.pjr with fault := true, pend := none }) := cycleOk_ite (recordDone_cycleOk h1) h1
  unfold setJournalFault journalFaultReport
  exact cycleOk_ite h2 (raiseFault_cycleOk (setReasons_cycleOk h2 _))

theorem abandonPending_cycleOk (h : CycleOk s) : CycleOk (abandonPending s) :=
  cycleOk_ite (recordDone_cycleOk (h.setPjr fun _ => rfl)) h

theorem journalSettle_faultOk (h : FaultOk s) : FaultOk (journalSettle s) := by
  have ha : FaultOk (abandonPending s) := by
    unfold abandonPending
    split
    · simp [FaultOk]
    · exact h
  unfold journalSettle
  split
  · exact h
  · simpa [FaultOk] using ha

theorem journalSettle_cycleOk (h : CycleOk s) : CycleOk (journalSettle s) := by
  unfold journalSettle
  refine cycleOk_ite h ?_
  have ha := abandonPending_cycleOk h
  exact ha.setPjr (by simpa [Journal.FaultEmpties] using ha.fault)

@[simp] theorem unmark_pend (j : Journal) (kind : RecordKind) :
    (j.unmark kind).pend = j.pend ∧ (j.unmark kind).fault = j.fault := by
  unfold Journal.unmark
  split <;> exact ⟨rfl, rfl⟩

theorem takeCopy_faultEmpties {j : Journal} (hj : ¬ j.fault = true) (copy : Record) (host : Bool) :
    (j.takeCopy copy host).FaultEmpties := by
  intro hf
  unfold Journal.takeCopy at hf
  split at hf <;> exact absurd (by simpa using hf) hj

/-- Under JOURNAL_FAULT a record request is dropped (R100, R106). -/
theorem requestRecord_faultOk (h : FaultOk s) (kind : RecordKind) (reason : EndReason) :
    FaultOk (requestRecord s kind reason) := by
  unfold requestRecord
  dsimp only
  split
  case isTrue => simpa [FaultOk] using h
  case isFalse hf => exact journalSettle_faultOk (takeCopy_faultEmpties hf _ _)

theorem requestRecord_cycleOk (h : CycleOk s) (kind : RecordKind) (reason : EndReason) :
    CycleOk (requestRecord s kind reason) := by
  have h1 : CycleOk (s.setCsq { s.csq with progress := 0 }) := h.congr rfl rfl rfl rfl
  unfold requestRecord
  dsimp only
  split
  case isTrue =>
    refine recordDone_cycleOk (h1.setPjr ?_)
    simpa [Journal.FaultEmpties] using h.fault
  case isFalse hf => exact journalSettle_cycleOk (h1.setPjr (takeCopy_faultEmpties hf _ _))

theorem journalLoss_cycleOk (h : CycleOk s) : CycleOk (journalLoss s) := by
  have h1 : CycleOk (s.setPjr s.pjr.warned) := h.setPjr (warned_faultEmpties h.fault)
  exact cycleOk_ite (journalSettle_cycleOk h1) h1

/-! ## The sequencer's moves -/

/-- A state is entered with a record: the phase written agrees with it. -/
theorem entered_cycleOk (hw : WindowOk u) (hf : FaultOk u) {st : CycleState} (hp : PhaseFits st u.csq.cyc.phase)
    (kind : RecordKind) (reason : EndReason) : CycleOk (requestRecord (setCycle u st) kind reason) :=
  requestRecord_cycleOk (cycleOk_setCycle hw hf hp) kind reason

theorem enterCool_cycleOk (h : CycleOk s) : CycleOk (enterCool s) := by
  unfold enterCool
  refine entered_cycleOk ?_ ?_ ?_ _ _
  · exact h.window
  · exact h.fault
  · exact rfl

theorem enterExtend_cycleOk (h : CycleOk s) : CycleOk (enterExtend s) := by
  unfold enterExtend
  refine entered_cycleOk ?_ ?_ ?_ _ _
  · exact h.window
  · exact h.fault
  · exact rfl

theorem enterDone_cycleOk (hw : WindowOk s) (hf : FaultOk s) (reason : EndReason) : CycleOk (enterDone s reason) := by
  unfold enterDone
  refine entered_cycleOk ?_ ?_ ?_ _ _
  · exact hw
  · exact hf
  · exact rfl

theorem enterAbandoned_cycleOk (hw : WindowOk s) (hf : FaultOk s) : CycleOk (enterAbandoned s) := by
  unfold enterAbandoned
  refine entered_cycleOk ?_ ?_ ?_ _ _
  · exact hw
  · exact hf
  · exact rfl

theorem enterGuard_cycleOk (h : CycleOk s) : CycleOk (enterGuard s) := by
  unfold enterGuard
  refine entered_cycleOk ?_ ?_ ?_ _ _
  · exact h.window
  · exact h.fault
  · exact rfl

theorem enterPaused_cycleOk (h : CycleOk s) : CycleOk (enterPaused s) := by
  unfold enterPaused
  refine entered_cycleOk ?_ ?_ ?_ _ _
  · exact h.window
  · exact h.fault
  · exact rfl

theorem takeStart_cycleOk (h : CycleOk s) (d : Descriptor) : CycleOk (takeStart s d) := by
  unfold takeStart
  refine entered_cycleOk ?_ ?_ ?_ _ _
  · exact Nat.zero_le _
  · exact h.fault
  · exact rfl

theorem runningState_cases {p : Phase} {st : CycleState} (h : runningState p = some st) :
    st = .heat ∨ st = .extend ∨ st = .cool ∨ st = .guard := by
  cases p <;> cases h <;> simp

theorem takeContinue_cycleOk (h : CycleOk s) {st : CycleState} (hst : runningState s.csq.cyc.before = some st) :
    CycleOk (takeContinue s st) := by
  unfold takeContinue
  refine entered_cycleOk ?_ ?_ ?_ _ _ <;> rcases runningState_cases hst with rfl | rfl | rfl | rfl
  · exact Nat.zero_le _
  · exact h.window
  · exact h.window
  · exact h.window
  · exact h.fault
  · exact h.fault
  · exact h.fault
  · exact h.fault
  · exact rfl
  · exact rfl
  · exact rfl
  · exact rfl

theorem takeCancel_cycleOk (h : CycleOk s) : CycleOk (takeCancel s) := enterDone_cycleOk (s := setReasons s _) h.window h.fault _

theorem takeReset_cycleOk (h : CycleOk s) : CycleOk (takeReset s) := by
  have h1 : CycleOk (if s.csq.cyc.phase.active && s.csq.state != .planning then
      requestRecord (s.setCsq { s.csq with endReason := .hostReset, endAwaited := true }) .finish .hostReset else s) :=
    cycleOk_ite (requestRecord_cycleOk (s := s.setCsq { s.csq with endReason := .hostReset, endAwaited := true })
      (h.congr rfl rfl rfl rfl) _ _) h
  exact h1.frame rfl rfl rfl

theorem dryReport_cycleOk (h : CycleOk s) (tDry ext : Nat) : CycleOk (dryReport s tDry ext) := by
  have h1 : CycleOk (setCyc s { s.csq.cyc with tDry := tDry, extTotal := ext, extDone := 0 }) := h.congr rfl rfl rfl rfl
  unfold dryReport
  exact cycleOk_ite (cycleOk_ite (enterExtend_cycleOk h1) (enterCool_cycleOk h1)) h

theorem airflowFaultReport_cycleOk (h : CycleOk s) : CycleOk (airflowFaultReport s) := by
  have h1 := raiseFault_cycleOk (setReasons_cycleOk h fun r => { r with airflowFault := true })
  unfold airflowFaultReport
  exact cycleOk_ite h (cycleOk_ite (enterCool_cycleOk h1) h1)

theorem doorCycle_cycleOk (h : CycleOk s) : CycleOk (doorCycle s) := by
  unfold doorCycle
  refine cycleOk_ite h ?_
  split
  · exact enterPaused_cycleOk h
  · exact enterPaused_cycleOk h
  · exact enterPaused_cycleOk h
  · exact enterDone_cycleOk (s := setReasons s _) h.window h.fault _
  · exact h

theorem lossMove_cycleOk (h : CycleOk s) : CycleOk (lossMove s) := by
  have hloss : CycleOk (setCycle s .loss) := cycleOk_setCycle h.window h.fault trivial
  unfold lossMove
  split
  case h_6 | h_7 | h_8 | h_9 => exact recordDone_cycleOk hloss
  case h_10 | h_11 | h_12 | h_13 => exact h
  all_goals exact requestRecord_cycleOk hloss _ _

theorem lossCycle_cycleOk (h : CycleOk s) : CycleOk (lossCycle s) := by
  have h1 : CycleOk (clearNote s) := h.congr rfl rfl rfl rfl
  exact cycleOk_ite h1 (lossMove_cycleOk h1)

/-! ## Plans -/

/-- The outcomes that lead back into the cycle (R24). -/
def PlanOutcome.Resumes (o : PlanOutcome) : Prop :=
  o = .resumeHeat ∨ o = .resumeExtend ∨ o = .resumeCool ∨ o = .resumeGuard ∨ o = .resumePaused

/-- A plan that leads back into the cycle enters a state with its phase, whatever phase the source had. -/
theorem executePlan_cycleOk (hw : WindowOk s) (hf : FaultOk s) (p : Plan)
    (hp : p.outcome.Resumes ∨ PhaseFits s.csq.state s.csq.cyc.phase) : CycleOk (executePlan s p) := by
  unfold executePlan
  dsimp only
  split
  case isTrue =>
    exact enterDone_cycleOk (by simpa [WindowOk] using hw) (requestRecord_faultOk (s := setClass (orderClear s) 2) hf _ _) _
  case isFalse =>
    refine requestRecord_cycleOk ?_ _ _
    split
    · unfold executeHeat
      refine cycleOk_setCycle ?_ ?_ ?_
      · exact Nat.zero_le _
      · exact hf
      · exact rfl
    · unfold executeExtend
      refine cycleOk_setCycle ?_ ?_ ?_
      · exact hw
      · exact hf
      · exact rfl
    · unfold executeCool
      refine cycleOk_setCycle ?_ ?_ ?_
      · exact hw
      · exact hf
      · exact rfl
    · unfold executeGuard
      refine cycleOk_setCycle ?_ ?_ ?_
      · exact hw
      · exact hf
      · exact rfl
    · unfold executePaused
      refine cycleOk_setCycle ?_ ?_ rfl
      · simpa [WindowOk, setCyc] using hw
      · simpa [FaultOk, setCyc] using hf
    all_goals
      rename_i ho
      rcases hp with hp | hp
      · simp [PlanOutcome.Resumes, ho] at hp
      · exact ⟨hw, hf, hp⟩

end Sys2Proof.Machine
end

section
/-! PROOFS. Every event keeps the window, the pending record and the phase (R5, R54, R106): the planner, the measurements, the
second, the flash, the mains, and the step itself. -/

namespace Sys2Proof.Machine

open Safety (WindowOk FaultOk PhaseOk)

variable {s t u : State}

/-! ## The planner -/

theorem setDisposition_cycleOk (h : CycleOk s) (d : Disposition) : CycleOk (setDisposition s d) := h.frame rfl rfl rfl

theorem enterPlanReady_cycleOk (hw : WindowOk s) (hf : FaultOk s) (reason : ReadyReason) :
    CycleOk (enterPlanReady s reason) :=
  (cycleOk_setCycle (st := .planReady) hw hf trivial).congr rfl rfl rfl rfl

/-- Whatever the outcome, a state is entered that agrees with the phase then written (R22). -/
theorem actOnPlan_cycleOk (hw : WindowOk s) (hf : FaultOk s) : CycleOk (actOnPlan s) := by
  unfold actOnPlan
  split
  case h_1 => exact setDisposition_cycleOk (cycleOk_setCycle (u := orderClear s) (st := .idle) hw hf trivial) _
  case h_2 =>
    exact setDisposition_cycleOk (enterDone_cycleOk (s := setReasons (orderClear s) _) hw hf _) _
  case h_3 | h_4 => exact setDisposition_cycleOk (enterAbandoned_cycleOk hw hf) _
  all_goals
    rename_i ho
    have hresumes : s.rpl.plan.outcome.Resumes := by simp [PlanOutcome.Resumes, ho]
    exact cycleOk_ite (enterPlanReady_cycleOk hw hf _) (cycleOk_ite (enterPlanReady_cycleOk hw hf _)
      (setDisposition_cycleOk (executePlan_cycleOk hw hf _ (.inl hresumes)) _))

theorem makePlan_cycleOk (h : CycleOk s) (valid : Bool) : CycleOk (makePlan s valid) := by
  unfold makePlan
  split
  case isFalse => exact h
  case isTrue =>
    dsimp only [deliverPlan]
    split
    · exact h.frame rfl rfl rfl
    · refine actOnPlan_cycleOk ?_ ?_
      · simpa [WindowOk] using h.window
      · simpa [FaultOk] using h.fault

theorem waitSecond_cycleOk (h : CycleOk s) : CycleOk (waitSecond s) := by
  unfold waitSecond windowExpires
  exact cycleOk_ite (cycleOk_ite (cycleOk_ite (h.frame rfl rfl rfl) (enterAbandoned_cycleOk h.window h.fault))
    (h.frame rfl rfl rfl)) h

/-- A plan made from a record of an active cycle leads back into it (R137, R147). -/
theorem resumeFrom_resumes {r : Record} (hr : r.cyc.phase.active = true) (rate : Nat) (p : Plan) :
    (resumeFrom r rate p).outcome.Resumes := by
  have hn : r.cyc.phase ≠ .none ∧ r.cyc.phase ≠ .ended := by
    constructor <;> intro h <;> rw [h] at hr <;> exact absurd hr (by decide)
  unfold resumeFrom PlanOutcome.Resumes
  repeat' split
  all_goals simp_all [Plan.withExtension]

theorem takeForce_cycleOk (h : CycleOk s) {r : Record} (hr : r.cyc.phase.active = true) : CycleOk (takeForce s r) := by
  unfold takeForce
  dsimp only
  refine executePlan_cycleOk ?_ ?_ _ (.inl (resumeFrom_resumes hr _ _))
  · exact h.window
  · exact h.fault

theorem leaveConfig_cycleOk (h : CycleOk s) : CycleOk (leaveConfig s) :=
  cycleOk_ite (enterPlanning_cycleOk h false) (cycleOk_setCycle (u := orderClear s) h.window h.fault trivial)

theorem hostTakes_cycleOk (h : CycleOk s) (ht : HostTakes s t) : CycleOk t := by
  cases ht with
  | setup x _ => exact leaveConfig_cycleOk (h.frame (by simp) (by simp) (by simp))
  | start d _ => exact takeStart_cycleOk h d
  | pause _ => exact enterPaused_cycleOk h
  | resume st _ hst => exact takeContinue_cycleOk h hst
  | cancel _ => exact takeCancel_cycleOk h
  | confirm hs =>
    refine setDisposition_cycleOk (executePlan_cycleOk h.window h.fault _ (.inr ?_)) _
    rw [hs]
    trivial
  | decline _ => exact setDisposition_cycleOk (enterDone_cycleOk (s := orderClear s) h.window h.fault _) _
  | force r _ hr => exact takeForce_cycleOk h hr
  | reset _ => exact takeReset_cycleOk (h.frame rfl rfl rfl)

/-! ## Measurements -/

@[simp] theorem deliver_window (s : State) (ch : Channel) (w : Option Nat) :
    (deliver s ch w).dwn.window = s.dwn.window := by
  unfold deliver
  split
  · unfold collectMoist; split <;> simp
  · unfold collectMoist; split <;> simp
  · unfold deliverTherm; repeat' split
    all_goals simp
  · rfl

theorem completePair_cycleOk (h : CycleOk s) (ch : Channel) (valid : Bool) : CycleOk (completePair s ch valid) := by
  have h1 : CycleOk (s.setScv s.scv.nextPair) := h.frame rfl rfl rfl
  exact cycleOk_ite (makePlan_cycleOk h1 valid) h1

theorem endMeasurement_cycleOk (h : CycleOk s) (m : Bool) (count period : Nat) (w : Option Nat) :
    CycleOk (endMeasurement s m count period w) := by
  unfold endMeasurement
  exact completePair_cycleOk (h.congr (by simp) (by simp) (by simp) (by simp)) _ _

theorem exhEnds_cycleOk (h : CycleOk s) (e : ExhEnd) : CycleOk (exhEnds s e) := by
  cases e with
  | gate n =>
    exact cycleOk_ite (cycleOk_ite (completePair_cycleOk h _ _)
      (cycleOk_ite (endMeasurement_cycleOk h _ _ _ _) (h.frame rfl rfl rfl))) h
  | period us => exact cycleOk_ite (endMeasurement_cycleOk h _ _ _ _) h
  | timeout => exact cycleOk_ite (endMeasurement_cycleOk h _ _ _ _) h

/-! ## The second -/

theorem countCycle_phase (s : State) : (countCycle s).phase = s.csq.cyc.phase := by
  unfold countCycle
  split
  case h_4 =>
    unfold countGuard
    dsimp only
    split
    · split <;> rfl
    · split
      · split <;> rfl
      · rfl
  all_goals rfl

theorem countSecond_cycleOk (h : CycleOk s) : CycleOk (countSecond s) := by
  unfold countSecond
  split
  · exact h.congr rfl rfl rfl rfl
  · exact h.congr rfl rfl rfl (countCycle_phase s)

/-- The window never holds more than 32 samples (R54). -/
theorem sample_window_length {d : Dryness} (h : d.window.length ≤ 32) (heating : Bool) :
    (d.sample heating).window.length ≤ 32 := by
  unfold Dryness.sample
  dsimp only
  split
  · exact List.length_take_le _ _
  · exact h

theorem drySecond_cycleOk (h : CycleOk s) : CycleOk (drySecond s) := by
  have hw := sample_window_length h.window s.csq.state.heats
  exact cycleOk_ite ⟨hw, h.fault, h.phase⟩ ⟨hw, h.fault, h.phase⟩

theorem faultMove_cycleOk (h : CycleOk s) : CycleOk (faultMove s) :=
  cycleOk_ite (enterCool_cycleOk (raiseFault_cycleOk (setReasons_cycleOk h _))) h

theorem testMove_cycleOk (h : CycleOk s) : CycleOk (testMove s) := by
  unfold testMove
  refine cycleOk_ite ?_ h
  split
  · exact enterCool_cycleOk (setReasons_cycleOk h _)
  · exact enterCool_cycleOk h
  · exact cycleOk_ite (enterGuard_cycleOk h) (enterDone_cycleOk h.window h.fault _)
  · exact enterDone_cycleOk h.window h.fault _
  · exact h

theorem dryAndOwn_cycleOk (h : CycleOk s) (st : CycleState) (dry first : Bool) : CycleOk (dryAndOwn s st dry first) := by
  have own : ∀ {v : State}, CycleOk v → CycleOk (ownMoves v st) := fun hv =>
    cycleOk_ite (cycleOk_ite (faultMove_cycleOk hv) (testMove_cycleOk hv)) hv
  have report : ∀ {v : State}, CycleOk v → CycleOk (dryMove v dry) := fun hv =>
    cycleOk_ite (dryReport_cycleOk hv _ _) hv
  exact cycleOk_ite (own (report h)) (report (own h))

theorem holdCount_cycleOk (h : CycleOk s) : CycleOk (holdCount s) := cycleOk_ite (h.frame rfl rfl rfl) h

theorem holdReport_cycleOk (h : CycleOk s) (due : Bool) : CycleOk (holdReport due s) :=
  cycleOk_ite (airflowFaultReport_cycleOk h) h

theorem allMoves_cycleOk (h : CycleOk s) (dry reportFirst holdFirst atOnce : Bool) :
    CycleOk (allMoves s dry reportFirst holdFirst atOnce) := by
  have hold : ∀ {v : State}, CycleOk v → CycleOk (holdSecond v) := fun hv => holdReport_cycleOk (holdCount_cycleOk hv) _
  exact cycleOk_ite (hold (dryAndOwn_cycleOk h _ _ _)) (cycleOk_ite (dryAndOwn_cycleOk (hold h) _ _ _)
    (holdReport_cycleOk (dryAndOwn_cycleOk (holdCount_cycleOk h) _ _ _) _))

theorem progressMove_cycleOk (h : CycleOk s) : CycleOk (progressMove s) := cycleOk_ite (requestRecord_cycleOk h _ _) h

theorem orderWhen_cycleOk (h : CycleOk s) (conflict : Bool) : CycleOk (orderWhen conflict s).2 := by
  unfold orderWhen
  split
  · exact h.frame rfl rfl rfl
  · exact h

theorem moveSecond_cycleOk (h : CycleOk s) (dry : Bool) : CycleOk (moveSecond s dry) := by
  unfold moveSecond
  extract_lets moves a b c d
  have ha : CycleOk a.2 := orderWhen_cycleOk h _
  have hb : CycleOk b.2 := orderWhen_cycleOk ha _
  have hc : CycleOk c.2 := orderWhen_cycleOk hb _
  have hd : CycleOk d.2 := orderWhen_cycleOk hc _
  exact cycleOk_ite (allMoves_cycleOk (progressMove_cycleOk hd) _ _ _ _)
    (progressMove_cycleOk (allMoves_cycleOk hd _ _ _ _))

theorem secondBody_cycleOk (h : CycleOk s) : CycleOk (secondBody s) := by
  have hair : CycleOk (airSecond (countSecond s)) := (countSecond_cycleOk h).frame rfl rfl rfl
  exact moveSecond_cycleOk (drySecond_cycleOk hair) _

/-! ## The flash -/

theorem programVerified_cycleOk (h : CycleOk s) (k i : Nat) (halted : Option Nat) (r : Record) :
    CycleOk (programVerified s k i halted r) := by
  unfold programVerified
  extract_lets flash j j1 j2 mine s1 s2
  have hmine : mine = false → j2.FaultEmpties := fun _ => by simpa [j2, j1, j, Journal.FaultEmpties] using h.fault
  have h1 : CycleOk s1 := by
    refine ⟨h.window, ?_, h.phase⟩
    cases hm : mine with
    | true => simp [FaultOk, s1, hm]
    | false => simpa [FaultOk, s1, hm, Journal.FaultEmpties] using hmine hm
  have h2 : CycleOk s2 := cycleOk_ite (recordDone_cycleOk h1) h1
  exact journalSettle_cycleOk (cycleOk_ite (setJournalFault_cycleOk h2) h2)

theorem programFailed_cycleOk (h : CycleOk s) (k i : Nat) (halted : Option Nat) :
    CycleOk (programFailed s k i halted) := by
  unfold programFailed
  extract_lets flash j j1 j2 s1
  have h1 : CycleOk s1 := by
    refine ⟨h.window, fun hf => ?_, h.phase⟩
    have hnone : s.pjr.pend = none := h.fault (by simpa [s1, j2, j1, j] using hf)
    simp [s1, j2, j, hnone]
  exact journalSettle_cycleOk (cycleOk_ite (setJournalFault_cycleOk h1) h1)

theorem eraseDone_cycleOk (h : CycleOk s) (k : Nat) : CycleOk (eraseDone s k) := by
  refine journalSettle_cycleOk ⟨h.window, ?_, h.phase⟩
  simpa [FaultOk] using h.fault

theorem eraseFailed_cycleOk (h : CycleOk s) (k : Nat) : CycleOk (eraseFailed s k) := by
  unfold eraseFailed
  extract_lets s0 j full s1
  split
  · refine journalSettle_cycleOk ⟨h.window, ?_, h.phase⟩
    simpa [FaultOk, j, s0] using h.fault
  · have h1 : CycleOk s1 := ⟨h.window, by simpa [FaultOk, s1, full, j, s0] using h.fault, h.phase⟩
    exact journalSettle_cycleOk (cycleOk_ite (setJournalFault_cycleOk h1) h1)

@[simp] theorem scanned_pend (j : Journal) (m : List Host.Cell) :
    (j.scanned m).pend = j.pend ∧ (j.scanned m).fault = j.fault := by
  simp [Journal.scanned]

theorem scanComplete_cycleOk (h : CycleOk s) : CycleOk (scanComplete s) := by
  unfold scanComplete
  refine cycleOk_ite h ?_
  extract_lets j id _ _ s1 s2
  have h1 : CycleOk s1 := ⟨h.window, by simpa [FaultOk, s1, j] using h.fault, h.phase⟩
  have h2 : CycleOk s2 := cycleOk_ite h1 (raiseFault_cycleOk h1)
  exact cycleOk_ite (setJournalFault_cycleOk h2) h2

/-! ## The mains -/

theorem raiseWarning_cycleOk (h : CycleOk s) (opens : Bool) : CycleOk (raiseWarning s opens) := by
  unfold raiseWarning
  exact lossCycle_cycleOk (journalLoss_cycleOk (h.frame rfl rfl rfl))

theorem enterLossWarning_cycleOk (h : CycleOk s) (opens : Bool) : CycleOk (enterLossWarning s opens) := by
  unfold enterLossWarning
  refine cycleOk_ite ?_ (raiseWarning_cycleOk ?_ opens) <;> exact h.frame rfl rfl rfl

theorem railTripped_cycleOk (h : CycleOk s) : CycleOk (railTripped s) := by
  unfold railTripped
  refine cycleOk_ite ?_ (cycleOk_ite ?_ (enterLossWarning_cycleOk ?_ _)) <;> exact h.frame rfl rfl rfl

theorem missingCrossing_cycleOk (h : CycleOk s) : CycleOk (missingCrossing s) := by
  unfold missingCrossing
  split
  · refine enterLossWarning_cycleOk ?_ _
    exact h.frame rfl rfl rfl
  · exact h.frame rfl rfl rfl
  · exact h.frame rfl rfl rfl
  · exact h.frame rfl rfl rfl
  · exact h

theorem enterPresent_cycleOk (h : CycleOk s) (c : LineClass) : CycleOk (enterPresent s c) := by
  unfold enterPresent
  refine cycleOk_ite (mainsBackCycle_cycleOk ?_) (h.frame rfl rfl rfl)
  exact h.frame (by simp) (by simp) (by simp)

theorem judgeBlock_cycleOk (h : CycleOk s) (sum : Nat) : CycleOk (judgeBlock s sum) := by
  unfold judgeBlock
  split
  · exact enterPresent_cycleOk h _
  · exact cycleOk_ite (h.frame rfl rfl rfl) (h.frame rfl rfl rfl)

theorem settleCrossing_cycleOk (h : CycleOk s) (interval : Nat) : CycleOk (settleCrossing s interval) := by
  have hblock : CycleOk (blockCrossing s interval) := by
    unfold blockCrossing
    exact cycleOk_ite (h.frame rfl rfl rfl) (cycleOk_ite (h.frame rfl rfl rfl) (judgeBlock_cycleOk h _))
  have hreturn : CycleOk (returnCrossing s interval) := by
    unfold returnCrossing
    refine cycleOk_ite (enterPresent_cycleOk ?_ _) (cycleOk_ite ?_ ?_) <;> exact h.frame rfl rfl rfl
  unfold settleCrossing
  split
  · exact hblock
  · exact hblock
  · exact h
  · exact cycleOk_ite h (cycleOk_ite (h.frame rfl rfl rfl) (h.frame rfl rfl rfl))
  · exact hreturn

@[simp] theorem crossing_cycle (s : State) :
    (crossing s).csq.state = s.csq.state ∧ (crossing s).csq.cyc = s.csq.cyc := by
  rw [crossing_eq]
  simp [crossStages, setConduction]

theorem crossing_cycleOk (h : CycleOk s) : CycleOk (crossing s) :=
  h.congr (by simp) (by simp) (by simp) (by simp)

/-! ## Every step -/

theorem mainActs_cycleOk (h : CycleOk s) (hu : MainActs s u) : CycleOk u := by
  cases hu with
  | second => exact secondBody_cycleOk h
  | exh e => exact exhEnds_cycleOk h e
  | edge us _ => 
    refine crossing_cycleOk (settleCrossing_cycleOk ?_ _)
    exact h.frame rfl rfl rfl
  | doorOpens => exact doorCycle_cycleOk (h.frame rfl rfl rfl)
  | missing _ => exact missingCrossing_cycleOk h
  | trip => exact railTripped_cycleOk h
  | _ => exact h.frame (by simp) (by simp) (by simp)

theorem quietActs_cycleOk (h : CycleOk s) (hu : QuietActs s u) : CycleOk u := by
  cases hu with
  | programBegin => exact h.setPjr (beginProgram_faultEmpties h.fault)
  | programComplete agrees =>
    unfold programComplete
    split
    · exact cycleOk_ite (programVerified_cycleOk h _ _ _ _) (programFailed_cycleOk h _ _ _)
    · exact h
  | eraseBegin => exact h.setPjr (beginErase_faultEmpties h.fault)
  | eraseComplete blank =>
    unfold eraseComplete
    split
    · exact cycleOk_ite (eraseDone_cycleOk h _) (eraseFailed_cycleOk h _)
    · exact h
  | suspendRequest => exact h.setPjr (requestSuspend_faultEmpties h.fault)
  | suspendEffect => exact h.setPjr (suspendEffect_faultEmpties h.fault)
  | scan _ => exact scanComplete_cycleOk h
  | holdoverSecond =>
    have h1 : CycleOk (s.setHdm { s.hdm with prescaler := 0, crystalPhase := 0, crystalRuns := true, crystalQuiet := 0,
                                             clock := satInc clockLimit s.hdm.clock }) := h.frame rfl rfl rfl
    exact cycleOk_ite (cycleOk_ite (waitSecond_cycleOk h1) h1) h
  | holdoverFails => exact cycleOk_ite h (h.frame rfl rfl rfl)
  | holdoverRises => exact cycleOk_ite h (h.frame rfl rfl rfl)
  | _ => exact h.frame (by simp) (by simp) (by simp)

theorem finish_cycleOk (ev : Bool) (h : CycleOk u) : CycleOk (finish ev s u) :=
  h.frame (Safety.finish_settled _ _ _).dwn (Safety.finish_settled _ _ _).pjr (Safety.finish_settled _ _ _).csq

/-- The property of the state after a reset. -/
theorem cycleOk_of_reset (hd : s.dwn = .reset) (hj : s.pjr = .reset) (hc : s.csq = .reset) : CycleOk s := by
  refine ⟨?_, ?_, ?_⟩
  · rw [WindowOk, hd]; exact Nat.zero_le _
  · rw [FaultOk, hj]; exact fun _ => rfl
  · rw [hc]; trivial

theorem endReset_cycleOk (h : CycleOk s) (b : Bool) : CycleOk (endReset s b) := by
  have h1 : CycleOk (if s.hdm.clockLost then raiseFault s else s) := cycleOk_ite (raiseFault_cycleOk h) h
  exact cycleOk_ite (finish_cycleOk false (railTripped_cycleOk h1)) h1

theorem happens_cycleOk (h : CycleOk s) (ht : Happens s t) : CycleOk t := by
  cases ht with
  | nothing => exact h
  | answer q _ => exact h.frame rfl rfl rfl
  | taken q _ _ hu st pl =>
    have hq : CycleOk (s.setPnl q) := h.frame rfl rfl rfl
    have hu' := hostTakes_cycleOk hq hu
    exact hu'.frame (by simp [taken]) (by simp [taken]) (by simp [taken])
  | main ev hu => exact finish_cycleOk ev (mainActs_cycleOk h hu)
  | quiet hu => exact quietActs_cycleOk h hu
  | mainReset inputs => exact endReset_cycleOk (cycleOk_of_reset (by simp [holdReset]) (by simp [holdReset]) (by simp [holdReset])) _
  | hostReset inputs =>
    exact cycleOk_ite
      (endReset_cycleOk (cycleOk_of_reset (by simp [holdReset]) (by simp [holdReset]) (by simp [holdReset])) _) h
  | mainFails => exact cycleOk_ite (cycleOk_of_reset (by simp) (by simp) (by simp)) h

theorem begins_faultEmpties {j : Journal} (h : j.FaultEmpties) : j.begins.FaultEmpties :=
  requestSuspend_faultEmpties (beginErase_faultEmpties (beginProgram_faultEmpties h))

theorem tick_cycleOk (h : CycleOk s) : CycleOk (tick s) := by
  unfold tick
  exact cycleOk_ite ⟨h.window, begins_faultEmpties h.fault, h.phase⟩ (h.frame rfl rfl rfl)

theorem step_cycleOk (h : CycleOk s) (hs : step s = .next t) : CycleOk t := by
  rcases step_cases hs with ⟨-, rfl⟩ | ⟨rest, ht⟩
  · exact tick_cycleOk h
  · have hr : CycleOk { s with pending := rest } := h.frame rfl rfl rfl
    exact happens_cycleOk hr ht

end Sys2Proof.Machine

namespace Sys2Proof.Proofs

open Sys2Proof.Machine Sys2Proof.Safety

/-- Settles O56: the three properties together are kept by every event and by every microsecond. -/
theorem cycleInvariantsKept : Obligations.CycleInvariantsKept := by
  intro s t hw hf hp hstep
  have h := step_cycleOk ⟨hw, hf, (phaseOk_iff s).mp hp⟩ hstep
  exact ⟨h.window, h.fault, (phaseOk_iff t).mpr h.phase⟩

end Sys2Proof.Proofs
end

section
/-! PROOFS. The generator, the straps and the Peer Table (R43, R157, R171): what each operation keeps of them, and that every
step keeps the whole. -/

namespace Sys2Proof.Machine

open Safety (GeneratorOk StrapsOk PeersOk)

/-! ## The generator -/

/-- A step of the generator leaves 0 alone: the value 1, which loses its only bit, brings bit 15 in (R157). -/
theorem lfsrStep_ne_zero {v : BitVec 16} (hv : v ≠ 0) : lfsrStep v ≠ 0 := by
  intro h
  unfold lfsrStep at h
  obtain ⟨hshift, -⟩ := BitVec.or_eq_zero_iff.mp h
  have hnat : v.toNat / 2 = 0 := by
    have := congrArg BitVec.toNat hshift
    simpa [Nat.shiftRight_eq_div_pow] using this
  have hpos : v.toNat ≠ 0 := fun h0 => hv (BitVec.eq_of_toNat_eq h0)
  have hone : v = 1 := BitVec.eq_of_toNat_eq (show v.toNat = 1 by omega)
  rw [hone] at h
  exact absurd h (by decide)

theorem lfsrSeed_ne_zero (serial id : Nat) : lfsrSeed serial id ≠ 0 := by
  unfold lfsrSeed
  dsimp only
  split
  · decide
  · assumption

/-! ## The straps -/

/-- The measurements of the strap phase. -/
def Measurement.straps (m : Measurement) : Prop := m = .strapRef ∨ m = .strapGate

/-- The converter is in the strap phase until STRAP_DONE, with the station id 0 until then and at most 31 (R43). -/
structure Converter.StrapsFit (c : Converter) : Prop where
  phase : c.strapDone = true ↔ ¬ c.meas.straps
  small : c.stationId ≤ 31
  none : c.strapDone = false → c.stationId = 0

theorem strapsOk_iff (s : State) : StrapsOk s ↔ s.scv.StrapsFit := by
  have hm : (s.scv.meas ≠ .strapRef ∧ s.scv.meas ≠ .strapGate) ↔ ¬ s.scv.meas.straps := by
    simp [Measurement.straps]
  constructor
  · rintro ⟨h1, h2, h3⟩
    exact ⟨h1.trans hm, h2, h3⟩
  · rintro ⟨h1, h2, h3⟩
    exact ⟨h1.trans hm.symm, h2, h3⟩

/-- A measurement follows another of the same phase. -/
theorem Converter.StrapsFit.move {c d : Converter} (h : c.StrapsFit) (hm : d.meas.straps ↔ c.meas.straps)
    (hd : d.strapDone = c.strapDone := by rfl) (hid : d.stationId = c.stationId := by rfl) : d.StrapsFit :=
  ⟨by rw [hd, h.phase, hm], by rw [hid]; exact h.small, by rw [hd, hid]; exact h.none⟩

theorem abandon_strapsFit {c : Converter} (h : c.StrapsFit) : c.abandon.StrapsFit := by
  refine ⟨?_, h.small, h.none⟩
  unfold Converter.abandon
  cases c.strapDone <;> simp [Measurement.straps]

theorem stationOf_le (a b : Option Nat) : (stationOf a b).1 ≤ 31 := by
  unfold stationOf
  split
  · split
    case isTrue h => exact h
    case isFalse => exact Nat.zero_le _
  · exact Nat.zero_le _

theorem settleStraps_strapsFit (c : Converter) (levels : List (Option Nat)) : (c.settleStraps levels).StrapsFit :=
  ⟨by simp [Converter.settleStraps, Measurement.straps], stationOf_le _ _, fun h => by cases h⟩

/-! ## The Peer Table -/

/-- A Peer Table for a station of id `own`: at most 30 entries in rising order of id, none of id 0, none above 31, none of
the own id (R171). -/
structure TableFits (own : Nat) (ps : List Peer) : Prop where
  length : ps.length ≤ 30
  sorted : (ps.map Peer.id).Pairwise (· < ·)
  ids : ∀ p ∈ ps, 1 ≤ p.id ∧ p.id ≤ 31 ∧ (own ≠ 0 → p.id ≠ own)

theorem tableFits_nil (own : Nat) : TableFits own [] := ⟨Nat.zero_le _, List.Pairwise.nil, by simp⟩

theorem removePeer_fits {own : Nat} {ps : List Peer} (h : TableFits own ps) (id : Nat) : TableFits own (removePeer ps id) :=
  ⟨Nat.le_trans (List.length_filter_le _ _) h.length, h.sorted.sublist (List.filter_sublist.map _),
    fun p hp => h.ids p ((List.mem_filter.mp hp).1)⟩

theorem mem_removePeer {ps : List Peer} {id : Nat} {p : Peer} (h : p ∈ removePeer ps id) : p.id ≠ id := by
  simpa using (List.mem_filter.mp h).2

@[simp] theorem length_insertPeer (ps : List Peer) (p : Peer) : (insertPeer ps p).length = ps.length + 1 := by
  induction ps with
  | nil => rfl
  | cons q rest ih =>
    unfold insertPeer
    split <;> simp [ih]

theorem mem_insertPeer {ps : List Peer} {p q : Peer} : q ∈ insertPeer ps p ↔ q = p ∨ q ∈ ps := by
  induction ps with
  | nil => simp [insertPeer]
  | cons r rest ih =>
    unfold insertPeer
    split
    · simp
    · rw [List.mem_cons, ih, List.mem_cons]
      exact or_left_comm

theorem insertPeer_sorted {ps : List Peer} {p : Peer} (h : (ps.map Peer.id).Pairwise (· < ·))
    (hp : ∀ q ∈ ps, q.id ≠ p.id) : ((insertPeer ps p).map Peer.id).Pairwise (· < ·) := by
  induction ps with
  | nil => simp [insertPeer]
  | cons r rest ih =>
    rw [List.map_cons, List.pairwise_cons] at h
    obtain ⟨hr, hrest⟩ := h
    unfold insertPeer
    split
    case isTrue hlt =>
      simp only [List.map_cons, List.pairwise_cons]
      refine ⟨fun a ha => ?_, hr, hrest⟩
      rcases List.mem_cons.mp ha with rfl | ha
      · exact hlt
      · exact Nat.lt_trans hlt (hr a ha)
    case isFalse hge =>
      rw [List.map_cons, List.pairwise_cons]
      refine ⟨fun a ha => ?_, ih hrest fun q hq => hp q (List.mem_cons_of_mem _ hq)⟩
      obtain ⟨q, hq, rfl⟩ := List.mem_map.mp ha
      rcases mem_insertPeer.mp hq with rfl | hq
      · have := hp r List.mem_cons_self
        omega
      · exact hr _ (List.mem_map_of_mem hq)

/-- With the id's old entry gone there is room where it had one (R171). -/
theorem length_removePeer_lt {ps : List Peer} {id : Nat} (h : hasPeer ps id = true) :
    (removePeer ps id).length < ps.length := by
  obtain ⟨p, hp, hid⟩ := List.any_eq_true.mp h
  refine List.length_filter_lt_length_iff_exists.mpr ⟨p, hp, ?_⟩
  simpa using hid

theorem insertPeer_fits {own : Nat} {ps : List Peer} (h : TableFits own ps) {p : Peer}
    (hroom : hasPeer ps p.id = true ∨ ps.length < 30) (hp : 1 ≤ p.id ∧ p.id ≤ 31 ∧ (own ≠ 0 → p.id ≠ own)) :
    TableFits own (insertPeer (removePeer ps p.id) p) := by
  have hr := removePeer_fits h p.id
  refine ⟨?_, insertPeer_sorted hr.sorted fun q hq => mem_removePeer hq, fun q hq => ?_⟩
  · have hle : (removePeer ps p.id).length ≤ ps.length := List.length_filter_le _ _
    have h30 := h.length
    rw [length_insertPeer]
    rcases hroom with hroom | hroom
    · have := length_removePeer_lt hroom
      omega
    · omega
  · rcases mem_insertPeer.mp hq with rfl | hq
    · exact hp
    · exact hr.ids q hq

/-- A good frame's notice comes from a station that can stand in the table (R161). -/
theorem noticeOfBytes_id {bs : List Byte} {n : Notice} (h : noticeOfBytes bs = some n) : 1 ≤ n.id ∧ n.id ≤ 31 := by
  unfold noticeOfBytes at h
  split at h
  case h_2 => cases h
  case h_1 b0 _ _ _ _ _ _ _ =>
    dsimp only at h
    split at h
    · cases h
    · split at h
      · cases h
      · split at h
        · cases h
        · split at h
          · cases h
          · cases h
            dsimp only
            omega

theorem judgeFrame_delivered {own : Nat} {echo bs : List Byte} {n : Notice} (h : judgeFrame own echo bs = .delivered n) :
    1 ≤ n.id ∧ n.id ≤ 31 ∧ (own ≠ 0 → n.id ≠ own) := by
  unfold judgeFrame at h
  split at h
  · cases h
  case h_2 m hm =>
    obtain ⟨h1, h31⟩ := noticeOfBytes_id hm
    split at h
    · split at h <;> cases h
    case isFalse hown =>
      cases h
      refine ⟨h1, h31, fun h0 hid => hown ?_⟩
      simp [h0, hid]

/-! ## The property -/

/-- The generator, the straps and the Peer Table are as they must be. -/
structure LineOk (s : State) : Prop where
  generator : s.plp.lfsr ≠ 0
  straps : s.scv.StrapsFit
  table : TableFits s.scv.stationId s.fsu.peers
  none : s.scv.strapDone = false → s.fsu.peers = []

theorem lineOk_iff (s : State) : LineOk s ↔ GeneratorOk s ∧ StrapsOk s ∧ PeersOk s := by
  rw [strapsOk_iff]
  constructor
  · rintro ⟨h1, h2, ⟨h3, h4, h5⟩, h6⟩
    exact ⟨h1, h2, h3, h4, h5, h6⟩
  · rintro ⟨h1, h2, h3, h4, h5, h6⟩
    exact ⟨h1, h2, ⟨h3, h4, h5⟩, h6⟩

variable {s t u : State}

/-- The generator and the Peer Table stand as they did. -/
def LineKept (s t : State) : Prop := t.fsu.peers = s.fsu.peers ∧ t.plp.lfsr = s.plp.lfsr

theorem LineKept.refl (s : State) : LineKept s s := ⟨rfl, rfl⟩

theorem LineKept.trans (h1 : LineKept s t) (h2 : LineKept t u) : LineKept s u :=
  ⟨h2.1.trans h1.1, h2.2.trans h1.2⟩

theorem lineKept_ite {p : Prop} [Decidable p] (ht : LineKept s t) (hu : LineKept s u) :
    LineKept s (if p then t else u) := by
  split
  · exact ht
  · exact hu

theorem lineKept_of_eq (hp : t.plp = s.plp) (hf : t.fsu = s.fsu) : LineKept s t :=
  ⟨by rw [hf], by rw [hp]⟩

theorem LineOk.kept (h : LineOk s) (hk : LineKept s t) (hc : t.scv = s.scv) : LineOk t :=
  ⟨by rw [hk.2]; exact h.generator, by rw [hc]; exact h.straps, by rw [hk.1, hc]; exact h.table,
    by rw [hk.1, hc]; exact h.none⟩

theorem LineOk.frame (h : LineOk s) (hp : t.plp = s.plp) (hf : t.fsu = s.fsu) (hc : t.scv = s.scv) : LineOk t :=
  h.kept (lineKept_of_eq hp hf) hc

/-- The converter moves within its phase, and the rest of the line stands. -/
theorem LineOk.setScv (h : LineOk s) {c : Converter} (hc : c.StrapsFit) (hd : c.strapDone = s.scv.strapDone)
    (hid : c.stationId = s.scv.stationId) : LineOk (s.setScv c) :=
  ⟨h.generator, hc, by simpa [hid] using h.table, by simpa [hd] using h.none⟩

theorem lineOk_ite {p : Prop} [Decidable p] (ht : LineOk t) (hu : LineOk u) : LineOk (if p then t else u) := by
  split
  · exact ht
  · exact hu

theorem settled_lineKept (h : Safety.Settled s t) : LineKept s t := by
  have e : Safety.blur t = Safety.blur s := h
  exact ⟨congrArg (·.fsu.peers) e, congrArg (·.plp.lfsr) e⟩

/-! ## What keeps the generator and the table -/

theorem setStep_lineKept (s : State) (k : CoverStep) (x : StepState) : LineKept s (setStep s k x) := by
  cases k <;> exact ⟨rfl, rfl⟩

theorem unmarkStep_lineKept (s : State) (k : CoverStep) : LineKept s (unmarkStep s k) := ⟨rfl, rfl⟩

theorem handNotice_lineKept (s : State) (f : Bool) : LineKept s (handNotice s f) :=
  settled_lineKept (Safety.handNotice_settled s f)

theorem coverIf_lineKept (s : State) (b : Bool) (k : CoverStep) : LineKept s (coverIf s b k) :=
  lineKept_ite (setStep_lineKept _ _ _) (LineKept.refl _)

theorem isolate_lineKept (s : State) (c : IsoCause) : LineKept s (isolate s c) := by
  have hcover : ∀ v : State, LineKept v (coverPending v) := fun v =>
    ((coverIf_lineKept _ _ _).trans (coverIf_lineKept _ _ _)).trans (coverIf_lineKept _ _ _)
  unfold isolate
  split
  · exact LineKept.refl _
  · exact ⟨rfl, rfl⟩
  · exact (hcover (s.setFsu { s.fsu with isolated := some c })).trans ⟨rfl, rfl⟩

theorem failStep_lineKept (s : State) (b : Bool) (k : CoverStep) : LineKept s (failStep s b k) :=
  lineKept_ite ((setStep_lineKept _ _ _).trans (unmarkStep_lineKept _ _)) (LineKept.refl _)

theorem txFailed_lineKept (s : State) (n : Notice) : LineKept s (txFailed s n) := by
  have h3 : LineKept s (failStep (failStep (failStep s n.annStart .start) n.annStage1 .stage1) n.annStage2 .stage2) :=
    ((failStep_lineKept _ _ _).trans (failStep_lineKept _ _ _)).trans (failStep_lineKept _ _ _)
  exact lineKept_ite (LineKept.refl _) (lineKept_ite h3 (h3.trans (handNotice_lineKept _ _)))

theorem slotFails_lineKept (s : State) : LineKept s (slotFails s) := by
  unfold slotFails
  extract_lets isolates sent p s1 s2
  have h1 : LineKept s s1 := ⟨rfl, rfl⟩
  have h2 : LineKept s s2 := by
    simp only [s2]
    split
    · exact h1.trans (txFailed_lineKept _ _)
    · exact h1
  exact lineKept_ite (h2.trans (isolate_lineKept _ _)) h2

theorem reads_lfsr (p : Port) (high : Bool) : (p.reads high).lfsr = p.lfsr := by
  cases high <;> rfl

theorem collision_lineKept (s : State) : LineKept s (collision s) := by
  have h1 : LineKept s (s.setPlp s.plp.collide) := ⟨rfl, reads_lfsr _ _⟩
  exact lineKept_ite (lineKept_ite (h1.trans (slotFails_lineKept _)) (h1.trans ⟨rfl, rfl⟩)) (LineKept.refl _)

theorem endIsolation_lineKept (s : State) : LineKept s (endIsolation s) := by
  unfold endIsolation
  split <;> exact ⟨rfl, rfl⟩

theorem coverAnnounced_lineKept (s : State) : LineKept s (coverAnnounced s) := by
  unfold coverAnnounced
  split
  · exact ((coverIf_lineKept _ _ _).trans (coverIf_lineKept _ _ _)).trans (coverIf_lineKept _ _ _)
  · exact LineKept.refl _

theorem frameSent_lfsr (p : Port) : p.frameSent.lfsr = p.lfsr := by
  unfold Port.frameSent
  dsimp only
  split <;> rfl

theorem noticeSent_lineKept (s : State) : LineKept s (noticeSent s) := by
  have h1 : LineKept s (s.setPlp s.plp.frameSent) := ⟨rfl, frameSent_lfsr _⟩
  exact lineKept_ite ((h1.trans (coverAnnounced_lineKept _)).trans (endIsolation_lineKept _)) (LineKept.refl _)

theorem stuckLow_lineKept (s : State) : LineKept s (stuckLow s) := by
  unfold stuckLow
  refine lineKept_ite (LineKept.refl _) (LineKept.trans (LineKept.trans (t := s.setPlp _) ?_ (isolate_lineKept _ _))
    (lineKept_of_eq rfl rfl))
  exact ⟨rfl, reads_lfsr _ _⟩

theorem backoffEnds_lineKept (s : State) : LineKept s (backoffEnds s) := lineKept_ite ⟨rfl, rfl⟩ (LineKept.refl _)

theorem noticeTimerEnds_lineKept (s : State) : LineKept s (noticeTimerEnds s) := by
  have h1 : LineKept s (s.setFsu { s.fsu with notice := none }) := ⟨rfl, rfl⟩
  exact lineKept_ite (lineKept_ite h1 (h1.trans (handNotice_lineKept _ _))) (LineKept.refl _)

theorem becomeIdle_lfsr (p : Port) : p.becomeIdle.lfsr = p.lfsr := by
  unfold Port.becomeIdle
  dsimp only
  split <;> rfl

theorem lineBecomesIdle_lineKept (s : State) : LineKept s (lineBecomesIdle s) := by
  have h1 : LineKept s (s.setPlp { s.plp.becomeIdle with fault := false }) := ⟨rfl, becomeIdle_lfsr _⟩
  exact lineKept_ite (h1.trans (lineKept_ite (handNotice_lineKept _ _) (LineKept.refl _))) h1

theorem beginFrame_lfsr (p : Port) : p.beginFrame.lfsr = p.lfsr := by
  unfold Port.beginFrame
  split <;> rfl

/-! ## The sequencer and the planner -/

theorem executePlan_lineKept (s : State) (p : Plan) : LineKept s (executePlan s p) := by
  have remembered : ∀ v : State, (applyRemembered v p).fsu.peers = v.fsu.peers := by
    intro v
    unfold applyRemembered
    split <;> rfl
  refine ⟨?_, by simp⟩
  unfold executePlan
  dsimp only
  split
  · simp [setClass]
  · split
    case h_1 => simp [executeHeat, setClass]
    case h_2 => simp [executeExtend, setClass]
    case h_3 => simp [executeCool, setClass]
    case h_4 => simp [executeGuard, setClass]
    case h_5 => simp [executePaused, remembered]
    all_goals simp

theorem actOnPlan_lineKept (s : State) : LineKept s (actOnPlan s) := by
  unfold actOnPlan
  split
  case h_1 | h_2 | h_3 | h_4 => exact lineKept_of_eq (by simp) (by simp)
  all_goals
    exact lineKept_ite (lineKept_of_eq (by simp) (by simp)) (lineKept_ite (lineKept_of_eq (by simp) (by simp))
      ((executePlan_lineKept s s.rpl.plan).trans ⟨rfl, rfl⟩))

theorem makePlan_lineKept (s : State) (valid : Bool) : LineKept s (makePlan s valid) := by
  unfold makePlan deliverPlan
  dsimp only
  split
  · split
    · exact ⟨rfl, rfl⟩
    · exact LineKept.trans (t := loadSource _ _) (lineKept_of_eq (by simp) (by simp)) (actOnPlan_lineKept _)
  · exact LineKept.refl _

@[simp] theorem feederBack_peers (s : State) : (feederBack s).fsu.peers = s.fsu.peers := by
  unfold feederBack
  split <;> rfl

theorem enterPresent_lineKept (s : State) (c : LineClass) : LineKept s (enterPresent s c) := by
  unfold enterPresent
  dsimp only
  split
  · constructor <;> simp
  · exact ⟨rfl, rfl⟩

theorem settleCrossing_lineKept (s : State) (interval : Nat) : LineKept s (settleCrossing s interval) := by
  have hjudge : ∀ sum, LineKept s (judgeBlock s sum) := by
    intro sum
    unfold judgeBlock
    split
    · exact enterPresent_lineKept _ _
    · exact lineKept_ite ⟨rfl, rfl⟩ ⟨rfl, rfl⟩
  have hblock : LineKept s (blockCrossing s interval) :=
    lineKept_ite ⟨rfl, rfl⟩ (lineKept_ite ⟨rfl, rfl⟩ (hjudge _))
  unfold settleCrossing
  split
  · exact hblock
  · exact hblock
  · exact LineKept.refl _
  · exact lineKept_ite (LineKept.refl _) (lineKept_ite ⟨rfl, rfl⟩ ⟨rfl, rfl⟩)
  · unfold returnCrossing
    exact lineKept_ite (LineKept.trans (t := s.setMwt _) ⟨rfl, rfl⟩ (enterPresent_lineKept _ _))
      (lineKept_ite ⟨rfl, rfl⟩ ⟨rfl, rfl⟩)

theorem crossing_lineKept (s : State) : LineKept s (crossing s) := by
  have hstop : ∀ v : State, LineKept v (crossMotorStop v) := by
    intro v
    unfold crossMotorStop releaseStart
    exact lineKept_ite ((lineKept_ite (setStep_lineKept _ _ _) (LineKept.refl _)).trans ⟨rfl, rfl⟩) (LineKept.refl _)
  rw [crossing_eq]
  have hbefore : LineKept s (advancePosition (railDropEnd s)) := lineKept_of_eq (by simp) (by simp)
  exact (hbefore.trans (hstop _)).trans (lineKept_of_eq (by simp) (by simp))

theorem hostTakes_lineOk (h : LineOk s) (ht : HostTakes s t) : LineOk t := by
  cases ht with
  | setup x _ =>
    have hk : LineKept s (applySettings s x) := by
      unfold applySettings
      exact lineKept_ite (LineKept.trans (t := State.setFsu _ _) ⟨rfl, rfl⟩ (isolate_lineKept _ _)) ⟨rfl, rfl⟩
    exact h.kept (hk.trans (lineKept_of_eq (by simp) (by simp))) (by simp)
  | start d _ => exact h.kept ⟨by simp [takeStart, setClass], by simp⟩ (by simp)
  | confirm _ => exact h.kept ((executePlan_lineKept s s.rpl.plan).trans ⟨rfl, rfl⟩) (by simp [takeConfirm])
  | force r _ _ =>
    unfold takeForce
    refine h.kept (LineKept.trans (lineKept_of_eq ?_ ?_) (executePlan_lineKept _ _)) ?_ <;> simp
  | _ => exact h.frame (by simp) (by simp) (by simp)

end Sys2Proof.Machine
end

section
/-! PROOFS. Every step keeps the generator, the straps and the Peer Table (R43, R157, R171): the characters received, the
measurements, the loss warning and the microsecond. -/

namespace Sys2Proof.Machine

variable {s t u : State}

/-! ## Receiving -/

/-- The table changes as a good notice of another station says, and stays one that fits (R171). -/
theorem deliverNotice_lineOk (h : LineOk s) {n : Notice} (hd : s.scv.strapDone = true)
    (hn : 1 ≤ n.id ∧ n.id ≤ 31 ∧ (s.scv.stationId ≠ 0 → n.id ≠ s.scv.stationId)) : LineOk (deliverNotice s n) := by
  have table : ∀ {ps : List Peer}, TableFits s.scv.stationId ps → LineOk (s.setFsu { s.fsu with peers := ps }) := fun hps =>
    ⟨h.generator, h.straps, hps, fun hf => absurd (hd.symm.trans hf) (by decide)⟩
  unfold deliverNotice
  split
  · exact h
  · split
    · exact table (removePeer_fits h.table _)
    · split
      case isTrue hroom =>
        refine table (insertPeer_fits (p := peerOfNotice n) h.table ?_ hn)
        exact (Bool.or_eq_true_iff.mp hroom).imp_right of_decide_eq_true
      case isFalse => exact h.kept ⟨rfl, rfl⟩ rfl

theorem afterFrame_lfsr (p : Port) (v : Judged) : (p.afterFrame v).lfsr = p.lfsr := by
  cases v <;> rfl

theorem frameJudged_lineOk (h : LineOk s) (hd : s.scv.strapDone = true) (bs : List Byte) : LineOk (frameJudged s bs) := by
  have h1 : LineOk (s.setPlp (s.plp.afterFrame (judgeFrame s.scv.stationId s.plp.echo bs))) :=
    h.kept ⟨rfl, afterFrame_lfsr _ _⟩ rfl
  unfold frameJudged
  dsimp only
  split
  case h_1 n hj => exact deliverNotice_lineOk h1 hd (judgeFrame_delivered hj)
  case h_2 => exact lineOk_ite (h1.frame rfl rfl rfl) h1
  case h_3 => exact h1

theorem goodCharacter_lineOk (h : LineOk s) (hd : s.scv.strapDone = true) (b : Byte) (flag : Bool) :
    LineOk (goodCharacter s b flag) := by
  unfold goodCharacter
  dsimp only
  split
  · exact lineOk_ite (h.kept ⟨rfl, rfl⟩ rfl) (h.kept ⟨rfl, rfl⟩ rfl)
  · exact lineOk_ite (h.kept ⟨rfl, rfl⟩ rfl) (lineOk_ite (h.kept ⟨rfl, rfl⟩ rfl) (frameJudged_lineOk h hd _))
  · exact lineOk_ite (h.kept ⟨rfl, rfl⟩ rfl) h

theorem badCharacter_lineOk (h : LineOk s) : LineOk (badCharacter s) := by
  unfold badCharacter
  split
  · exact h.kept ⟨rfl, rfl⟩ rfl
  · exact h.kept ⟨rfl, rfl⟩ rfl
  · exact h

/-- No notice is received before STRAP_DONE (R160). -/
theorem character_lineOk (h : LineOk s) (d : Option Byte) (flag ok : Bool) : LineOk (character s d flag ok) := by
  unfold character
  split
  case h_1 b =>
    have h1 : LineOk (s.setPlp (s.plp.hear s.mwt.warning b flag ok)) := h.kept ⟨rfl, rfl⟩ rfl
    unfold takeCharacter
    dsimp only
    split
    · exact h1
    case isFalse hd =>
      have hdone : s.scv.strapDone = true := by simpa using hd
      exact lineOk_ite (goodCharacter_lineOk h1 hdone b flag) (badCharacter_lineOk h1)
  case h_2 => exact h.kept ⟨rfl, rfl⟩ rfl

/-! ## Measurements -/

@[simp] theorem straps_strapRef : Measurement.strapRef.straps := .inl rfl

@[simp] theorem straps_strapGate : Measurement.strapGate.straps := .inr rfl

@[simp] theorem not_straps :
    ¬ Measurement.ref.straps ∧ ¬ Measurement.gate.straps ∧ ¬ Measurement.period.straps := by
  simp [Measurement.straps]

/-- A measurement of the normal scan begins after one of it. -/
theorem LineOk.scan (h : LineOk s) (hm : ¬ s.scv.meas.straps) {c : Converter} (hc : ¬ c.meas.straps)
    (hd : c.strapDone = s.scv.strapDone := by rfl) (hid : c.stationId = s.scv.stationId := by rfl) :
    LineOk (s.setScv c) :=
  h.setScv (h.straps.move (iff_of_false hc hm) hd hid) hd hid

theorem completePair_lineOk (h : LineOk s) (hm : ¬ s.scv.meas.straps) (ch : Channel) (valid : Bool) :
    LineOk (completePair s ch valid) := by
  have h1 : LineOk (s.setScv s.scv.nextPair) := h.scan hm (by simp [Converter.nextPair])
  exact lineOk_ite (h1.kept (makePlan_lineKept _ _) (by simp)) h1

@[simp] theorem setFault_straps (c : Converter) (ch : Channel) (f : ThermFault) :
    (c.setFault ch f).meas = c.meas ∧ (c.setFault ch f).strapDone = c.strapDone ∧
    (c.setFault ch f).stationId = c.stationId := by
  cases ch <;> exact ⟨rfl, rfl, rfl⟩

@[simp] theorem setRecord_straps (c : Converter) (ch : Channel) (r : ChannelRecord) :
    (c.setRecord ch r).meas = c.meas ∧ (c.setRecord ch r).strapDone = c.strapDone ∧
    (c.setRecord ch r).stationId = c.stationId := by
  cases ch <;> exact ⟨rfl, rfl, rfl⟩

theorem settleFault_lineOk (h : LineOk s) (hm : ¬ s.scv.meas.straps) (ch : Channel) (f : ThermFault) :
    LineOk (settleFault s ch f) := by
  have h1 : LineOk (s.setScv (s.scv.setFault ch f)) := h.scan hm (by simpa using hm) (by simp) (by simp)
  exact lineOk_ite (h1.frame rfl rfl rfl) h1

@[simp] theorem settleFault_meas (s : State) (ch : Channel) (f : ThermFault) :
    (settleFault s ch f).scv.meas = s.scv.meas := by
  unfold settleFault
  dsimp only
  split <;> simp

theorem endMeasurement_lineOk (h : LineOk s) (hm : ¬ s.scv.meas.straps) (m : Bool) (count period : Nat) (w : Option Nat) :
    LineOk (endMeasurement s m count period w) := by
  unfold endMeasurement
  extract_lets ch old r
  have h1 : LineOk (s.setScv (s.scv.setRecord ch r)) := h.scan hm (by simpa using hm) (by simp) (by simp)
  have h2 : LineOk (settleFault (s.setScv (s.scv.setRecord ch r)) ch (faultOf w)) :=
    settleFault_lineOk h1 (by simpa using hm) _ _
  exact completePair_lineOk (h2.frame (by simp) (by simp) (by simp)) (by simpa using hm) _ _

theorem exhEnds_lineOk (h : LineOk s) (e : ExhEnd) : LineOk (exhEnds s e) := by
  have hnot : ∀ m : Measurement, s.scv.meas = m → ¬ m.straps → ¬ s.scv.meas.straps := fun m he hm => he ▸ hm
  cases e with
  | gate n =>
    show LineOk (gateEnd s n)
    unfold gateEnd
    dsimp only
    split
    case isTrue he =>
      have hm := hnot _ he (by simp)
      exact lineOk_ite (completePair_lineOk h hm _ _)
        (lineOk_ite (endMeasurement_lineOk h hm _ _ _ _) (h.scan hm (by simp)))
    case isFalse => exact h
  | period us =>
    show LineOk (periodEnds s us)
    unfold periodEnds
    split
    case isTrue he => exact endMeasurement_lineOk h (hnot _ he (by simp)) _ _ _ _
    case isFalse => exact h
  | timeout =>
    show LineOk (periodExpires s)
    unfold periodExpires
    split
    case isTrue he => exact endMeasurement_lineOk h (hnot _ he (by simp)) _ _ _ _
    case isFalse => exact h

theorem refEnd_lineOk (h : LineOk s) (n : Nat) : LineOk (refEnd s n) := by
  unfold refEnd
  dsimp only
  split
  case isTrue he =>
    have h1 := h.scan (he ▸ not_straps.1)
      (c := { s.scv with meas := .gate, refValid := refOk (gateCount n), nRef := gateCount n,
                         refFault := !refOk (gateCount n), gateTimer := 0 }) (by simp)
    exact lineOk_ite (h1.frame rfl rfl rfl) h1
  case isFalse => exact h

/-! ## The strap phase -/

theorem strapRefEnd_lineOk (h : LineOk s) (n : Nat) : LineOk (strapRefEnd s n) := by
  unfold strapRefEnd
  dsimp only
  split
  case isTrue he => exact h.setScv (h.straps.move (by simp [he])) rfl rfl
  case isFalse => exact h

/-- STRAP_DONE finds an empty Peer Table, so that the station id it gives stands in no entry (R43, R171). -/
theorem strapDone_lineOk (hp : s.fsu.peers = []) (levels : List (Option Nat)) :
    LineOk (strapDone s levels) := by
  unfold strapDone
  extract_lets s1 seeded s2 s3
  have h2 : LineOk s2 := by
    refine ⟨lfsrSeed_ne_zero _ _, settleStraps_strapsFit _ _, ?_, fun _ => hp⟩
    have : s2.fsu.peers = [] := hp
    rw [this]
    exact tableFits_nil _
  have h3 : LineOk s3 := lineOk_ite (h2.frame rfl rfl rfl) h2
  exact lineOk_ite (h3.kept (isolate_lineKept _ _) (by simp)) h3

theorem strapEnd_lineOk (h : LineOk s) (he : s.scv.meas = .strapGate) (n : Nat) : LineOk (strapEnd s n) := by
  have hdone : s.scv.strapDone = false := by
    have := h.straps.phase
    simpa [he] using this
  have hp := h.none hdone
  have next : ∀ pair attempt levels, LineOk (s.setScv (s.scv.strapNext pair attempt levels)) := fun pair attempt levels =>
    h.setScv (h.straps.move (by simp [Converter.strapNext, he])) rfl rfl
  have pairEnd : ∀ level, LineOk (strapPairEnd s level) := fun level =>
    lineOk_ite (next _ _ _) (strapDone_lineOk hp _)
  unfold strapEnd
  exact lineOk_ite (lineOk_ite (pairEnd _) (lineOk_ite (next _ _ _) (pairEnd _))) h

/-! ## The loss warning -/

theorem raiseWarning_lineOk (h : LineOk s) (opens : Bool) : LineOk (raiseWarning s opens) := by
  unfold raiseWarning
  extract_lets watch s1 s2 s3 s4 s5
  have h2 : LineOk s2 := h.frame rfl rfl rfl
  have h3 : LineOk s3 := h2.setScv (abandon_strapsFit h2.straps) rfl rfl
  exact LineOk.frame (s := s5) (h3.kept ⟨rfl, rfl⟩ rfl) (by simp) (by simp) (by simp)

theorem enterLossWarning_lineOk (h : LineOk s) (opens : Bool) : LineOk (enterLossWarning s opens) := by
  unfold enterLossWarning
  refine lineOk_ite ?_ (raiseWarning_lineOk ?_ opens) <;> exact h.frame rfl rfl rfl

theorem railTripped_lineOk (h : LineOk s) : LineOk (railTripped s) := by
  unfold railTripped
  refine lineOk_ite ?_ (lineOk_ite ?_ (enterLossWarning_lineOk ?_ _)) <;> exact h.frame rfl rfl rfl

theorem missingCrossing_lineOk (h : LineOk s) : LineOk (missingCrossing s) := by
  unfold missingCrossing
  split
  · refine enterLossWarning_lineOk ?_ _
    exact h.frame rfl rfl rfl
  · exact h.frame rfl rfl rfl
  · exact h.frame rfl rfl rfl
  · exact h.frame rfl rfl rfl
  · exact h

/-! ## Every step -/

theorem mainActs_lineOk (h : LineOk s) (hu : MainActs s u) : LineOk u := by
  cases hu with
  | exh e => exact exhEnds_lineOk h e
  | ref n => exact refEnd_lineOk h n
  | strap n hm => exact strapEnd_lineOk h hm n
  | edge us _ =>
    have hacc : LineOk (acceptEdge s us) := h.frame rfl rfl rfl
    exact hacc.kept ((settleCrossing_lineKept _ _).trans (crossing_lineKept _)) (by simp [mainsEdge])
  | missing _ => exact missingCrossing_lineOk h
  | trip => exact railTripped_lineOk h
  | character d flag ok => exact character_lineOk h d flag ok
  | collision _ => exact h.kept (collision_lineKept s) (by simp)
  | sent _ => exact h.kept (noticeSent_lineKept s) (by simp)
  | stuck => exact h.kept (stuckLow_lineKept s) (by simp)
  | settle => exact h.kept ⟨rfl, rfl⟩ rfl
  | listenIn => exact h.kept ⟨rfl, rfl⟩ rfl
  | age id =>
    exact ⟨h.generator, h.straps, removePeer_fits h.table id, fun hd => by simp [agePeerOut, h.none hd, removePeer]⟩
  | _ => exact h.frame (by simp) (by simp) (by simp)

theorem quietActs_lineOk (h : LineOk s) (hu : QuietActs s u) : LineOk u := by
  cases hu with
  | strapRef n => exact strapRefEnd_lineOk h n
  | character d flag ok => exact character_lineOk h d flag ok
  | lineIdle => exact h.kept (lineBecomesIdle_lineKept s) (by simp)
  | frame => exact h.kept ⟨rfl, beginFrame_lfsr _⟩ rfl
  | programBegin | eraseBegin | suspendRequest | suspendEffect => exact h.frame rfl rfl rfl
  | backoff => exact h.kept (backoffEnds_lineKept s) (by simp)
  | notice => exact h.kept (noticeTimerEnds_lineKept s) (by simp)
  | holdoverFails => exact lineOk_ite h (h.frame rfl rfl rfl)
  | holdoverRises => exact lineOk_ite h (h.frame rfl rfl rfl)
  | _ => exact h.frame (by simp) (by simp) (by simp)

theorem finish_lineOk (ev : Bool) (h : LineOk u) : LineOk (finish ev s u) :=
  h.kept (settled_lineKept (Safety.finish_settled _ _ _)) (Safety.finish_settled _ _ _).scv

theorem lineOk_of_reset (hp : s.plp = .reset) (hf : s.fsu = .reset) (hc : s.scv = .reset) : LineOk s := by
  refine ⟨?_, ?_, ?_, ?_⟩
  · rw [hp]; decide
  · rw [hc]; exact ⟨by simp [Converter.reset], Nat.zero_le _, fun _ => rfl⟩
  · rw [hf]; exact tableFits_nil _
  · rw [hf]; exact fun _ => rfl

theorem endReset_lineOk (h : LineOk s) (b : Bool) : LineOk (endReset s b) := by
  have h1 : LineOk (if s.hdm.clockLost then raiseFault s else s) := lineOk_ite (h.frame rfl rfl rfl) h
  exact lineOk_ite (finish_lineOk false (railTripped_lineOk h1)) h1

theorem happens_lineOk (h : LineOk s) (ht : Happens s t) : LineOk t := by
  cases ht with
  | nothing => exact h
  | answer q _ => exact h.frame rfl rfl rfl
  | taken q _ _ hu st pl =>
    have hq : LineOk (s.setPnl q) := h.frame rfl rfl rfl
    have hf : LineOk (finish false (s.setPnl q) _) := finish_lineOk false (hostTakes_lineOk hq hu)
    exact hf.frame rfl rfl rfl
  | main ev hu => exact finish_lineOk ev (mainActs_lineOk h hu)
  | quiet hu => exact quietActs_lineOk h hu
  | mainReset inputs => exact endReset_lineOk (lineOk_of_reset (by simp [holdReset]) (by simp [holdReset]) (by simp [holdReset])) _
  | hostReset inputs =>
    exact lineOk_ite
      (endReset_lineOk (lineOk_of_reset (by simp [holdReset]) (by simp [holdReset]) (by simp [holdReset])) _) h
  | mainFails => exact lineOk_ite (lineOk_of_reset (by simp) (by simp) (by simp)) h

/-! ## One microsecond -/

theorem tick_peers_fit {own : Nat} {ps : List Peer} (h : TableFits own ps) : TableFits own (ps.map Peer.tick) := by
  have hid : (ps.map Peer.tick).map Peer.id = ps.map Peer.id := by
    rw [List.map_map]
    rfl
  refine ⟨by simpa using h.length, by rw [hid]; exact h.sorted, fun p hp => ?_⟩
  obtain ⟨q, hq, rfl⟩ := List.mem_map.mp hp
  exact h.ids q hq

theorem portTick_lfsr (p : Port) (warning low : Bool) : (p.tick warning low).lfsr = lfsrStep p.lfsr := by
  have hadv : ∀ q : Port, q.advance.lfsr = q.lfsr := by
    intro q
    unfold Port.advance
    split <;> rfl
  exact congrArg lfsrStep ((hadv _).trans (beginFrame_lfsr p))

theorem converterTick_strapsFit {c : Converter} (h : c.StrapsFit) :
    c.tick.StrapsFit ∧ c.tick.strapDone = c.strapDone ∧ c.tick.stationId = c.stationId := by
  unfold Converter.tick
  split <;> exact ⟨h.move Iff.rfl, rfl, rfl⟩

theorem tick_lineOk (h : LineOk s) : LineOk (tick s) := by
  obtain ⟨hfit, hdone, hid⟩ := converterTick_strapsFit h.straps
  unfold tick
  dsimp only
  split
  · refine ⟨?_, hfit, ?_, ?_⟩
    · show (s.plp.tick _ _).lfsr ≠ 0
      rw [portTick_lfsr]
      exact lfsrStep_ne_zero h.generator
    · show TableFits s.scv.tick.stationId (s.fsu.peers.map Peer.tick)
      rw [hid]
      exact tick_peers_fit h.table
    · intro hd
      have hnil := h.none (hdone.symm.trans hd)
      show s.fsu.peers.map Peer.tick = []
      rw [hnil]
      rfl
  · exact h.frame rfl rfl rfl

theorem step_lineOk (h : LineOk s) (hs : step s = .next t) : LineOk t := by
  rcases step_cases hs with ⟨-, rfl⟩ | ⟨rest, ht⟩
  · exact tick_lineOk h
  · have hr : LineOk { s with pending := rest } := h.frame rfl rfl rfl
    exact happens_lineOk hr ht

end Sys2Proof.Machine

namespace Sys2Proof.Proofs

open Sys2Proof.Machine Sys2Proof.Safety

/-- Settles O55: the three properties together are kept by every event and by every microsecond. -/
theorem lineInvariantsKept : Obligations.LineInvariantsKept := by
  intro s t hg hc hp hstep
  exact (lineOk_iff t).mp (step_lineOk ((lineOk_iff s).mpr ⟨hg, hc, hp⟩) hstep)

end Sys2Proof.Proofs
end

section
/-! PROOFS. The panel link but for its event flags: no event of the part touches it, only the host's frames do. One lemma per
shared operation that raises an event flag; the operations that raise none leave the whole link (Laws/Frames). -/

namespace Sys2Proof.Machine

/-- A panel link but for its four event flags. -/
def Panel.link (p : Panel) : Panel := { p with evPhase := false, evPlan := false, evFault := false, evLine := false }

variable (s : State)

@[simp] theorem raisePhase_link : (raisePhase s).pnl.link = s.pnl.link := rfl

@[simp] theorem raisePlan_link : (raisePlan s).pnl.link = s.pnl.link := rfl

@[simp] theorem raiseFault_link : (raiseFault s).pnl.link = s.pnl.link := rfl

@[simp] theorem raiseLine_link : (raiseLine s).pnl.link = s.pnl.link := rfl

@[simp] theorem setCycle_link (st : CycleState) : (setCycle s st).pnl.link = s.pnl.link := by
  unfold setCycle
  split <;> simp

@[simp] theorem enterPlanning_link (blink : Bool) : (enterPlanning s blink).pnl.link = s.pnl.link := by simp [enterPlanning]

@[simp] theorem leaveLoss_link : (leaveLoss s).pnl.link = s.pnl.link := by
  unfold leaveLoss
  split <;> simp

@[simp] theorem recordDone_link : (recordDone s).pnl.link = s.pnl.link := by
  unfold recordDone
  repeat' split
  all_goals simp

@[simp] theorem mainsBackCycle_link : (mainsBackCycle s).pnl.link = s.pnl.link := by
  unfold mainsBackCycle
  repeat' split
  all_goals simp

@[simp] theorem journalFaultReport_link : (journalFaultReport s).pnl.link = s.pnl.link := by
  unfold journalFaultReport
  split <;> simp

@[simp] theorem setJournalFault_link : (setJournalFault s).pnl.link = s.pnl.link := by
  unfold setJournalFault
  dsimp only
  split <;> simp

@[simp] theorem abandonPending_link : (abandonPending s).pnl.link = s.pnl.link := by
  unfold abandonPending
  split <;> simp

@[simp] theorem journalSettle_link : (journalSettle s).pnl.link = s.pnl.link := by
  unfold journalSettle
  split <;> simp

@[simp] theorem requestRecord_link (kind : RecordKind) (reason : EndReason) : (requestRecord s kind reason).pnl.link = s.pnl.link := by
  unfold requestRecord
  dsimp only
  split <;> simp

@[simp] theorem journalLoss_link : (journalLoss s).pnl.link = s.pnl.link := by
  unfold journalLoss
  split <;> simp

@[simp] theorem programVerified_link (sector slot : Nat) (halted : Option Nat) (r : Record) : (programVerified s sector slot halted r).pnl.link = s.pnl.link := by
  unfold programVerified
  dsimp only
  repeat' split
  all_goals simp

@[simp] theorem programFailed_link (sector slot : Nat) (halted : Option Nat) : (programFailed s sector slot halted).pnl.link = s.pnl.link := by
  unfold programFailed
  dsimp only
  split <;> simp

@[simp] theorem programComplete_link (agrees : Bool) : (programComplete s agrees).pnl.link = s.pnl.link := by
  unfold programComplete
  repeat' split
  all_goals simp

@[simp] theorem eraseDone_link (k : Nat) : (eraseDone s k).pnl.link = s.pnl.link := by simp [eraseDone]

@[simp] theorem eraseFailed_link (k : Nat) : (eraseFailed s k).pnl.link = s.pnl.link := by
  unfold eraseFailed
  dsimp only
  repeat' split
  all_goals simp

@[simp] theorem eraseComplete_link (blank : Bool) : (eraseComplete s blank).pnl.link = s.pnl.link := by
  unfold eraseComplete
  repeat' split
  all_goals simp

@[simp] theorem scanComplete_link : (scanComplete s).pnl.link = s.pnl.link := by
  unfold scanComplete
  dsimp only
  repeat' split
  all_goals simp

@[simp] theorem enterCool_link : (enterCool s).pnl.link = s.pnl.link := by simp [enterCool]

@[simp] theorem enterExtend_link : (enterExtend s).pnl.link = s.pnl.link := by simp [enterExtend]

@[simp] theorem enterDone_link (reason : EndReason) : (enterDone s reason).pnl.link = s.pnl.link := by simp [enterDone]

@[simp] theorem enterAbandoned_link : (enterAbandoned s).pnl.link = s.pnl.link := by simp [enterAbandoned]

@[simp] theorem enterGuard_link : (enterGuard s).pnl.link = s.pnl.link := by simp [enterGuard]

@[simp] theorem enterPaused_link : (enterPaused s).pnl.link = s.pnl.link := by simp [enterPaused]

@[simp] theorem takeStart_link (d : Descriptor) : (takeStart s d).pnl.link = s.pnl.link := by simp [takeStart]

@[simp] theorem takeContinue_link (st : CycleState) : (takeContinue s st).pnl.link = s.pnl.link := by simp [takeContinue]

@[simp] theorem takeCancel_link : (takeCancel s).pnl.link = s.pnl.link := by simp [takeCancel]

@[simp] theorem dryReport_link (tDry ext : Nat) : (dryReport s tDry ext).pnl.link = s.pnl.link := by
  unfold dryReport
  repeat' split
  all_goals simp

@[simp] theorem airflowFaultReport_link : (airflowFaultReport s).pnl.link = s.pnl.link := by
  unfold airflowFaultReport
  dsimp only
  repeat' split
  all_goals simp

@[simp] theorem doorCycle_link : (doorCycle s).pnl.link = s.pnl.link := by
  unfold doorCycle
  repeat' split
  all_goals simp

@[simp] theorem lossMove_link : (lossMove s).pnl.link = s.pnl.link := by
  unfold lossMove
  split <;> simp

@[simp] theorem lossCycle_link : (lossCycle s).pnl.link = s.pnl.link := by
  unfold lossCycle
  split <;> simp

@[simp] theorem executeHeat_link : (executeHeat s).pnl.link = s.pnl.link := by simp [executeHeat]

@[simp] theorem executeExtend_link (n : Nat) : (executeExtend s n).pnl.link = s.pnl.link := by simp [executeExtend]

@[simp] theorem executeCool_link : (executeCool s).pnl.link = s.pnl.link := by simp [executeCool]

@[simp] theorem executeGuard_link (n : Nat) : (executeGuard s n).pnl.link = s.pnl.link := by simp [executeGuard]

@[simp] theorem executePaused_link (p : Plan) : (executePaused s p).pnl.link = s.pnl.link := by simp [executePaused]

@[simp] theorem executePlan_link (p : Plan) : (executePlan s p).pnl.link = s.pnl.link := by
  unfold executePlan
  dsimp only
  repeat' split
  all_goals simp

@[simp] theorem isolate_link (c : IsoCause) : (isolate s c).pnl.link = s.pnl.link := by
  unfold isolate
  split <;> simp

@[simp] theorem doorOpens_link : (doorOpens s).pnl.link = s.pnl.link := by simp [doorOpens]

@[simp] theorem holdReport_link (due : Bool) : (holdReport due s).pnl.link = s.pnl.link := by
  unfold holdReport
  split <;> simp

@[simp] theorem holdSecond_link : (holdSecond s).pnl.link = s.pnl.link := by simp [holdSecond]

@[simp] theorem raiseWarning_link (opens : Bool) : (raiseWarning s opens).pnl.link = s.pnl.link := by simp [raiseWarning]

@[simp] theorem enterLossWarning_link (opens : Bool) : (enterLossWarning s opens).pnl.link = s.pnl.link := by
  unfold enterLossWarning
  dsimp only
  split <;> simp

@[simp] theorem railTripped_link : (railTripped s).pnl.link = s.pnl.link := by
  unfold railTripped
  dsimp only
  repeat' split
  all_goals simp

@[simp] theorem missingCrossing_link : (missingCrossing s).pnl.link = s.pnl.link := by
  unfold missingCrossing
  split <;> simp

@[simp] theorem enterPresent_link (c : LineClass) : (enterPresent s c).pnl.link = s.pnl.link := by
  unfold enterPresent
  dsimp only
  split <;> simp

@[simp] theorem enterLineFault_link : (enterLineFault s).pnl.link = s.pnl.link := by simp [enterLineFault]

@[simp] theorem judgeBlock_link (n : Nat) : (judgeBlock s n).pnl.link = s.pnl.link := by
  unfold judgeBlock
  repeat' split
  all_goals simp

@[simp] theorem blockCrossing_link (n : Nat) : (blockCrossing s n).pnl.link = s.pnl.link := by
  unfold blockCrossing
  repeat' split
  all_goals simp

@[simp] theorem returnCrossing_link (n : Nat) : (returnCrossing s n).pnl.link = s.pnl.link := by
  unfold returnCrossing
  dsimp only
  repeat' split
  all_goals simp

@[simp] theorem settleCrossing_link (n : Nat) : (settleCrossing s n).pnl.link = s.pnl.link := by
  unfold settleCrossing
  split <;> simp

@[simp] theorem mainsEdge_link (us : Nat) : (mainsEdge s us).pnl.link = s.pnl.link := by simp [mainsEdge]

@[simp] theorem edge_link (us : Nat) : (edge s us).pnl.link = s.pnl.link := by
  unfold edge
  split <;> simp

@[simp] theorem enterPlanReady_link (r : ReadyReason) : (enterPlanReady s r).pnl.link = s.pnl.link := by simp [enterPlanReady]

@[simp] theorem actOnPlan_link : (actOnPlan s).pnl.link = s.pnl.link := by
  unfold actOnPlan
  repeat' split
  all_goals simp

@[simp] theorem deliverPlan_link (src : Option Record) : (deliverPlan s src).pnl.link = s.pnl.link := by
  unfold deliverPlan
  split <;> simp

@[simp] theorem makePlan_link (v : Bool) : (makePlan s v).pnl.link = s.pnl.link := by
  unfold makePlan
  split <;> simp

@[simp] theorem windowExpires_link : (windowExpires s).pnl.link = s.pnl.link := by
  unfold windowExpires
  split <;> simp

@[simp] theorem waitSecond_link : (waitSecond s).pnl.link = s.pnl.link := by
  unfold waitSecond
  dsimp only
  repeat' split
  all_goals simp

@[simp] theorem takeConfirm_link : (takeConfirm s).pnl.link = s.pnl.link := by simp [takeConfirm]

@[simp] theorem takeDecline_link : (takeDecline s).pnl.link = s.pnl.link := by simp [takeDecline]

@[simp] theorem takeForce_link (r : Record) : (takeForce s r).pnl.link = s.pnl.link := by simp [takeForce]

@[simp] theorem judgeHighLimit_link (c : Nat) : (judgeHighLimit s c).pnl.link = s.pnl.link := by
  unfold judgeHighLimit
  split <;> simp

@[simp] theorem deliverTherm_link (ch : Channel) (w : Nat) : (deliverTherm s ch w).pnl.link = s.pnl.link := by
  unfold deliverTherm
  repeat' split
  all_goals simp

@[simp] theorem deliver_link (ch : Channel) (w : Option Nat) : (deliver s ch w).pnl.link = s.pnl.link := by
  unfold deliver
  split <;> simp

@[simp] theorem settleFault_link (ch : Channel) (f : ThermFault) : (settleFault s ch f).pnl.link = s.pnl.link := by
  unfold settleFault
  split <;> simp

@[simp] theorem completePair_link (ch : Channel) (v : Bool) : (completePair s ch v).pnl.link = s.pnl.link := by
  unfold completePair
  split <;> simp

@[simp] theorem endMeasurement_link (m : Bool) (c p : Nat) (w : Option Nat) : (endMeasurement s m c p w).pnl.link = s.pnl.link := by simp [endMeasurement]

@[simp] theorem refEnd_link (n : Nat) : (refEnd s n).pnl.link = s.pnl.link := by
  unfold refEnd
  dsimp only
  repeat' split
  all_goals simp

@[simp] theorem gateEnd_link (n : Nat) : (gateEnd s n).pnl.link = s.pnl.link := by
  unfold gateEnd
  dsimp only
  repeat' split
  all_goals simp

@[simp] theorem periodEnds_link (n : Nat) : (periodEnds s n).pnl.link = s.pnl.link := by
  unfold periodEnds
  split <;> simp

@[simp] theorem periodExpires_link : (periodExpires s).pnl.link = s.pnl.link := by
  unfold periodExpires
  split <;> simp

@[simp] theorem exhEnds_link (e : ExhEnd) : (exhEnds s e).pnl.link = s.pnl.link := by
  unfold exhEnds
  split <;> simp

@[simp] theorem strapDone_link (l : List (Option Nat)) : (strapDone s l).pnl.link = s.pnl.link := by
  unfold strapDone
  dsimp only
  repeat' split
  all_goals simp

@[simp] theorem strapPairEnd_link (l : Option Nat) : (strapPairEnd s l).pnl.link = s.pnl.link := by
  unfold strapPairEnd
  split <;> simp

@[simp] theorem strapEnd_link (n : Nat) : (strapEnd s n).pnl.link = s.pnl.link := by
  unfold strapEnd
  repeat' split
  all_goals simp

@[simp] theorem faultMove_link : (faultMove s).pnl.link = s.pnl.link := by
  unfold faultMove
  split <;> simp

@[simp] theorem testMove_link : (testMove s).pnl.link = s.pnl.link := by
  unfold testMove
  repeat' split
  all_goals simp

@[simp] theorem ownMoves_link (st : CycleState) : (ownMoves s st).pnl.link = s.pnl.link := by
  unfold ownMoves
  repeat' split
  all_goals simp

@[simp] theorem dryMove_link (b : Bool) : (dryMove s b).pnl.link = s.pnl.link := by
  unfold dryMove
  split <;> simp

@[simp] theorem progressMove_link : (progressMove s).pnl.link = s.pnl.link := by
  unfold progressMove
  split <;> simp

@[simp] theorem dryAndOwn_link (st : CycleState) (a b : Bool) : (dryAndOwn s st a b).pnl.link = s.pnl.link := by
  unfold dryAndOwn
  split <;> simp

@[simp] theorem allMoves_link (a b c d : Bool) : (allMoves s a b c d).pnl.link = s.pnl.link := by
  unfold allMoves
  repeat' split
  all_goals simp

@[simp] theorem moveSecond_link (b : Bool) : (moveSecond s b).pnl.link = s.pnl.link := by
  unfold moveSecond
  dsimp only
  split <;> simp

@[simp] theorem secondBody_link : (secondBody s).pnl.link = s.pnl.link := by simp [secondBody]

@[simp] theorem frameJudged_link (b : List Byte) : (frameJudged s b).pnl.link = s.pnl.link := by
  unfold frameJudged
  dsimp only
  repeat' split
  all_goals simp

@[simp] theorem goodCharacter_link (b : Byte) (f : Bool) : (goodCharacter s b f).pnl.link = s.pnl.link := by
  unfold goodCharacter
  dsimp only
  repeat' split
  all_goals simp

@[simp] theorem takeCharacter_link (b : Byte) (f g : Bool) : (takeCharacter s b f g).pnl.link = s.pnl.link := by
  unfold takeCharacter
  repeat' split
  all_goals simp

@[simp] theorem character_link (d : Option Byte) (f g : Bool) : (character s d f g).pnl.link = s.pnl.link := by
  unfold character
  split <;> simp

@[simp] theorem endIsolation_link : (endIsolation s).pnl.link = s.pnl.link := by
  unfold endIsolation
  split <;> simp

@[simp] theorem noticeSent_link : (noticeSent s).pnl.link = s.pnl.link := by
  unfold noticeSent
  split <;> simp

@[simp] theorem slotFails_link : (slotFails s).pnl.link = s.pnl.link := by
  unfold slotFails
  dsimp only
  repeat' split
  all_goals simp

@[simp] theorem collision_link : (collision s).pnl.link = s.pnl.link := by
  unfold collision
  dsimp only
  repeat' split
  all_goals simp

@[simp] theorem stuckLow_link : (stuckLow s).pnl.link = s.pnl.link := by
  unfold stuckLow
  split <;> simp

@[simp] theorem holdoverSecond_link : (holdoverSecond s).pnl.link = s.pnl.link := by
  unfold holdoverSecond
  repeat' split
  all_goals simp

@[simp] theorem crystalStops_link : (crystalStops s).pnl.link = s.pnl.link := by
  unfold crystalStops
  repeat' split
  all_goals simp

@[simp] theorem finish_link (ev : Bool) (s0 : State) : (finish ev s0 s).pnl.link = s.pnl.link := by
  have e : Safety.blur (finish ev s0 s) = Safety.blur s := Safety.finish_settled ev s0 s
  exact congrArg (·.pnl.link) e

variable {s} {t : State}

/-- Two links that agree but for the event flags stand alike to the host. -/
theorem Panel.link_inj {p q : Panel} (h : p.link = q.link) :
    p.setupDone = q.setupDone ∧ p.resetPending = q.resetPending ∧ p.resetEnable = q.resetEnable ∧
    p.response = q.response ∧ p.dataOut = q.dataOut :=
  ⟨congrArg (·.setupDone) h, congrArg (·.resetPending) h, congrArg (·.resetEnable) h, congrArg (·.response) h,
    congrArg (·.dataOut) h⟩

theorem mainActs_link (h : MainActs s t) : t.pnl.link = s.pnl.link := by
  cases h <;> simp

theorem quietActs_link (h : QuietActs s t) : t.pnl.link = s.pnl.link := by
  cases h with
  | holdoverFails => unfold holdoverFails; split <;> rfl
  | holdoverRises => unfold holdoverRises; split <;> rfl
  | programBegin | eraseBegin | suspendRequest | suspendEffect => rfl
  | _ => simp

end Sys2Proof.Machine
end

section
/-! PROOFS. What the loads are: the motor, the two relays, and the steps that cover them. One lemma per shared operation that
touches the Output Stage or the Feeder Share Unit and yet none of these. -/

namespace Sys2Proof.Machine

/-- The motor and the two stages' conduction: what draws (R69). -/
def Output.load (o : Output) : MotorState × Bool × Bool := (o.motor, o.stage1.on, o.stage2.on)

/-- The states of the three steps. -/
def Feeder.steps (f : Feeder) : StepState × StepState × StepState := (f.start, f.stage1, f.stage2)

variable (s : State)

/-! ## The loads -/

@[simp] theorem followStage_on (k : Nat) (step : StepState) (x : Stage) : (followStage s k step x).on = x.on := by
  unfold followStage syncStage Stage.mustLeave
  repeat' split
  all_goals rfl

@[simp] theorem syncOutputs_load : (syncOutputs s).ost.load = s.ost.load := by
  simp [syncOutputs, Output.load]

@[simp] theorem loadDuties_load : (loadDuties s).ost.load = s.ost.load := rfl

@[simp] theorem advancePosition_load : (advancePosition s).ost.load = s.ost.load := by
  unfold advancePosition
  dsimp only
  repeat' split
  all_goals rfl

@[simp] theorem doorOpens_load : (doorOpens s).ost.load = s.ost.load := by
  rw [doorOpens, (doorCycle_frame _).2.2.2.1]
  rfl

@[simp] theorem airSecond_load : (airSecond s).ost.load = s.ost.load := by
  unfold airSecond Output.judgeAir
  dsimp only
  repeat' split
  all_goals rfl

@[simp] theorem fullDuties_load : (fullDuties s).ost.load = s.ost.load := rfl

@[simp] theorem clearHoldCount_load : (clearHoldCount s).ost.load = s.ost.load := rfl

@[simp] theorem takeStart_load (d : Descriptor) : (takeStart s d).ost.load = s.ost.load := by simp [takeStart]

@[simp] theorem takeContinue_load (st : CycleState) : (takeContinue s st).ost.load = s.ost.load := by
  unfold takeContinue
  dsimp only
  split <;> simp

@[simp] theorem executeHeat_load : (executeHeat s).ost.load = s.ost.load := by simp [executeHeat]

@[simp] theorem executeExtend_load (n : Nat) : (executeExtend s n).ost.load = s.ost.load := by simp [executeExtend]

@[simp] theorem executePlan_load (p : Plan) : (executePlan s p).ost.load = s.ost.load := by
  unfold executePlan
  dsimp only
  repeat' split
  all_goals simp

@[simp] theorem loseHold_load (k : CoverStep) : (loseHold s k).ost.load = s.ost.load := by
  unfold loseHold
  split <;> rfl

@[simp] theorem coastEnd_load : (coastEnd s).ost.load = s.ost.load := rfl

@[simp] theorem doorCloses_load : (doorCloses s).ost.load = s.ost.load := rfl

@[simp] theorem airflowCount_load : (airflowCount s).ost.load = s.ost.load := rfl

@[simp] theorem holdCount_load : (holdCount s).ost.load = s.ost.load := by
  unfold holdCount
  split <;> rfl

@[simp] theorem holdSecond_load : (holdSecond s).ost.load = s.ost.load := by simp [holdSecond]

@[simp] theorem actOnPlan_load : (actOnPlan s).ost.load = s.ost.load := by
  unfold actOnPlan
  repeat' split
  all_goals simp

@[simp] theorem deliverPlan_load (src : Option Record) : (deliverPlan s src).ost.load = s.ost.load := by
  unfold deliverPlan
  split <;> simp

@[simp] theorem makePlan_load (v : Bool) : (makePlan s v).ost.load = s.ost.load := by
  unfold makePlan
  split <;> simp

@[simp] theorem takeConfirm_load : (takeConfirm s).ost.load = s.ost.load := by simp [takeConfirm]

@[simp] theorem takeForce_load (r : Record) : (takeForce s r).ost.load = s.ost.load := by simp [takeForce]

@[simp] theorem judgeHighLimit_load (c : Nat) : (judgeHighLimit s c).ost.load = s.ost.load := by
  unfold judgeHighLimit
  dsimp only
  repeat' split
  all_goals rfl

@[simp] theorem deliverTherm_load (ch : Channel) (w : Nat) : (deliverTherm s ch w).ost.load = s.ost.load := by
  unfold deliverTherm
  repeat' split
  all_goals simp

@[simp] theorem deliver_load (ch : Channel) (w : Option Nat) : (deliver s ch w).ost.load = s.ost.load := by
  unfold deliver
  split <;> simp

@[simp] theorem completePair_load (ch : Channel) (v : Bool) : (completePair s ch v).ost.load = s.ost.load := by
  unfold completePair
  split <;> simp

@[simp] theorem endMeasurement_load (m : Bool) (c p : Nat) (w : Option Nat) : (endMeasurement s m c p w).ost.load = s.ost.load := by simp [endMeasurement]

@[simp] theorem gateEnd_load (n : Nat) : (gateEnd s n).ost.load = s.ost.load := by
  unfold gateEnd
  dsimp only
  repeat' split
  all_goals simp

@[simp] theorem periodEnds_load (n : Nat) : (periodEnds s n).ost.load = s.ost.load := by
  unfold periodEnds
  split <;> simp

@[simp] theorem periodExpires_load : (periodExpires s).ost.load = s.ost.load := by
  unfold periodExpires
  split <;> simp

@[simp] theorem exhEnds_load (e : ExhEnd) : (exhEnds s e).ost.load = s.ost.load := by
  unfold exhEnds
  split <;> simp

@[simp] theorem allMoves_load (a b c d : Bool) : (allMoves s a b c d).ost.load = s.ost.load := by
  unfold allMoves
  repeat' split
  all_goals simp

@[simp] theorem moveSecond_load (b : Bool) : (moveSecond s b).ost.load = s.ost.load := by
  unfold moveSecond
  dsimp only
  split <;> simp

@[simp] theorem secondBody_load : (secondBody s).ost.load = s.ost.load := by simp [secondBody]

/-! ## The steps -/

@[simp] theorem setClass_steps (c : Nat) : (setClass s c).fsu.steps = s.fsu.steps := rfl

@[simp] theorem takeStart_steps (d : Descriptor) : (takeStart s d).fsu.steps = s.fsu.steps := by simp [takeStart]

@[simp] theorem executeHeat_steps : (executeHeat s).fsu.steps = s.fsu.steps := by simp [executeHeat]

@[simp] theorem executeExtend_steps (n : Nat) : (executeExtend s n).fsu.steps = s.fsu.steps := by simp [executeExtend]

@[simp] theorem executeCool_steps : (executeCool s).fsu.steps = s.fsu.steps := by simp [executeCool]

@[simp] theorem executeGuard_steps (n : Nat) : (executeGuard s n).fsu.steps = s.fsu.steps := by simp [executeGuard]

@[simp] theorem applyRemembered_steps (p : Plan) : (applyRemembered s p).fsu.steps = s.fsu.steps := by
  unfold applyRemembered
  split <;> simp

@[simp] theorem executePaused_steps (p : Plan) : (executePaused s p).fsu.steps = s.fsu.steps := by simp [executePaused]

@[simp] theorem executePlan_steps (p : Plan) : (executePlan s p).fsu.steps = s.fsu.steps := by
  unfold executePlan
  dsimp only
  repeat' split
  all_goals simp

@[simp] theorem stopNotice_steps : (stopNotice s).fsu.steps = s.fsu.steps := rfl

@[simp] theorem handNotice_steps (f : Bool) : (handNotice s f).fsu.steps = s.fsu.steps := by
  unfold handNotice
  dsimp only
  repeat' split
  all_goals rfl

@[simp] theorem feederBack_steps : (feederBack s).fsu.steps = s.fsu.steps := by
  unfold feederBack
  split <;> rfl

@[simp] theorem enterPresent_steps (c : LineClass) : (enterPresent s c).fsu.steps = s.fsu.steps := by
  unfold enterPresent
  dsimp only
  split <;> simp

@[simp] theorem judgeBlock_steps (n : Nat) : (judgeBlock s n).fsu.steps = s.fsu.steps := by
  unfold judgeBlock
  split <;> simp

@[simp] theorem blockCrossing_steps (n : Nat) : (blockCrossing s n).fsu.steps = s.fsu.steps := by
  unfold blockCrossing
  repeat' split
  all_goals simp

@[simp] theorem returnCrossing_steps (n : Nat) : (returnCrossing s n).fsu.steps = s.fsu.steps := by
  unfold returnCrossing
  dsimp only
  repeat' split
  all_goals simp

@[simp] theorem settleCrossing_steps (n : Nat) : (settleCrossing s n).fsu.steps = s.fsu.steps := by
  unfold settleCrossing
  split <;> simp

@[simp] theorem mainsEdge_steps (us : Nat) : (mainsEdge s us).fsu.steps = s.fsu.steps := by simp [mainsEdge]

@[simp] theorem actOnPlan_steps : (actOnPlan s).fsu.steps = s.fsu.steps := by
  unfold actOnPlan
  repeat' split
  all_goals simp

@[simp] theorem deliverPlan_steps (src : Option Record) : (deliverPlan s src).fsu.steps = s.fsu.steps := by
  unfold deliverPlan
  split <;> simp

@[simp] theorem makePlan_steps (v : Bool) : (makePlan s v).fsu.steps = s.fsu.steps := by
  unfold makePlan
  split <;> simp

@[simp] theorem takeConfirm_steps : (takeConfirm s).fsu.steps = s.fsu.steps := by simp [takeConfirm]

@[simp] theorem takeForce_steps (r : Record) : (takeForce s r).fsu.steps = s.fsu.steps := by simp [takeForce]

@[simp] theorem completePair_steps (ch : Channel) (v : Bool) : (completePair s ch v).fsu.steps = s.fsu.steps := by
  unfold completePair
  split <;> simp

@[simp] theorem endMeasurement_steps (m : Bool) (c p : Nat) (w : Option Nat) : (endMeasurement s m c p w).fsu.steps = s.fsu.steps := by simp [endMeasurement]

@[simp] theorem gateEnd_steps (n : Nat) : (gateEnd s n).fsu.steps = s.fsu.steps := by
  unfold gateEnd
  dsimp only
  repeat' split
  all_goals simp

@[simp] theorem periodEnds_steps (n : Nat) : (periodEnds s n).fsu.steps = s.fsu.steps := by
  unfold periodEnds
  split <;> simp

@[simp] theorem periodExpires_steps : (periodExpires s).fsu.steps = s.fsu.steps := by
  unfold periodExpires
  split <;> simp

@[simp] theorem exhEnds_steps (e : ExhEnd) : (exhEnds s e).fsu.steps = s.fsu.steps := by
  unfold exhEnds
  split <;> simp

@[simp] theorem deliverNotice_steps (n : Notice) : (deliverNotice s n).fsu.steps = s.fsu.steps := by
  unfold deliverNotice
  dsimp only
  repeat' split
  all_goals rfl

@[simp] theorem agePeerOut_steps (id : Nat) : (agePeerOut s id).fsu.steps = s.fsu.steps := rfl

@[simp] theorem frameJudged_steps (b : List Byte) : (frameJudged s b).fsu.steps = s.fsu.steps := by
  unfold frameJudged
  dsimp only
  split <;> simp

@[simp] theorem goodCharacter_steps (b : Byte) (f : Bool) : (goodCharacter s b f).fsu.steps = s.fsu.steps := by
  unfold goodCharacter
  dsimp only
  repeat' split
  all_goals simp

@[simp] theorem takeCharacter_steps (b : Byte) (f g : Bool) : (takeCharacter s b f g).fsu.steps = s.fsu.steps := by
  unfold takeCharacter
  repeat' split
  all_goals simp

@[simp] theorem character_steps (d : Option Byte) (f g : Bool) : (character s d f g).fsu.steps = s.fsu.steps := by
  unfold character
  split <;> simp

@[simp] theorem lineRestored_steps : (lineRestored s).fsu.steps = s.fsu.steps := by
  unfold lineRestored
  split <;> simp

@[simp] theorem lineBecomesIdle_steps : (lineBecomesIdle s).fsu.steps = s.fsu.steps := by
  unfold lineBecomesIdle
  split <;> simp

@[simp] theorem endIsolation_steps : (endIsolation s).fsu.steps = s.fsu.steps := by
  unfold endIsolation
  split <;> rfl

@[simp] theorem noticeTimerEnds_steps : (noticeTimerEnds s).fsu.steps = s.fsu.steps := by
  unfold noticeTimerEnds
  dsimp only
  split
  · split
    · rfl
    · exact handNotice_steps _ _
  · rfl

@[simp] theorem settleEnds_steps : (settleEnds s).fsu.steps = s.fsu.steps := rfl

@[simp] theorem listenInEnds_steps : (listenInEnds s).fsu.steps = s.fsu.steps := rfl

end Sys2Proof.Machine
end

section
/-! PROOFS. CONFIG is left by a SETUP alone (R21): every other event finds the sequencer in CONFIG with no plan awaited, and
leaves it so. -/

namespace Sys2Proof.Machine

/-- The sequencer is in CONFIG, and no plan is awaited. -/
structure Configuring (s : State) : Prop where
  state : s.csq.state = .config
  planner : s.rpl.state ≠ .making

variable {s t u : State}

theorem Configuring.congr (h : Configuring s) (hc : t.csq.state = s.csq.state) (hr : t.rpl = s.rpl) : Configuring t :=
  ⟨hc.trans h.state, by rw [hr]; exact h.planner⟩

theorem Configuring.frame (h : Configuring s) (hc : t.csq = s.csq) (hr : t.rpl = s.rpl) : Configuring t :=
  h.congr (by rw [hc]) hr

theorem configuring_ite {p : Prop} [Decidable p] (ht : Configuring t) (hu : Configuring u) :
    Configuring (if p then t else u) := by
  split
  · exact ht
  · exact hu

/-! ## The journal -/

theorem recordDone_configuring (h : Configuring s) : Configuring (recordDone s) := by
  unfold recordDone
  rw [if_neg (show ¬ s.csq.state = .loss by rw [h.state]; decide)]
  exact configuring_ite (h.congr rfl rfl) (configuring_ite h h)

theorem setJournalFault_configuring (h : Configuring s) : Configuring (setJournalFault s) := by
  have h1 : Configuring (s.setPjr { s.pjr with fault := true, pend := none }) := h.frame rfl rfl
  have h2 := configuring_ite (p := s.pjr.pend.isSome = true) (recordDone_configuring h1) h1
  exact configuring_ite h2 (h2.congr rfl rfl)

theorem journalSettle_configuring (h : Configuring s) : Configuring (journalSettle s) := by
  have ha : Configuring (abandonPending s) := by
    unfold abandonPending
    refine configuring_ite (recordDone_configuring ?_) h
    exact h.frame rfl rfl
  unfold journalSettle
  exact configuring_ite h (ha.frame rfl rfl)

theorem requestRecord_configuring (h : Configuring s) (kind : RecordKind) (reason : EndReason) :
    Configuring (requestRecord s kind reason) := by
  unfold requestRecord
  dsimp only
  refine configuring_ite (recordDone_configuring ?_) (journalSettle_configuring ?_) <;> exact h.congr rfl rfl

theorem programComplete_configuring (h : Configuring s) (agrees : Bool) : Configuring (programComplete s agrees) := by
  unfold programComplete
  split
  · split
    · unfold programVerified
      extract_lets flash j j1 j2 mine s1 s2
      have h1 : Configuring s1 := ⟨h.state, h.planner⟩
      have h2 : Configuring s2 := configuring_ite (recordDone_configuring h1) h1
      exact journalSettle_configuring (configuring_ite (setJournalFault_configuring h2) h2)
    · unfold programFailed
      extract_lets flash j j1 j2 s1
      have h1 : Configuring s1 := ⟨h.state, h.planner⟩
      exact journalSettle_configuring (configuring_ite (setJournalFault_configuring h1) h1)
  · exact h

theorem eraseComplete_configuring (h : Configuring s) (blank : Bool) : Configuring (eraseComplete s blank) := by
  unfold eraseComplete
  split
  · split
    · exact journalSettle_configuring ⟨h.state, h.planner⟩
    · unfold eraseFailed
      extract_lets s0 j full s1
      have h1 : Configuring s1 := ⟨h.state, h.planner⟩
      exact configuring_ite (journalSettle_configuring ⟨h.state, h.planner⟩)
        (journalSettle_configuring (configuring_ite (setJournalFault_configuring h1) h1))
  · exact h

theorem scanComplete_configuring (h : Configuring s) : Configuring (scanComplete s) := by
  unfold scanComplete
  refine configuring_ite h ?_
  extract_lets j id q c s1 s2
  have h1 : Configuring s1 := ⟨h.state, h.planner⟩
  have h2 : Configuring s2 := configuring_ite h1 (h1.frame rfl rfl)
  exact configuring_ite (setJournalFault_configuring h2) h2

/-! ## The mains and the door -/

theorem raiseWarning_configuring (h : Configuring s) (opens : Bool) : Configuring (raiseWarning s opens) := by
  have loss : ∀ {v : State}, Configuring v → Configuring (lossCycle v) := fun {v} hv => by
    rw [lossCycle_stays (.inl hv.state)]
    exact hv.congr rfl rfl
  have journal : ∀ {v : State}, Configuring v → Configuring (journalLoss v) := fun {v} hv => by
    have hw : Configuring (v.setPjr v.pjr.warned) := hv.frame rfl rfl
    exact configuring_ite (journalSettle_configuring hw) hw
  unfold raiseWarning
  refine loss (journal ?_)
  exact h.frame rfl rfl

theorem enterLossWarning_configuring (h : Configuring s) (opens : Bool) : Configuring (enterLossWarning s opens) := by
  unfold enterLossWarning
  refine configuring_ite ?_ (raiseWarning_configuring ?_ opens) <;> exact h.frame rfl rfl

theorem railTripped_configuring (h : Configuring s) : Configuring (railTripped s) := by
  unfold railTripped
  refine configuring_ite ?_ (configuring_ite ?_ (enterLossWarning_configuring ?_ _)) <;> exact h.frame rfl rfl

theorem missingCrossing_configuring (h : Configuring s) : Configuring (missingCrossing s) := by
  unfold missingCrossing
  split
  · refine enterLossWarning_configuring ?_ _
    exact h.frame rfl rfl
  · exact h.frame rfl rfl
  · exact h.frame rfl rfl
  · exact h.frame rfl rfl
  · exact h

theorem enterPresent_configuring (h : Configuring s) (c : LineClass) : Configuring (enterPresent s c) := by
  have back : ∀ {v : State}, Configuring v → Configuring (mainsBackCycle v) := fun {v} hv => by
    unfold mainsBackCycle
    rw [if_neg (show ¬ v.csq.state = .loss by rw [hv.state]; decide), if_neg (by simp [hv.state])]
    exact hv
  unfold enterPresent
  refine configuring_ite (back ?_) ?_
  · exact h.frame (by simp) (by simp)
  · exact h.frame rfl rfl

theorem settleCrossing_configuring (h : Configuring s) (interval : Nat) : Configuring (settleCrossing s interval) := by
  have judge : ∀ sum, Configuring (judgeBlock s sum) := fun sum => by
    unfold judgeBlock
    split
    · exact enterPresent_configuring h _
    · exact configuring_ite (h.frame rfl rfl) (h.frame rfl rfl)
  have block : Configuring (blockCrossing s interval) :=
    configuring_ite (h.frame rfl rfl) (configuring_ite (h.frame rfl rfl) (judge _))
  unfold settleCrossing
  split
  · exact block
  · exact block
  · exact h
  · exact configuring_ite h (configuring_ite (h.frame rfl rfl) (h.frame rfl rfl))
  · unfold returnCrossing
    refine configuring_ite (enterPresent_configuring ?_ _) (configuring_ite ?_ ?_) <;> exact h.frame rfl rfl

theorem doorCycle_configuring (h : Configuring s) : Configuring (doorCycle s) := by
  unfold doorCycle
  rw [h.state]
  exact configuring_ite h h

/-! ## The planner and the measurements -/

theorem makePlan_configuring (h : Configuring s) (valid : Bool) : Configuring (makePlan s valid) := by
  unfold makePlan
  rw [if_neg h.planner]
  exact h

theorem waitSecond_configuring (h : Configuring s) : Configuring (waitSecond s) := by
  unfold waitSecond
  rw [if_neg (by rw [h.state]; decide)]
  exact h

theorem completePair_configuring (h : Configuring s) (ch : Channel) (valid : Bool) :
    Configuring (completePair s ch valid) := by
  have h1 : Configuring (s.setScv s.scv.nextPair) := h.frame rfl rfl
  exact configuring_ite (makePlan_configuring h1 valid) h1

theorem endMeasurement_configuring (h : Configuring s) (m : Bool) (count period : Nat) (w : Option Nat) :
    Configuring (endMeasurement s m count period w) := by
  unfold endMeasurement
  exact completePair_configuring (h.frame (by simp) (by simp)) _ _

theorem exhEnds_configuring (h : Configuring s) (e : ExhEnd) : Configuring (exhEnds s e) := by
  cases e with
  | gate n =>
    exact configuring_ite (configuring_ite (completePair_configuring h _ _)
      (configuring_ite (endMeasurement_configuring h _ _ _ _) (h.frame rfl rfl))) h
  | period us => exact configuring_ite (endMeasurement_configuring h _ _ _ _) h
  | timeout => exact configuring_ite (endMeasurement_configuring h _ _ _ _) h

/-! ## The second -/

theorem faultMove_configuring (h : Configuring s) : Configuring (faultMove s) := by
  unfold faultMove
  rw [if_neg (by simp [faultDue, h.state, CycleState.heats])]
  exact h

theorem testMove_configuring (h : Configuring s) : Configuring (testMove s) := by
  unfold testMove
  rw [if_neg (by simp [testDue, h.state])]
  exact h

theorem dryReport_configuring (h : Configuring s) (tDry ext : Nat) : Configuring (dryReport s tDry ext) := by
  unfold dryReport
  rw [if_neg (by simp [h.state])]
  exact h

theorem airflowFaultReport_configuring (h : Configuring s) : Configuring (airflowFaultReport s) := by
  have h1 : Configuring (raiseFault (setReasons s fun r => { r with airflowFault := true })) := ⟨h.state, h.planner⟩
  unfold airflowFaultReport
  dsimp only
  rw [if_neg (c := (raiseFault _).csq.state.heats = true) (by rw [h1.state]; decide)]
  exact configuring_ite h h1

theorem dryAndOwn_configuring (h : Configuring s) (st : CycleState) (dry first : Bool) :
    Configuring (dryAndOwn s st dry first) := by
  have own : ∀ {v : State}, Configuring v → Configuring (ownMoves v st) := fun hv =>
    configuring_ite (configuring_ite (faultMove_configuring hv) (testMove_configuring hv)) hv
  have report : ∀ {v : State}, Configuring v → Configuring (dryMove v dry) := fun hv =>
    configuring_ite (dryReport_configuring hv _ _) hv
  exact configuring_ite (own (report h)) (report (own h))

theorem holdReport_configuring (h : Configuring s) (due : Bool) : Configuring (holdReport due s) :=
  configuring_ite (airflowFaultReport_configuring h) h

theorem holdCount_configuring (h : Configuring s) : Configuring (holdCount s) := configuring_ite (h.frame rfl rfl) h

theorem allMoves_configuring (h : Configuring s) (dry reportFirst holdFirst atOnce : Bool) :
    Configuring (allMoves s dry reportFirst holdFirst atOnce) := by
  have hold : ∀ {v : State}, Configuring v → Configuring (holdSecond v) := fun hv =>
    holdReport_configuring (holdCount_configuring hv) _
  exact configuring_ite (hold (dryAndOwn_configuring h _ _ _)) (configuring_ite (dryAndOwn_configuring (hold h) _ _ _)
    (holdReport_configuring (dryAndOwn_configuring (holdCount_configuring h) _ _ _) _))

theorem orderWhen_configuring (h : Configuring s) (conflict : Bool) : Configuring (orderWhen conflict s).2 := by
  unfold orderWhen
  split
  · exact h.frame rfl rfl
  · exact h

theorem secondBody_configuring (h : Configuring s) : Configuring (secondBody s) := by
  have hcount : Configuring (countSecond s) := configuring_ite (h.congr rfl rfl) (h.congr rfl rfl)
  have hair : Configuring (airSecond (countSecond s)) := hcount.frame rfl rfl
  have hdry : Configuring (drySecond (airSecond (countSecond s))) := hair.frame (by simp) (by simp)
  have progress : ∀ {v : State}, Configuring v → Configuring (progressMove v) := fun hv =>
    configuring_ite (requestRecord_configuring hv _ _) hv
  unfold secondBody moveSecond
  extract_lets s1 moves a b c d
  have ha : Configuring a.2 := orderWhen_configuring hdry _
  have hb : Configuring b.2 := orderWhen_configuring ha _
  have hc : Configuring c.2 := orderWhen_configuring hb _
  have hd : Configuring d.2 := orderWhen_configuring hc _
  exact configuring_ite (allMoves_configuring (progress hd) _ _ _ _) (progress (allMoves_configuring hd _ _ _ _))

/-! ## Every event but SETUP -/

theorem mainActs_configuring (h : Configuring s) (hu : MainActs s u) : Configuring u := by
  cases hu with
  | second => exact secondBody_configuring h
  | exh e => exact exhEnds_configuring h e
  | edge us _ =>
    have hacc : Configuring (acceptEdge s us) := h.frame rfl rfl
    have hedge : Configuring (mainsEdge s us) := settleCrossing_configuring hacc _
    exact hedge.congr (by simp) (by simp)
  | doorOpens =>
    refine doorCycle_configuring ?_
    exact h.frame rfl rfl
  | missing _ => exact missingCrossing_configuring h
  | trip => exact railTripped_configuring h
  | _ => exact h.frame (by simp) (by simp)

theorem quietActs_configuring (h : Configuring s) (hu : QuietActs s u) : Configuring u := by
  cases hu with
  | programComplete agrees => exact programComplete_configuring h agrees
  | eraseComplete blank => exact eraseComplete_configuring h blank
  | scan _ => exact scanComplete_configuring h
  | holdoverSecond =>
    have h1 : Configuring (s.setHdm { s.hdm with prescaler := 0, crystalPhase := 0, crystalRuns := true, crystalQuiet := 0,
                                                 clock := satInc clockLimit s.hdm.clock }) := h.frame rfl rfl
    exact configuring_ite (configuring_ite (waitSecond_configuring h1) h1) h
  | programBegin | eraseBegin | suspendRequest | suspendEffect => exact h.frame rfl rfl
  | holdoverFails => exact configuring_ite h (h.frame rfl rfl)
  | holdoverRises => exact configuring_ite h (h.frame rfl rfl)
  | _ => exact h.frame (by simp) (by simp)

end Sys2Proof.Machine
end

section
/-! PROOFS. Every step keeps the loads covered (R69, R71, R75, R81): a load that draws in PRESENT has its step in the cover, a
release counting as in it until its load has stopped; outside PRESENT the motor does not turn; and before SETUP nothing runs. -/

namespace Sys2Proof.Machine

open Safety (Covered EnergizedOk Settled)

variable {s t u : State}

/-! ## The property -/

/-- A load has its units: its step is in the cover, or a motor start weighs none (R69). -/
def LoadCovered (s : State) (k : CoverStep) : Prop :=
  Covered (stepOf s.fsu k) ∨ k = .start ∧ s.settings.startUnits = 0

/-- The loads are covered: a load that draws has its units, no warning is outstanding in PRESENT, and the motor stands still
outside it (R69, R81, R93). -/
structure LoadsOk (s : State) : Prop where
  warned : s.mwt.warning = true → s.mwt.state ≠ .present
  stopped : s.mwt.state ≠ .present → s.ost.motor = .stopped
  covered : ∀ k, drawsNothing s k = false → LoadCovered s k

/-- Before SETUP the sequencer is in CONFIG, the motor stands still and no plan is awaited (R21). -/
def Unset (s : State) : Prop := s.pnl.setupDone = false → Configuring s ∧ s.ost.motor = .stopped

theorem drawsNothing_eq_false : (∀ k, drawsNothing s k = false → LoadCovered s k) ↔
    (s.mwt.state = .present →
      (s.ost.stage1.on = true → Covered s.fsu.stage1) ∧ (s.ost.stage2.on = true → Covered s.fsu.stage2) ∧
      (s.ost.motor = .starting → Covered s.fsu.start ∨ s.settings.startUnits = 0)) := by
  constructor
  · intro h hp
    refine ⟨fun ho => ?_, fun ho => ?_, fun hm => ?_⟩
    · have h1 := h .stage1 (by simp [drawsNothing, hp, ho])
      simpa [LoadCovered, stepOf] using h1
    · have h2 := h .stage2 (by simp [drawsNothing, hp, ho])
      simpa [LoadCovered, stepOf] using h2
    · have h0 := h .start (by simp [drawsNothing, hp, hm])
      simpa [LoadCovered, stepOf] using h0
  · intro h k hk
    cases k with
    | start =>
      simp only [drawsNothing, Bool.or_eq_false_iff, bne_eq_false_iff_eq] at hk
      exact ((h hk.1).2.2 hk.2).imp_right fun h0 => ⟨rfl, h0⟩
    | stage1 =>
      simp only [drawsNothing, Bool.or_eq_false_iff, bne_eq_false_iff_eq, Bool.not_eq_false'] at hk
      exact .inl ((h hk.1).1 hk.2)
    | stage2 =>
      simp only [drawsNothing, Bool.or_eq_false_iff, bne_eq_false_iff_eq, Bool.not_eq_false'] at hk
      exact .inl ((h hk.1).2.1 hk.2)

theorem energizedOk_iff (s : State) : EnergizedOk s ↔ Unset s ∧ LoadsOk s := by
  constructor
  · rintro ⟨h1, h2, h3, h4⟩
    refine ⟨fun hset => ?_, h2, h3, drawsNothing_eq_false.mpr h4⟩
    obtain ⟨hstate, hmotor, hplan⟩ := h1 hset
    exact ⟨⟨hstate, hplan⟩, hmotor⟩
  · rintro ⟨h1, h2, h3, h4⟩
    refine ⟨fun hset => ?_, h2, h3, drawsNothing_eq_false.mp h4⟩
    obtain ⟨⟨hstate, hplan⟩, hmotor⟩ := h1 hset
    exact ⟨hstate, hmotor, hplan⟩

/-! ## What leaves the loads as they are -/

/-- What the property of the loads looks at. -/
def coverOf (s : State) : MainsState × Bool × (MotorState × Bool × Bool) × (StepState × StepState × StepState) × Nat :=
  (s.mwt.state, s.mwt.warning, s.ost.load, s.fsu.steps, s.settings.startUnits)

theorem LoadsOk.same (h : LoadsOk s) (e : coverOf t = coverOf s) : LoadsOk t := by
  simp only [coverOf, Output.load, Feeder.steps, Prod.mk.injEq] at e
  obtain ⟨hm, hw, ⟨hmotor, h1, h2⟩, ⟨f0, f1, f2⟩, hu⟩ := e
  refine ⟨by rw [hm, hw]; exact h.warned, by rw [hm, hmotor]; exact h.stopped, ?_⟩
  rw [drawsNothing_eq_false, hm, h1, h2, hmotor, f0, f1, f2, hu]
  exact drawsNothing_eq_false.mp h.covered

theorem LoadsOk.frame (h : LoadsOk s) (hm : t.mwt = s.mwt) (ho : t.ost.load = s.ost.load)
    (hf : t.fsu.steps = s.fsu.steps) (hs : t.settings = s.settings) : LoadsOk t :=
  h.same (by simp only [coverOf, hm, ho, hf, hs])

/-- Outside PRESENT nothing has to be covered but that the motor stands still. -/
theorem loadsOk_of_dark (hm : t.mwt.state ≠ .present) (hmotor : t.ost.motor = .stopped) : LoadsOk t :=
  ⟨fun _ => hm, fun _ => hmotor, drawsNothing_eq_false.mpr fun hp => absurd hp hm⟩

theorem loadsOk_ite {p : Prop} [Decidable p] (ht : LoadsOk t) (hu : LoadsOk u) : LoadsOk (if p then t else u) := by
  split
  · exact ht
  · exact hu

/-! ## Settling: a step leaves the cover only as its load has stopped (R71) -/

/-- `t` is `s` settled, with every step in the cover whose load draws still in it. -/
structure Keeps (s t : State) : Prop where
  settled : Settled s t
  steps : ∀ k, drawsNothing s k = false → Covered (stepOf s.fsu k) → Covered (stepOf t.fsu k)

theorem settled_draws (h : Settled s t) (k : CoverStep) : drawsNothing t k = drawsNothing s k := by
  have e : Safety.blur t = Safety.blur s := h
  have h0 : t.ost.motor = s.ost.motor := congrArg (·.ost.motor) e
  have h1 : t.ost.stage1.on = s.ost.stage1.on := congrArg (·.ost.stage1.on) e
  have h2 : t.ost.stage2.on = s.ost.stage2.on := congrArg (·.ost.stage2.on) e
  cases k <;> simp [drawsNothing, h.mwt, h0, h1, h2]

theorem Keeps.refl (s : State) : Keeps s s := ⟨Settled.refl s, fun _ _ h => h⟩

theorem Keeps.trans (h1 : Keeps s t) (h2 : Keeps t u) : Keeps s u :=
  ⟨h1.settled.trans h2.settled, fun k hk hc => h2.steps k (by rw [settled_draws h1.settled]; exact hk) (h1.steps k hk hc)⟩

theorem keeps_ite {p : Prop} [Decidable p] (ht : Keeps s t) (hu : Keeps s u) : Keeps s (if p then t else u) := by
  split
  · exact ht
  · exact hu

theorem stepOf_of_steps {f g : Feeder} (h : g.steps = f.steps) (k : CoverStep) : stepOf g k = stepOf f k := by
  simp only [Feeder.steps, Prod.mk.injEq] at h
  obtain ⟨h0, h1, h2⟩ := h
  cases k
  · exact h0
  · exact h1
  · exact h2

theorem keeps_of_steps (h : Settled s t) (hf : t.fsu.steps = s.fsu.steps) : Keeps s t :=
  ⟨h, fun k _ hc => by rw [stepOf_of_steps hf]; exact hc⟩

theorem LoadsOk.keeps (h : LoadsOk s) (hk : Keeps s t) : LoadsOk t := by
  have hset := hk.settled
  have hmotor : t.ost.motor = s.ost.motor := by
    have e : Safety.blur t = Safety.blur s := hset
    exact congrArg (·.ost.motor) e
  refine ⟨by rw [hset.mwt]; exact h.warned, by rw [hset.mwt, hmotor]; exact h.stopped, fun k hd => ?_⟩
  rw [settled_draws hset] at hd
  rcases h.covered k hd with hc | ⟨h0, hu⟩
  · exact .inl (hk.steps k hd hc)
  · exact .inr ⟨h0, by rw [hset.settings]; exact hu⟩

theorem stepOf_setStep (s : State) (j k : CoverStep) (x : StepState) :
    stepOf (setStep s j x).fsu k = if k = j then x else stepOf s.fsu k := by
  cases j <;> cases k <;> rfl

/-- A step may take any state while its load stands still or is not covered, and always one that is covered. -/
theorem setStep_keeps (s : State) (j : CoverStep) (x : StepState)
    (h : drawsNothing s j = false → Covered (stepOf s.fsu j) → Covered x) : Keeps s (setStep s j x) := by
  refine ⟨Safety.setStep_settled s j x, fun k hk hc => ?_⟩
  rw [stepOf_setStep]
  split
  case isTrue hkj =>
    subst hkj
    exact h hk hc
  case isFalse => exact hc

theorem unmarkStep_keeps (s : State) (k : CoverStep) : Keeps s (unmarkStep s k) :=
  keeps_of_steps (Safety.unmarkStep_settled s k) (by simp)

theorem giveUp_keeps (s : State) (k : CoverStep) : Keeps s (giveUp s k) := by
  unfold giveUp
  split
  case h_1 hp =>
    refine (setStep_keeps s k .free fun _ hc => ?_).trans (unmarkStep_keeps _ k)
    rw [hp] at hc
    exact absurd hc (by simp)
  case h_2 =>
    exact (setStep_keeps s k .release fun _ _ => .inr rfl).trans
      (keeps_of_steps (Safety.loseHold_settled _ k) (by simp))
  case h_3 => exact Keeps.refl s

theorem dropAll_keeps (s : State) : Keeps s (dropAll s) := by
  have drop : ∀ (v : State) (k : CoverStep), Keeps v (dropUnwanted v k) := fun v k =>
    keeps_ite (Keeps.refl v) (giveUp_keeps v k)
  exact ((drop _ _).trans (drop _ _)).trans (drop _ _)

theorem confirmStep_keeps (s : State) (k : CoverStep) : Keeps s (confirmStep s k) := by
  unfold confirmStep
  split
  case isTrue h =>
    obtain ⟨-, hd⟩ := Bool.and_eq_true_iff.mp h
    refine (setStep_keeps s k .free fun hn => ?_).trans (unmarkStep_keeps _ k)
    exact absurd (hd.symm.trans hn) (by decide)
  case isFalse => exact Keeps.refl s

theorem confirmAll_keeps (s : State) : Keeps s (confirmAll s) :=
  ((confirmStep_keeps _ _).trans (confirmStep_keeps _ _)).trans (confirmStep_keeps _ _)

theorem settleClass_keeps (s : State) : Keeps s (settleClass s) :=
  keeps_ite (keeps_of_steps (Safety.setClass_settled s 2) rfl) (Keeps.refl s)

theorem settleEntry_keeps (s : State) : Keeps s (settleEntry s) := by
  have hsync : Keeps s (syncOutputs s) := keeps_of_steps (Safety.syncOutputs_settled s) (by simp)
  have hwant : ∀ v : State, Keeps v (takeWant v) := fun v => keeps_of_steps (Safety.takeWant_settled v) rfl
  exact (((hsync.trans (dropAll_keeps _)).trans (confirmAll_keeps _)).trans (hwant _)).trans (settleClass_keeps _)

theorem formEvaluation_keeps (s : State) : Keeps s (formEvaluation s) := by
  refine keeps_of_steps (Safety.formEvaluation_settled s) ?_
  unfold formEvaluation
  dsimp only
  split <;> rfl

theorem shedTest_keeps (s : State) : Keeps s (shedTest s) := by
  have shed : ∀ (v : State) (k : CoverStep), Keeps v (shedStep v k) := fun v k =>
    keeps_ite ((giveUp_keeps v k).trans (keeps_of_steps rfl rfl)) (Keeps.refl v)
  exact keeps_ite ((shed _ _).trans (shed _ _)) (Keeps.refl s)

/-- A grant moves none but the steps it considers. -/
theorem stepOf_grantSteps (x : StepState) {k : CoverStep} : ∀ (ks : List CoverStep) (s : State) (r : Nat), k ∉ ks →
    stepOf (grantSteps s x r ks).fsu k = stepOf s.fsu k
  | [], _, _, _ => rfl
  | j :: rest, s, r, hk => by
    obtain ⟨hj, hrest⟩ := not_or.mp (fun h => hk (List.mem_cons.mpr h))
    unfold grantSteps
    split
    · rw [stepOf_grantSteps x rest _ _ hrest, stepOf_setStep, if_neg hj]
    · rfl

theorem grantTest_keeps (s : State) : Keeps s (grantTest s) := by
  refine ⟨Safety.grantTest_settled s, fun k _ hc => ?_⟩
  have hk : k ∉ freeWanted s := fun hmem => by
    have hfree : stepOf s.fsu k = .free := by
      have := (List.mem_filter.mp hmem).2
      exact of_decide_eq_true (Bool.and_eq_true_iff.mp this).2
    rw [hfree] at hc
    exact absurd hc (by simp)
  unfold grantTest
  split
  · split
    · rw [stepOf_grantSteps _ _ _ _ hk]
      exact hc
    · exact hc
  · exact hc

theorem evaluateOnce_keeps (s : State) : Keeps s (evaluateOnce s) := by
  have tests : ∀ v : State, Keeps v (applyTests v) := fun v =>
    keeps_ite (Keeps.refl v) ((shedTest_keeps _).trans (grantTest_keeps _))
  exact (((formEvaluation_keeps _).trans (tests _)).trans (confirmAll_keeps _)).trans (settleClass_keeps _)

theorem evaluateTimes_keeps (n : Nat) : ∀ s : State, Keeps s (evaluateTimes n s) := by
  induction n with
  | zero => exact formEvaluation_keeps
  | succ n ih => exact fun s => keeps_ite ((evaluateOnce_keeps s).trans (ih _)) (evaluateOnce_keeps s)

theorem announce_keeps (s0 : State) (g : Bool) (s : State) : Keeps s (announce s0 g s) := by
  refine keeps_of_steps (Safety.announce_settled s0 g s) ?_
  unfold announce
  repeat' split
  all_goals simp

theorem settleAndEvaluate_keeps (ev : Bool) (s0 s : State) : Keeps s (settleAndEvaluate ev s0 s) :=
  keeps_ite ((settleEntry_keeps s).trans (evaluateTimes_keeps 4 _)) (settleEntry_keeps s)

theorem finish_keeps (ev : Bool) (s0 s : State) : Keeps s (finish ev s0 s) := by
  rw [finish_eq]
  exact (settleAndEvaluate_keeps ev s0 s).trans (announce_keeps _ _ _)

end Sys2Proof.Machine
end

section
/-! PROOFS. Every step keeps the loads covered: the crossing, at which the loads begin to draw, the loss of the mains, and the
other events, which leave the loads alone. -/

namespace Sys2Proof.Machine

open Safety (Covered EnergizedOk Settled)

variable {s t u : State}

/-! ## The crossing (R65, R66, R74) -/

/-- A stage that fires after a crossing has its step in the cover, since NOT_HELD would hold it off (R65, R69). -/
theorem movedState_firing {k : Nat} {step : StepState} {boundary : Bool} {x : Stage}
    (h : movedState s k step boundary x = .firing) : step = .cover := by
  unfold movedState at h
  split at h
  · cases h
  · split at h
    · cases h
    case isFalse hoff =>
      refine Classical.byContradiction fun hne => ?_
      exact hoff (by simp [HoldOff.any, holdOff, hne])

theorem crossStages_covered (s : State) (boundary : Bool) :
    ((crossStages s boundary).ost.stage1.on = true → s.fsu.stage1 = .cover) ∧
    ((crossStages s boundary).ost.stage2.on = true → s.fsu.stage2 = .cover) := by
  constructor
  · intro h
    have hc : (conducts (s.setOst _)).1 = true := h
    simp only [conducts, Bool.and_eq_true, decide_eq_true_eq] at hc
    exact movedState_firing hc.1.2
  · intro h
    have hc : (conducts (s.setOst _)).2 = true := h
    simp only [conducts, Bool.and_eq_true, decide_eq_true_eq] at hc
    exact movedState_firing hc.1.2

/-- What a crossing needs of the loads: the stages are settled by the crossing itself. -/
structure MotorOk (s : State) : Prop where
  warned : s.mwt.warning = true → s.mwt.state ≠ .present
  stopped : s.mwt.state ≠ .present → s.ost.motor = .stopped
  started : s.mwt.state = .present → s.ost.motor = .starting → LoadCovered s .start

theorem LoadsOk.motorOk (h : LoadsOk s) : MotorOk s :=
  ⟨h.warned, h.stopped, fun hp hm => h.covered .start (by simp [drawsNothing, hp, hm])⟩

theorem MotorOk.frame (h : MotorOk s) (hm : t.mwt = s.mwt) (ho : t.ost.motor = s.ost.motor)
    (hf : t.fsu.steps = s.fsu.steps) (hs : t.settings = s.settings) : MotorOk t := by
  refine ⟨by rw [hm]; exact h.warned, by rw [hm, ho]; exact h.stopped, ?_⟩
  unfold LoadCovered
  rw [hm, ho, stepOf_of_steps hf, hs]
  exact h.started

@[simp] theorem openRelay_motor (o : Output) : o.openRelay.motor = o.motor := by
  unfold Output.openRelay
  split <;> rfl

theorem motorOk_ite {p : Prop} [Decidable p] (ht : MotorOk t) (hu : MotorOk u) : MotorOk (if p then t else u) := by
  split
  · exact ht
  · exact hu

/-- A motor that a crossing stops leaves START in the cover or under release (R71, R75). -/
theorem crossMotorStop_motorOk (h : MotorOk s) : MotorOk (crossMotorStop s) := by
  unfold crossMotorStop
  split
  case isTrue =>
    refine ⟨?_, fun _ => ?_, fun _ hm => ?_⟩
    · simpa using h.warned
    · simp [Output.stopMotor]
    · simp [Output.stopMotor] at hm
  case isFalse => exact h

/-- A motor starts in PRESENT alone, with START in the cover or weighing nothing (R74). -/
theorem crossMotorStart_loadsOk (h : MotorOk s) (h1 : s.ost.stage1.on = true → Covered s.fsu.stage1)
    (h2 : s.ost.stage2.on = true → Covered s.fsu.stage2) : LoadsOk (crossMotorStart s) := by
  unfold crossMotorStart
  split
  case isTrue hs =>
    simp only [motorStarts, Bool.and_eq_true, Bool.or_eq_true, decide_eq_true_eq] at hs
    obtain ⟨⟨⟨⟨-, hp⟩, -⟩, -⟩, hstart⟩ := hs
    refine ⟨h.warned, fun hn => absurd hp hn, drawsNothing_eq_false.mpr fun _ => ⟨h1, h2, fun _ => ?_⟩⟩
    exact hstart.imp_left .inl
  case isFalse =>
    refine ⟨h.warned, h.stopped, drawsNothing_eq_false.mpr fun hp => ⟨h1, h2, fun hm => ?_⟩⟩
    rcases h.started hp hm with hc | ⟨-, hu⟩
    · exact .inl hc
    · exact .inr hu

@[simp] theorem drop_motor (o : Output) : o.drop.motor = o.motor := by
  unfold Output.drop Output.openRelay
  split <;> rfl

@[simp] theorem crossStages_motor (s : State) (b : Bool) : (crossStages s b).ost.motor = s.ost.motor := rfl

theorem load_motor {o p : Output} (h : o.load = p.load) : o.motor = p.motor := congrArg (·.1) h

theorem crossing_loadsOk (h : MotorOk s) : LoadsOk (crossing s) := by
  rw [crossing_eq]
  have hdrop : MotorOk (railDropEnd s) := by
    refine h.frame (by simp) ?_ (by simp) (by simp)
    unfold railDropEnd
    split <;> simp
  have hpos : MotorOk (advancePosition (railDropEnd s)) :=
    hdrop.frame (by simp) (load_motor (advancePosition_load _)) (by simp) (by simp)
  have hstop := crossMotorStop_motorOk hpos
  obtain ⟨h1, h2⟩ := crossStages_covered (crossMotorStop (advancePosition (railDropEnd s))) (atBoundary (railDropEnd s))
  refine crossMotorStart_loadsOk (hstop.frame (by simp) (by simp) (by simp) (by simp)) (fun ho => .inl ?_) fun ho => .inl ?_
  · simpa using h1 ho
  · simpa using h2 ho

/-- The Mains Watch's own move at an accepted edge: PRESENT is entered with the motor at a standstill (R86, R92). -/
theorem enterPresent_motorOk (h : s.ost.motor = .stopped) (c : LineClass) : MotorOk (enterPresent s c) := by
  have hmotor : (enterPresent s c).ost.motor = .stopped := by simpa using h
  refine ⟨fun hw => ?_, fun _ => hmotor, fun _ hm => absurd (hm.symm.trans hmotor) (by decide)⟩
  unfold enterPresent at hw
  dsimp only at hw
  split at hw
  case isTrue => simp at hw
  case isFalse hno => exact absurd hw hno

theorem motorOk_of_dark (hm : t.mwt.state ≠ .present) (hmotor : t.ost.motor = .stopped) : MotorOk t :=
  (loadsOk_of_dark hm hmotor).motorOk

theorem settleCrossing_motorOk (h : MotorOk s) (interval : Nat) : MotorOk (settleCrossing s interval) := by
  have judge : s.mwt.state ≠ .present → ∀ sum, MotorOk (judgeBlock s sum) := fun hn sum => by
    unfold judgeBlock
    split
    · exact enterPresent_motorOk (h.stopped hn) _
    · split
      · exact motorOk_of_dark (by simp [enterLineFault]) (by simpa using h.stopped hn)
      · exact motorOk_of_dark hn (h.stopped hn)
  have block : s.mwt.state ≠ .present → MotorOk (blockCrossing s interval) := fun hn => by
    unfold blockCrossing
    split
    · exact motorOk_of_dark hn (h.stopped hn)
    · split
      · exact motorOk_of_dark hn (h.stopped hn)
      · exact judge hn _
  unfold settleCrossing
  split
  case h_1 hs => exact block (by rw [hs]; decide)
  case h_2 hs => exact block (by rw [hs]; decide)
  case h_3 => exact h
  case h_4 hs =>
    have hmotor := h.stopped (by rw [hs]; decide)
    unfold lossCrossing
    split
    · exact h
    · split
      · exact motorOk_of_dark (by simp) hmotor
      · exact motorOk_of_dark (by simp) hmotor
  case h_5 hs =>
    have hmotor := h.stopped (by rw [hs]; decide)
    refine motorOk_ite (enterPresent_motorOk ?_ _) (motorOk_ite (motorOk_of_dark ?_ hmotor) (motorOk_of_dark ?_ hmotor))
    · exact hmotor
    · simp [enterLineFault]
    · simp [hs]

/-! ## The loss warning (R81) -/

@[simp] theorem lose_motor (o : Output) (opens : Bool) (half : Nat) : (o.lose opens half).motor = .stopped := by
  unfold Output.lose
  split
  case isTrue h =>
    dsimp only
    split
    · exact (openRelay_motor _).trans h
    · split <;> exact h
  case isFalse =>
    dsimp only
    split
    · exact openRelay_motor _
    · split <;> rfl

theorem raiseWarning_dark (opens : Bool) :
    (raiseWarning s opens).mwt.state = s.mwt.state ∧ (raiseWarning s opens).ost.motor = .stopped := by
  simp [raiseWarning]

/-- LOSS_WARNING is entered with the motor stopped: by the warning now raised, or since the one outstanding. -/
theorem enterLossWarning_loadsOk (h : s.mwt.warning = true → s.ost.motor = .stopped) (opens : Bool) :
    LoadsOk (enterLossWarning s opens) := by
  unfold enterLossWarning
  dsimp only
  split
  case isTrue hw => exact loadsOk_of_dark (by simp) (h hw)
  case isFalse =>
    obtain ⟨hm, hmotor⟩ := raiseWarning_dark (s := s.setMwt { s.mwt with state := .lossWarning }) opens
    exact loadsOk_of_dark (by rw [hm]; simp) hmotor

theorem LoadsOk.stands (h : LoadsOk s) (hw : s.mwt.warning = true) : s.ost.motor = .stopped := h.stopped (h.warned hw)

theorem tripCounts_state (m : Mains) : m.tripCounts.state = m.state ∧ m.tripCounts.warning = m.warning := by
  unfold Mains.tripCounts
  split <;> exact ⟨rfl, rfl⟩

theorem railTripped_loadsOk (h : LoadsOk s) : LoadsOk (railTripped s) := by
  obtain ⟨hstate, hwarn⟩ := tripCounts_state s.mwt
  unfold railTripped
  dsimp only
  split
  · exact h.same rfl
  · split
    · exact h.same (by simp [coverOf, hstate, hwarn])
    · refine enterLossWarning_loadsOk (fun hw => ?_) _
      exact h.stands (by simpa [hwarn] using hw)

theorem missingCrossing_loadsOk (h : LoadsOk s) : LoadsOk (missingCrossing s) := by
  unfold missingCrossing
  split
  · refine enterLossWarning_loadsOk (fun hw => ?_) _
    exact h.stands hw
  · exact h.same rfl
  · exact h.same rfl
  · exact h.same rfl
  · exact h

/-! ## What the line makes of the steps -/

theorem coverIf_keeps (s : State) (b : Bool) (k : CoverStep) : Keeps s (coverIf s b k) := by
  unfold coverIf
  split
  · exact setStep_keeps s k .cover fun _ _ => .inl rfl
  · exact Keeps.refl s

/-- A state that keeps another's loads but for what the property does not look at. -/
theorem LoadsOk.isolated (h : LoadsOk s) (c : IsoCause) : LoadsOk (isolate s c) := by
  have h1 : LoadsOk (s.setFsu { s.fsu with isolated := some c }) := h.same rfl
  unfold isolate
  split
  · exact h
  · exact h1
  · have h2 := ((h1.keeps (coverIf_keeps _ true .start)).keeps (coverIf_keeps _ true .stage1)).keeps
      (coverIf_keeps _ true .stage2)
    exact h2.same rfl

theorem failStep_keeps (s : State) (b : Bool) (k : CoverStep) : Keeps s (failStep s b k) := by
  unfold failStep
  split
  case isTrue h =>
    refine (setStep_keeps s k .free fun _ hc => ?_).trans (unmarkStep_keeps _ k)
    rw [of_decide_eq_true (Bool.and_eq_true_iff.mp h).2] at hc
    exact absurd hc (by simp)
  case isFalse => exact Keeps.refl s

theorem txFailed_keeps (s : State) (n : Notice) : Keeps s (txFailed s n) := by
  have h3 : Keeps s (failStep (failStep (failStep s n.annStart .start) n.annStage1 .stage1) n.annStage2 .stage2) :=
    ((failStep_keeps _ _ _).trans (failStep_keeps _ _ _)).trans (failStep_keeps _ _ _)
  have hhand : ∀ v : State, Keeps v (handNotice v false) := fun v => keeps_of_steps (Safety.handNotice_settled v false) (by simp)
  exact keeps_ite (Keeps.refl s) (keeps_ite h3 (h3.trans (hhand _)))

theorem slotFails_loadsOk (h : LoadsOk s) : LoadsOk (slotFails s) := by
  unfold slotFails
  extract_lets isolates sent p s1 s2
  have h1 : LoadsOk s1 := h.same rfl
  have h2 : LoadsOk s2 := by
    simp only [s2]
    split
    · exact h1.keeps (txFailed_keeps _ _)
    · exact h1
  exact loadsOk_ite (h2.isolated _) h2

theorem collision_loadsOk (h : LoadsOk s) : LoadsOk (collision s) := by
  have h1 : LoadsOk (s.setPlp s.plp.collide) := h.same rfl
  exact loadsOk_ite (loadsOk_ite (slotFails_loadsOk h1) (h1.same rfl)) h

theorem noticeSent_loadsOk (h : LoadsOk s) : LoadsOk (noticeSent s) := by
  have h1 : LoadsOk (s.setPlp s.plp.frameSent) := h.same rfl
  have h2 : LoadsOk (coverAnnounced (s.setPlp s.plp.frameSent)) := by
    unfold coverAnnounced
    split
    · exact ((h1.keeps (coverIf_keeps _ _ .start)).keeps (coverIf_keeps _ _ .stage1)).keeps (coverIf_keeps _ _ .stage2)
    · exact h1
  exact loadsOk_ite (h2.frame (by simp) (by simp) (by simp) (by simp)) h

theorem stuckLow_loadsOk (h : LoadsOk s) : LoadsOk (stuckLow s) := by
  unfold stuckLow
  split
  · exact h
  · refine (LoadsOk.isolated (s := s.setPlp _) ?_ .lineFault).same rfl
    exact h.same rfl

theorem strapEnd_loadsOk (h : LoadsOk s) (n : Nat) : LoadsOk (strapEnd s n) := by
  have done : ∀ levels, LoadsOk (strapDone s levels) := fun levels => by
    unfold strapDone
    extract_lets s1 seeded s2 s3
    have h2 : LoadsOk s2 := h.same rfl
    have h3 : LoadsOk s3 := loadsOk_ite (h2.same rfl) h2
    exact loadsOk_ite (h3.isolated _) h3
  have pairEnd : ∀ level, LoadsOk (strapPairEnd s level) := fun level => loadsOk_ite (h.same rfl) (done _)
  unfold strapEnd
  exact loadsOk_ite (loadsOk_ite (pairEnd _) (loadsOk_ite (h.same rfl) (pairEnd _))) h

/-! ## Every event -/

theorem mainActs_loadsOk (h : LoadsOk s) (hu : MainActs s u) : LoadsOk u := by
  cases hu with
  | strap n _ => exact strapEnd_loadsOk h n
  | edge us _ =>
    have hacc : MotorOk (acceptEdge s us) := ⟨h.warned, h.stopped, h.motorOk.started⟩
    exact crossing_loadsOk (settleCrossing_motorOk hacc _)
  | window _ =>
    unfold startWindowEnd
    split
    case isTrue hw =>
      have hm : s.ost.motor = .starting := by
        simp only [Bool.and_eq_true, decide_eq_true_eq] at hw
        exact hw.1.1
      have hcov := drawsNothing_eq_false.mp h.covered
      refine ⟨h.warned, fun hn => absurd (hm.symm.trans (h.stopped hn)) (by decide), drawsNothing_eq_false.mpr fun hp => ?_⟩
      exact ⟨(hcov hp).1, (hcov hp).2.1, fun hx => by cases hx⟩
    case isFalse => exact h
  | missing _ => exact missingCrossing_loadsOk h
  | trip => exact railTripped_loadsOk h
  | collision _ => exact collision_loadsOk h
  | sent _ => exact noticeSent_loadsOk h
  | stuck => exact stuckLow_loadsOk h
  | settle => exact h.same rfl
  | listenIn => exact h.same rfl
  | _ => exact h.frame (by simp) (by simp) (by simp) (by simp)

end Sys2Proof.Machine
end

section
/-! PROOFS. Every step keeps the loads covered: the events without settling, the host's commands, resets and the microsecond;
and the step itself. -/

namespace Sys2Proof.Machine

open Safety (EnergizedOk Settled)

variable {s t u : State}

/-! ## The loads -/

@[simp] theorem drop_load_off (o : Output) : o.drop.stage1.on = false ∧ o.drop.stage2.on = false := ⟨rfl, rfl⟩

/-- A load that stops drawing has nothing to cover. -/
theorem railDropEnd_loadsOk (h : LoadsOk s) : LoadsOk (railDropEnd s) := by
  unfold railDropEnd
  split
  case isTrue =>
    have hcov := drawsNothing_eq_false.mp h.covered
    refine ⟨h.warned, fun hn => (drop_motor _).trans (h.stopped hn), drawsNothing_eq_false.mpr fun hp => ⟨?_, ?_, ?_⟩⟩
    · simp
    · simp
    · intro hm
      exact (hcov hp).2.2 ((drop_motor _).symm.trans hm)
  case isFalse => exact h

theorem quietActs_loadsOk (h : LoadsOk s) (hu : QuietActs s u) : LoadsOk u := by
  cases hu with
  | railDrop => exact railDropEnd_loadsOk h
  | noise us => exact h.same rfl
  | railHealthy => exact loadsOk_ite (h.same rfl) h
  | programBegin | eraseBegin | suspendRequest | suspendEffect => exact h.same rfl
  | holdoverFails => exact loadsOk_ite h (h.same rfl)
  | holdoverRises => exact loadsOk_ite h (h.same rfl)
  | _ => exact h.frame (by simp) (by simp) (by simp) (by simp)

/-- A taken command leaves the loads; SETUP, whose units a motor at a standstill does not draw, finds it so (R21). -/
theorem hostTakes_loadsOk (h : LoadsOk s) (hset : Unset s) (ht : HostTakes s t) : LoadsOk t := by
  cases ht with
  | setup x hs =>
    obtain ⟨-, hmotor⟩ := hset hs
    have hcov := drawsNothing_eq_false.mp h.covered
    have applied : LoadsOk (applySettings s x) := by
      unfold applySettings
      extract_lets s1 link s2 unit s3
      have h3 : LoadsOk s3 := by
        refine ⟨h.warned, h.stopped, drawsNothing_eq_false.mpr fun hp => ⟨(hcov hp).1, (hcov hp).2.1, fun hm => ?_⟩⟩
        exact absurd (hmotor.symm.trans hm) (by decide)
      exact loadsOk_ite (h3.isolated _) h3
    exact applied.frame (by simp) (by simp) (by simp) (by simp)
  | _ => exact h.frame (by simp) (by simp) (by simp) (by simp)

theorem loadsOk_of_reset (hm : s.mwt = .reset) (ho : s.ost = .reset) : LoadsOk s :=
  loadsOk_of_dark (by rw [hm]; decide) (by rw [ho]; rfl)

theorem endReset_loadsOk (h : LoadsOk s) (b : Bool) : LoadsOk (endReset s b) := by
  have h1 : LoadsOk (if s.hdm.clockLost then raiseFault s else s) := loadsOk_ite (h.same rfl) h
  exact loadsOk_ite ((railTripped_loadsOk h1).keeps (finish_keeps _ _ _)) h1

theorem happens_loadsOk (h : LoadsOk s) (hset : Unset s) (ht : Happens s t) : LoadsOk t := by
  cases ht with
  | nothing => exact h
  | answer q _ => exact h.same rfl
  | taken q hx _ hu st pl =>
    have hq : LoadsOk (s.setPnl q) := h.same rfl
    have hsetq : Unset (s.setPnl q) := fun hd => by
      obtain ⟨hc, hm⟩ := hset (hx.1.symm.trans hd)
      exact ⟨hc.frame rfl rfl, hm⟩
    have hf := (hostTakes_loadsOk hq hsetq hu).keeps (finish_keeps false (s.setPnl q) _)
    exact hf.same rfl
  | main ev hu => exact (mainActs_loadsOk h hu).keeps (finish_keeps ev s _)
  | quiet hu => exact quietActs_loadsOk h hu
  | mainReset inputs => exact endReset_loadsOk (loadsOk_of_reset (by simp [holdReset]) (by simp [holdReset])) _
  | hostReset inputs =>
    exact loadsOk_ite (endReset_loadsOk (loadsOk_of_reset (by simp [holdReset]) (by simp [holdReset])) _) h
  | mainFails => exact loadsOk_ite (loadsOk_of_reset (by simp) (by simp)) h

theorem tick_loadsOk (h : LoadsOk s) : LoadsOk (tick s) := by
  unfold tick
  dsimp only
  split
  · exact h.same rfl
  · exact h.same rfl

/-! ## Before SETUP -/

theorem link_setupDone (h : t.pnl.link = s.pnl.link) : t.pnl.setupDone = s.pnl.setupDone := (Panel.link_inj h).1

theorem motorRun_of_config (h : s.csq.state = .config) : motorRun s = false := by
  simp [motorRun, h]

theorem crossMotorStop_stands (h : s.ost.motor = .stopped) : (crossMotorStop s).ost.motor = .stopped := by
  unfold crossMotorStop
  split
  · exact openRelay_motor _
  · exact h

theorem railDropEnd_motor (s : State) : (railDropEnd s).ost.motor = s.ost.motor := by
  unfold railDropEnd
  split
  · exact drop_motor _
  · rfl

/-- In CONFIG no crossing starts the motor (R74). -/
theorem crossing_stands (hc : Configuring s) (hm : s.ost.motor = .stopped) : (crossing s).ost.motor = .stopped := by
  have hbefore : (crossMotorStop (advancePosition (railDropEnd s))).ost.motor = .stopped :=
    crossMotorStop_stands (((load_motor (advancePosition_load _)).trans (railDropEnd_motor s)).trans hm)
  have hconfig : (crossStages (crossMotorStop (advancePosition (railDropEnd s))) (atBoundary (railDropEnd s))).csq.state = .config := by
    have hstate : (crossing s).csq.state = .config := by simpa using hc.state
    simpa [crossing_eq] using hstate
  rw [crossing_eq]
  unfold crossMotorStart
  rw [if_neg (by simp [motorStarts, motorRun_of_config hconfig])]
  exact (crossStages_motor _ _).trans hbefore

theorem enterLossWarning_stands (h : s.ost.motor = .stopped) (opens : Bool) :
    (enterLossWarning s opens).ost.motor = .stopped := by
  unfold enterLossWarning
  dsimp only
  split
  · exact h
  · exact (raiseWarning_dark opens).2

theorem missingCrossing_stands (h : s.ost.motor = .stopped) : (missingCrossing s).ost.motor = .stopped := by
  unfold missingCrossing
  split
  · refine enterLossWarning_stands ?_ _
    exact h
  all_goals exact h

theorem railTripped_stands (h : s.ost.motor = .stopped) : (railTripped s).ost.motor = .stopped := by
  unfold railTripped
  dsimp only
  split
  · exact h
  · split
    · exact h
    · refine enterLossWarning_stands ?_ _
      exact h

/-- In CONFIG no motor turns, and no event starts one (R21, R74). -/
theorem mainActs_stands (hc : Configuring s) (hm : s.ost.motor = .stopped) (hu : MainActs s u) : u.ost.motor = .stopped := by
  cases hu with
  | edge us _ =>
    have hacc : Configuring (acceptEdge s us) := hc.frame rfl rfl
    exact crossing_stands (settleCrossing_configuring hacc _) (by simpa using hm)
  | window _ =>
    unfold startWindowEnd
    rw [if_neg (by simp [hm])]
    exact hm
  | missing _ => exact missingCrossing_stands hm
  | trip => exact railTripped_stands hm
  | doorOpens => exact (load_motor (doorOpens_load s)).trans hm
  | second => exact (load_motor (secondBody_load s)).trans hm
  | exh e => exact (load_motor (exhEnds_load s e)).trans hm
  | doorCloses => exact hm
  | _ => simpa using hm

theorem quietActs_stands (hm : s.ost.motor = .stopped) (hu : QuietActs s u) : u.ost.motor = .stopped := by
  cases hu with
  | railDrop => exact (railDropEnd_motor s).trans hm
  | coast | vane => exact hm
  | holdoverFails => unfold holdoverFails; split <;> exact hm
  | holdoverRises => unfold holdoverRises; split <;> exact hm
  | programBegin | eraseBegin | suspendRequest | suspendEffect => exact hm
  | _ => simpa using hm

/-- Two states that look alike to the sequencer, the planner and the motor are before SETUP alike. -/
theorem Unset.frame (h : Unset s) (hl : t.pnl.setupDone = s.pnl.setupDone) (hc : t.csq = s.csq) (hr : t.rpl = s.rpl)
    (hm : t.ost.motor = s.ost.motor) : Unset t := fun hd => by
  obtain ⟨hconf, hmotor⟩ := h (hl.symm.trans hd)
  exact ⟨hconf.frame hc hr, hm.trans hmotor⟩

theorem unset_ite {p : Prop} [Decidable p] (ht : Unset t) (hu : Unset u) : Unset (if p then t else u) := by
  split
  · exact ht
  · exact hu

theorem finish_unset (ev : Bool) (h : Unset u) : Unset (finish ev s u) := by
  have hset := Safety.finish_settled ev s u
  have e : Safety.blur (finish ev s u) = Safety.blur u := hset
  exact h.frame (link_setupDone (finish_link u ev s)) hset.csq hset.rpl (congrArg (·.ost.motor) e)

/-- Of the commands only SETUP is taken before SETUP, and a RESET, which leaves CONFIG as it is (R21). -/
theorem hostTakes_unset (h : Unset s) (ht : HostTakes s t) : Unset t := by
  have started : s.csq.state ≠ .config → s.pnl.setupDone = true := fun hne => by
    refine Classical.byContradiction fun hno => ?_
    exact hne (h (Bool.not_eq_true _ ▸ hno)).1.state
  have taken : t.pnl.setupDone = true → Unset t := fun hyes hno => absurd (hyes.symm.trans hno) (by decide)
  cases ht with
  | setup x _ =>
    refine taken ?_
    have applied : (applySettings s x).pnl.setupDone = true := by
      unfold applySettings
      dsimp only
      split
      · exact link_setupDone (isolate_link _ _)
      · rfl
    have leaves : ∀ v : State, (leaveConfig v).pnl.link = v.pnl.link := fun v => by
      unfold leaveConfig
      split <;> simp
    exact (link_setupDone (leaves _)).trans applied
  | start d hs => exact taken ((link_setupDone (takeStart_link s d)).trans (started fun hc => by rw [hc] at hs; cases hs))
  | pause hs => exact taken ((link_setupDone (enterPaused_link s)).trans (started fun hc => by rw [hc] at hs; cases hs))
  | resume st hs _ => exact taken ((link_setupDone (takeContinue_link s st)).trans (started (by rw [hs]; decide)))
  | cancel hs =>
    refine taken ((link_setupDone (takeCancel_link s)).trans (started fun hc => ?_))
    rw [hc] at hs
    rcases hs with hs | hs <;> cases hs
  | confirm hs => exact taken ((link_setupDone (takeConfirm_link s)).trans (started (by rw [hs]; decide)))
  | decline hs => exact taken ((link_setupDone (takeDecline_link s)).trans (started (by rw [hs]; decide)))
  | force r hs _ => exact taken ((link_setupDone (takeForce_link s r)).trans (started (by rw [hs]; decide)))
  | reset _ =>
    intro hd
    have hreq : ∀ q : Sequencer, (requestRecord ((clearEnable s).setCsq q) .finish .hostReset).pnl.setupDone =
        s.pnl.setupDone := fun q =>
      (link_setupDone (s := (clearEnable s).setCsq q) (requestRecord_link _ _ _)).trans rfl
    have hlink : (takeReset (clearEnable s)).pnl.setupDone = s.pnl.setupDone := by
      unfold takeReset
      dsimp only
      split
      · exact hreq _
      · rfl
    obtain ⟨hc, hm⟩ := h (hlink.symm.trans hd)
    refine ⟨?_, by simpa using hm⟩
    have hclear : Configuring ((clearEnable s).setCsq
        { (clearEnable s).csq with endReason := .hostReset, endAwaited := true }) := hc.congr rfl rfl
    have h1 := configuring_ite (p := ((clearEnable s).csq.cyc.phase.active && (clearEnable s).csq.state != .planning) = true)
      (requestRecord_configuring hclear .finish .hostReset) (hc.frame (t := clearEnable s) rfl rfl)
    exact h1.frame rfl rfl

theorem unset_of_reset (hc : s.csq = .reset) (hr : s.rpl = .reset) (ho : s.ost = .reset) : Unset s := fun _ =>
  ⟨⟨by rw [hc]; rfl, by rw [hr]; decide⟩, by rw [ho]; rfl⟩

theorem mainActs_unset (h : Unset s) (hu : MainActs s u) : Unset u := fun hd => by
  obtain ⟨hc, hm⟩ := h ((link_setupDone (mainActs_link hu)).symm.trans hd)
  exact ⟨mainActs_configuring hc hu, mainActs_stands hc hm hu⟩

theorem endReset_unset (h : Unset s) (b : Bool) : Unset (endReset s b) := by
  have h1 : Unset (if s.hdm.clockLost then raiseFault s else s) := unset_ite (h.frame rfl rfl rfl rfl) h
  exact unset_ite (finish_unset false (mainActs_unset h1 .trip)) h1

theorem happens_unset (h : Unset s) (ht : Happens s t) : Unset t := by
  cases ht with
  | nothing => exact h
  | answer q hx => exact h.frame hx.1 rfl rfl rfl
  | taken q hx _ hu st pl =>
    have hq : Unset (s.setPnl q) := h.frame hx.1 rfl rfl rfl
    have hf : Unset (finish false (s.setPnl q) _) := finish_unset false (hostTakes_unset hq hu)
    exact hf.frame rfl rfl rfl rfl
  | main ev hu => exact finish_unset ev (mainActs_unset h hu)
  | quiet hu =>
    intro hd
    obtain ⟨hc, hm⟩ := h ((link_setupDone (quietActs_link hu)).symm.trans hd)
    exact ⟨quietActs_configuring hc hu, quietActs_stands hm hu⟩
  | mainReset inputs => exact endReset_unset (unset_of_reset (by simp [holdReset]) (by simp [holdReset]) (by simp [holdReset])) _
  | hostReset inputs =>
    exact unset_ite
      (endReset_unset (unset_of_reset (by simp [holdReset]) (by simp [holdReset]) (by simp [holdReset])) _) h
  | mainFails => exact unset_ite (unset_of_reset (by simp) (by simp) (by simp)) h

theorem tick_unset (h : Unset s) : Unset (tick s) := fun hd => by
  have hpnl : (tick s).pnl = s.pnl := by
    unfold tick
    dsimp only
    split <;> rfl
  obtain ⟨hc, hm⟩ := h (hpnl ▸ hd)
  unfold tick
  dsimp only
  split
  · exact ⟨hc.congr rfl rfl, hm⟩
  · exact ⟨hc.congr rfl rfl, hm⟩

theorem step_covered (hu : Unset s) (hl : LoadsOk s) (hs : step s = .next t) : Unset t ∧ LoadsOk t := by
  rcases step_cases hs with ⟨-, rfl⟩ | ⟨rest, ht⟩
  · exact ⟨tick_unset hu, tick_loadsOk hl⟩
  · have hu' : Unset { s with pending := rest } := hu.frame rfl rfl rfl rfl
    have hl' : LoadsOk { s with pending := rest } := hl.same rfl
    exact ⟨happens_unset hu' ht, happens_loadsOk hl' hu' ht⟩

end Sys2Proof.Machine

namespace Sys2Proof.Proofs

open Sys2Proof.Machine Sys2Proof.Safety

/-- Settles O57: the loads are covered, before SETUP nothing runs, and every event and microsecond keeps both. -/
theorem coverKept : Obligations.CoverKept := by
  intro s t h hstep
  obtain ⟨hu, hl⟩ := (energizedOk_iff s).mp h
  obtain ⟨hu', hl'⟩ := step_covered hu hl hstep
  exact (energizedOk_iff t).mpr ⟨hu', hl'⟩

end Sys2Proof.Proofs
end

section
/-! PROOFS. The frames of the host (R183, R184, R190, R194): the command that a frame's bytes carry, what every frame comes to
before its command's own rule, and where the cycle commands are refused. -/

namespace Sys2Proof.Machine

variable {s : State}

/-! ## The bytes of a frame -/

theorem commandOfFrame_wf (bs : List Byte) : (commandOfFrame bs).wf = true := by
  unfold commandOfFrame
  split
  · rfl
  case h_2 code tail =>
    by_cases hfill : code = 0xFF
    · rw [if_pos hfill]
      rfl
    rw [if_neg hfill]
    by_cases hcode : code ∈ commandCodes
    · simp only [commandCodes, List.mem_cons, List.not_mem_nil, or_false] at hcode
      rcases hcode with rfl | rfl | rfl | rfl | rfl | rfl | rfl | rfl | rfl | rfl | rfl | rfl | rfl | rfl | rfl | rfl <;> rfl
    · have hne : ∀ c ∈ commandCodes, code ≠ c := fun c hc he => hcode (he ▸ hc)
      simp only [commandCodes, List.forall_mem_cons] at hne
      simp_all [Instr.wf, isUnknownCode]

/-- A code of the table that names no command (R184). -/
theorem commandOfFrame_unknown {code : Byte} (tail : Tail) (h : code ∉ commandCodes) (hfill : code ≠ 0xFF) :
    commandOfFrame (code :: tail) = .unknownCommand code tail := by
  have hne : ∀ c ∈ commandCodes, code ≠ c := fun c hc he => h (he ▸ hc)
  simp only [commandCodes, List.forall_mem_cons] at hne
  unfold commandOfFrame
  simp_all

theorem commandOfFrame_fill (tail : Tail) : commandOfFrame (0xFF :: tail) = .emptyFrame (tail.length + 1) := rfl

theorem frameOfCommand_commandOfFrame {bs : List Byte} (h : bs.head? ≠ some 0xFF) :
    frameOfCommand (commandOfFrame bs) = some bs := by
  cases bs with
  | nil => rfl
  | cons code tail =>
    have hfill : code ≠ 0xFF := fun he => h (he ▸ rfl)
    by_cases hcode : code ∈ commandCodes
    · simp only [commandCodes, List.mem_cons, List.not_mem_nil, or_false] at hcode
      rcases hcode with rfl | rfl | rfl | rfl | rfl | rfl | rfl | rfl | rfl | rfl | rfl | rfl | rfl | rfl | rfl | rfl <;> rfl
    · rw [commandOfFrame_unknown tail hcode hfill]
      rfl

/-! ## The answer of a frame -/

/-- An answer to a frame as opened is the answered state of the statements (R183, R190). -/
theorem respond_openFrame (s : State) (tail : Tail) (keeps : Bool) (st : Status) (payload : List Byte) :
    respond (openFrame s tail keeps) st payload = Safety.answered s tail.length keeps st payload := by
  cases keeps <;> rfl

theorem respond_openFrame_cons (s : State) (l : Byte) (p : List Byte) (keeps : Bool) (st : Status) (payload : List Byte) :
    respond (openFrame s (l :: p) keeps) st payload = Safety.answered s (p.length + 1) keeps st payload :=
  respond_openFrame s (l :: p) keeps st payload

/-- A known command is judged by `command` with its own length and rule (R184). -/
theorem exec_known {code : Byte} (h : code ∈ commandCodes) : ∃ body : State → State → List Byte → State, ∀ tail s,
    exec (commandOfFrame (code :: tail)) s =
      command s tail (Safety.payloadLength code) (code = 0x20 || code = 0x21) (body s) := by
  simp only [commandCodes, List.mem_cons, List.not_mem_nil, or_false] at h
  rcases h with rfl | rfl | rfl | rfl | rfl | rfl | rfl | rfl | rfl | rfl | rfl | rfl | rfl | rfl | rfl | rfl
  all_goals exact ⟨_, fun _ _ => rfl⟩

theorem framePayload_carries {tail : Tail} {n : Nat} (h : Safety.carries tail n) : ∃ p, framePayload n tail = some p := by
  obtain ⟨l, p, rfl, hl, hp⟩ := h
  exact ⟨p, by simp [framePayload, hl, hp]⟩

theorem framePayload_not_carries {tail : Tail} {n : Nat} (h : ¬ Safety.carries tail n) : framePayload n tail = none := by
  cases tail with
  | nil => rfl
  | cons l p =>
    simp only [framePayload]
    rw [if_neg]
    intro hlp
    simp only [Bool.and_eq_true, decide_eq_true_eq] at hlp
    exact h ⟨l, p, rfl, hlp.1, hlp.2⟩

/-! ## What the data output carries -/

theorem length_clockOut (r : Option Response) (n : Nat) : (clockOut r n).length = n := by
  cases r <;> simp [clockOut]

theorem clockOut_none_getElem {n i : Nat} (h : i < n) : (clockOut none n)[i]? = some 0xFF := by
  simp [clockOut, h]

/-- Within a response's bytes the output carries them, and the fill value after them (R183). -/
theorem clockOut_some_getElem (r : Response) {n i : Nat} (h : i < n) :
    (clockOut (some r) n)[i]? = (responseBytes r ++ List.replicate n 0xFF)[i]? := by
  simp [clockOut, h]

theorem clockOut_payload (st : Status) (p : List Byte) {n i : Nat} (hi : i < p.length) (h : i + 2 < n) :
    (clockOut (some ⟨st, p⟩) n)[i + 2]? = p[i]? := by
  rw [clockOut_some_getElem _ h, responseBytes, List.cons_append, List.cons_append, List.getElem?_cons_succ,
    List.getElem?_cons_succ, List.getElem?_append_left hi]

theorem clockOut_fill (st : Status) (p : List Byte) {n i : Nat} (hi : p.length ≤ i) (h : i + 2 < n) :
    (clockOut (some ⟨st, p⟩) n)[i + 2]? = some 0xFF := by
  rw [clockOut_some_getElem _ h, responseBytes, List.cons_append, List.cons_append, List.getElem?_cons_succ,
    List.getElem?_cons_succ, List.getElem?_append_right hi, List.getElem?_replicate, if_pos (by omega)]

/-! ## Refusals -/

theorem startable_iff {st : CycleState} : startable st = true ↔ st = .idle ∨ st = .done ∨ st = .abandoned := by
  cases st <;> simp [startable]

theorem runs_iff {st : CycleState} : st.runs = true ↔ st = .heat ∨ st = .extend ∨ st = .cool ∨ st = .guard := by
  cases st <;> simp [CycleState.runs]

section
variable {l : Byte} {p : List Byte} (hpow : s.mainPowered = true) (hres : s.pnl.resetPending = false)
include hpow hres

/-- A command judged by its own rule and refused there answers, and changes nothing else. -/
theorem command_answers {n : Nat} {body : State → List Byte → State} {st : Status} {payload : List Byte}
    (hl : l.toNat = n) (hp : p.length = n)
    (hbody : body (openFrame s (l :: p) false) p = respond (openFrame s (l :: p) false) st payload) :
    command s (l :: p) n false body = .next (Safety.answered s (n + 1) false st payload) := by
  rw [command_judged false body hpow hl hp hres, hbody, respond_openFrame_cons, hp]

end

end Sys2Proof.Machine

namespace Sys2Proof.Proofs

open Sys2Proof.Machine Sys2Proof.Safety

/-- Settles O10: each code of the table gives its own command, and every other byte an unknown or an empty one. -/
theorem frameOfBytes : Obligations.FrameOfBytes := by
  intro bs
  refine ⟨commandOfFrame_wf bs, frameOfCommand_commandOfFrame, fun h => ?_⟩
  cases bs with
  | nil => cases h
  | cons code tail =>
    cases h
    exact commandOfFrame_fill tail

/-- Settles O11: the fields are read off the bytes of each payload. -/
theorem payloadLayouts : Obligations.PayloadLayouts := by
  refine ⟨?_, ?_⟩
  · intro b0 b1 b2 b3 b4 b5 b6 b7 b8 b9 b10 b11 b12
    simp [settingsOfBytes, setupFaults, byteAt, fieldAt, leNat]
  · intro d0 d1 d2 d3 d4 d5 d6 d7 d8 d9 d10 d11 d12 d13 d14 d15 d16 d17 d18 d19 d20 d21 d22
    simp [descriptorOfBytes, fieldAt, leNat]

/-- Settles O9: the frame is opened, its length and a pending reset are judged, and the output is the buffer's bytes. -/
theorem framesAnswered : Obligations.FramesAnswered := by
  refine ⟨fun s hpow => ⟨fun n => ?_, fun code tail hcode hfill => ⟨commandOfFrame_unknown tail hcode hfill, ?_⟩,
    fun code tail hcode hcar => ?_, fun code tail hcode hcar hres => ?_⟩,
    fun n i h => clockOut_none_getElem h, fun n => length_clockOut _ n, fun st p n => ⟨length_clockOut _ n, ?_, ?_,
      fun i hi h => clockOut_payload st p hi h, fun i hi h => clockOut_fill st p hi h⟩⟩
  · show execEmptyFrame n s = _
    rw [execEmptyFrame, if_pos hpow]
    rfl
  · show execUnknownCommand code tail s = _
    have hunknown : isUnknownCode code = true := by
      simpa [isUnknownCode, hcode] using hfill
    rw [execUnknownCommand, if_pos (by rw [hpow, hunknown]; rfl), respond_openFrame]
  · obtain ⟨body, hexec⟩ := exec_known hcode
    rw [hexec, command, if_pos hpow, framePayload_not_carries hcar]
    exact congrArg Host.Outcome.next (respond_openFrame _ _ _ _ _)
  · obtain ⟨body, hexec⟩ := exec_known hcode
    obtain ⟨p, hp⟩ := framePayload_carries hcar
    rw [hexec, command, if_pos hpow, hp]
    exact congrArg Host.Outcome.next ((if_pos hres).trans (respond_openFrame _ _ _ _ _))
  · intro h
    rw [clockOut_some_getElem _ h]
    rfl
  · intro h
    rw [clockOut_some_getElem _ h]
    rfl

/-- Settles O13: each refused command's own rule answers and does nothing more. -/
theorem commandsRefused : Obligations.CommandsRefused := by
  refine ⟨fun s l p hpow hl hp hres => ⟨fun hset => ?_, fun hset hscan => ?_, fun hset hscan hbad => ?_⟩,
    fun s hpow hres => ⟨fun l p hl hp => ⟨fun h1 h2 h3 => ?_, fun hst hdoor => ?_⟩, fun h1 h2 h3 h4 => ⟨?_, fun h5 => ?_⟩,
      fun h => ?_, fun h hdoor => ?_, fun h => ⟨?_, ?_⟩, fun h hdoor => ?_, fun h => ?_, fun h hdoor => ?_⟩⟩
  · exact command_answers hpow hres hl hp (if_pos hset)
  · refine command_answers (body := setupBody) hpow hres hl hp ?_
    have hscan' : (openFrame s (l :: p) false).pjr.scanDone = false := hscan
    exact (if_neg (Bool.eq_false_iff.mp hset)).trans (if_pos (by simp [hscan']))
  · refine command_answers (body := setupBody) hpow hres hl hp ?_
    have hany : (setupFaults p).any id = true := List.any_eq_true.mpr ⟨true, hbad, rfl⟩
    have hscan' : (openFrame s (l :: p) false).pjr.scanDone = true := hscan
    exact (if_neg (Bool.eq_false_iff.mp hset)).trans ((if_neg (by simp [hscan'])).trans (if_pos hany))
  · refine command_answers (body := startBody) hpow hres hl hp (if_neg fun hs => ?_)
    rcases startable_iff.mp hs with h | h | h
    · exact h1 h
    · exact h2 h
    · exact h3 h
  · refine command_answers (body := startBody) hpow hres hl hp ?_
    exact (if_pos (startable_iff.mpr hst)).trans (if_pos hdoor)
  · refine command_answers (l := 0) (p := []) (body := pauseBody) hpow hres rfl rfl (if_neg fun hs => ?_)
    rcases runs_iff.mp hs with h | h | h | h
    · exact h1 h
    · exact h2 h
    · exact h3 h
    · exact h4 h
  · refine command_answers (l := 0) (p := []) (body := cancelBody) hpow hres rfl rfl (if_neg fun hs => ?_)
    rcases Bool.or_eq_true_iff.mp hs with hs | hs
    · rcases runs_iff.mp hs with h | h | h | h
      · exact h1 h
      · exact h2 h
      · exact h3 h
      · exact h4 h
    · exact h5 (of_decide_eq_true hs)
  · exact command_answers (l := 0) (p := []) (body := continueBody) hpow hres rfl rfl (if_neg h)
  · exact command_answers (l := 0) (p := []) (body := continueBody) hpow hres rfl rfl ((if_pos h).trans (if_pos hdoor))
  · exact command_answers (l := 0) (p := []) (body := confirmBody) hpow hres rfl rfl (if_neg h)
  · exact command_answers (l := 0) (p := []) (body := declineBody) hpow hres rfl rfl (if_neg h)
  · exact command_answers (l := 0) (p := []) (body := confirmBody) hpow hres rfl rfl ((if_pos h).trans (if_pos hdoor))
  · exact command_answers (l := 0) (p := []) (body := forceBody) hpow hres rfl rfl (if_neg h)
  · exact command_answers (l := 0) (p := []) (body := forceBody) hpow hres rfl rfl ((if_pos h).trans (if_pos hdoor))

end Sys2Proof.Proofs
end

section
/-! PROOFS. A record request (R100): the journal as it takes the copy, the pending record that is abandoned, and the erase that a
request settles. -/

namespace Sys2Proof.Machine

open Safety (suspends)

variable {s : State} {j : Journal}

/-! ## The copy -/

@[simp] theorem unmark_lossMark (j : Journal) (kind : RecordKind) :
    (j.unmark kind).lossMark = (j.lossMark && decide (kind = .loss)) := by
  unfold Journal.unmark
  split <;> simp_all

theorem unmark_eq (j : Journal) (kind : RecordKind) :
    j.unmark kind = { j with lossMark := j.lossMark && decide (kind = .loss) } := by
  unfold Journal.unmark
  split <;> simp_all

/-- The journal with a request's copy taken: the pending record is the copy, with the marks of the one it replaces (R100). -/
theorem takeCopy_eq (j : Journal) (copy : Record) (host : Bool) : j.takeCopy copy host = { j with
    pend := some ⟨copy, copy.kind.urgent || j.pend.any (·.urgent), host || j.pend.any (·.orderly),
      j.pend.any (·.hurried), false⟩,
    counters := if j.pend.isSome then { j.counters with replaced := satInc 65535 j.counters.replaced } else j.counters } := by
  unfold Journal.takeCopy
  split
  case h_1 hp => simp [hp]
  case h_2 p hp => simp [hp, Journal.count, Bool.or_comm]

theorem urgent_eq (kind : RecordKind) : kind.urgent = (kind = .phase || kind = .loss || kind = .finish) := by
  cases kind <;> rfl

/-- The slot a record may use depends on the pointer and the sectors alone (R102). -/
theorem usable_congr {i j : Journal} (hs : ∀ k, i.sector k = j.sector k) (hk : i.ptrSector = j.ptrSector)
    (hi : i.ptrSlot = j.ptrSlot) (urgent : Bool) : i.usable urgent = j.usable urgent := by
  unfold Journal.usable Journal.next
  rw [hk, hi, hs]

/-! ## What a request leaves alone -/

theorem recordDone_stays (h : s.csq.state ≠ .loss) :
    (recordDone s).rpl = s.rpl ∧ (recordDone s).pnl = s.pnl ∧ (recordDone s).csq.state = s.csq.state ∧
    (recordDone s).csq.cyc = s.csq.cyc ∧ (recordDone s).csq.desc = s.csq.desc := by
  unfold recordDone
  rw [if_neg h]
  repeat' split
  all_goals exact ⟨rfl, rfl, rfl, rfl, rfl⟩

theorem abandonPending_stays (h : s.csq.state ≠ .loss) :
    (abandonPending s).rpl = s.rpl ∧ (abandonPending s).pnl = s.pnl ∧ (abandonPending s).csq.state = s.csq.state ∧
    (abandonPending s).csq.cyc = s.csq.cyc ∧ (abandonPending s).csq.desc = s.csq.desc := by
  unfold abandonPending
  split
  · exact recordDone_stays (s := s.setPjr _) h
  · exact ⟨rfl, rfl, rfl, rfl, rfl⟩

theorem journalSettle_stays (h : s.csq.state ≠ .loss) :
    (journalSettle s).rpl = s.rpl ∧ (journalSettle s).pnl = s.pnl ∧ (journalSettle s).csq.state = s.csq.state ∧
    (journalSettle s).csq.cyc = s.csq.cyc ∧ (journalSettle s).csq.desc = s.csq.desc := by
  unfold journalSettle
  split
  · exact ⟨rfl, rfl, rfl, rfl, rfl⟩
  · exact abandonPending_stays h

/-- Outside LOSS a record request moves neither the sequencer's state nor the planner (R20, R100). -/
theorem requestRecord_stays (h : s.csq.state ≠ .loss) (kind : RecordKind) (reason : EndReason) :
    (requestRecord s kind reason).rpl = s.rpl ∧ (requestRecord s kind reason).pnl = s.pnl ∧
    (requestRecord s kind reason).csq.state = s.csq.state ∧ (requestRecord s kind reason).csq.cyc = s.csq.cyc ∧
    (requestRecord s kind reason).csq.desc = s.csq.desc := by
  unfold requestRecord
  dsimp only
  split
  · exact recordDone_stays (s := (s.setCsq _).setPjr _) h
  · exact journalSettle_stays (s := (s.setCsq _).setPjr _) h

theorem leaveLoss_progress (s : State) : (leaveLoss s).csq.progress = s.csq.progress := by
  have cycle : ∀ (v : State) (st : CycleState), (setCycle v st).csq.progress = v.csq.progress := fun v st => by
    unfold setCycle
    split <;> rfl
  unfold leaveLoss enterPlanning
  split
  · exact cycle _ _
  · exact cycle _ _

@[simp] theorem recordDone_progress (s : State) : (recordDone s).csq.progress = s.csq.progress := by
  unfold recordDone
  split
  · rfl
  · split
    · rfl
    · split
      · exact leaveLoss_progress s
      · rfl

@[simp] theorem abandonPending_progress (s : State) : (abandonPending s).csq.progress = s.csq.progress := by
  unfold abandonPending
  split
  · exact recordDone_progress _
  · rfl

@[simp] theorem journalSettle_progress (s : State) : (journalSettle s).csq.progress = s.csq.progress := by
  unfold journalSettle
  split
  · rfl
  · exact abandonPending_progress s

@[simp] theorem requestRecord_progress (s : State) (kind : RecordKind) (reason : EndReason) :
    (requestRecord s kind reason).csq.progress = 0 := by
  unfold requestRecord
  dsimp only
  split
  · exact recordDone_progress _
  · exact journalSettle_progress _

/-- A state is another with the blocks in which it differs. -/
theorem state_eq_of_frame {s t : State}
    (h : t.mainPowered = s.mainPowered ∧ t.scv = s.scv ∧ t.dwn = s.dwn ∧ t.ost = s.ost ∧ t.mwt = s.mwt ∧ t.hdm = s.hdm ∧
      t.plp = s.plp ∧ t.fsu = s.fsu ∧ t.settings = s.settings ∧ t.flash = s.flash ∧ t.freeCount = s.freeCount ∧
      t.pending = s.pending) : t = { s with csq := t.csq, pjr := t.pjr, rpl := t.rpl, pnl := t.pnl } := by
  obtain ⟨h1, h2, h3, h4, h5, h6, h7, h8, h9, h10, h11, h12⟩ := h
  cases s
  cases t
  simp_all

/-! ## Settling -/

theorem journalSettle_of_programs (h : s.pjr.op.programs = true) : journalSettle s = s := if_pos h

theorem journalSettle_of_kept (h : s.pjr.op.programs = false) (ha : s.pjr.abandons = false) :
    journalSettle s = s.setPjr s.pjr.settleErase := by
  unfold journalSettle abandonPending
  rw [if_neg (by rw [h]; decide), if_neg (by rw [ha]; decide)]

/-- The pending record gone, as an abandoned one leaves the journal (R111). -/
def Journal.abandoned (j : Journal) : Journal :=
  { j with pend := none, counters := { j.counters with abandoned := satInc 255 j.counters.abandoned } }

theorem journalSettle_of_abandoned (h : s.pjr.op.programs = false) (ha : s.pjr.abandons = true) :
    (journalSettle s).pjr = s.pjr.abandoned.settleErase := by
  unfold journalSettle abandonPending
  rw [if_neg (by rw [h]; decide), if_pos ha]
  simp [Journal.abandoned, Journal.count]

theorem settleErase_of_not_suspends (h : suspends j.op = false) : j.settleErase = j := by
  unfold Journal.settleErase
  cases ho : j.op <;> simp_all [suspends]

@[simp] theorem setSector_rest (j : Journal) (k : Nat) (x : SectorState) :
    (j.setSector k x).counters = j.counters ∧ (j.setSector k x).lossMark = j.lossMark ∧ (j.setSector k x).op = j.op ∧
    (j.setSector k x).ptrSector = j.ptrSector ∧ (j.setSector k x).ptrSlot = j.ptrSlot ∧
    (j.setSector k x).queue = j.queue ∧ (j.setSector k x).nextSeq = j.nextSeq ∧ (j.setSector k x).newest = j.newest ∧
    (j.setSector k x).newestBad = j.newestBad ∧ (j.setSector k x).scanDone = j.scanDone ∧
    (j.setSector k x).consecutive = j.consecutive ∧ (j.setSector k x).prog = j.prog ∧
    (j.setSector k x).eraseAgain = j.eraseAgain ∧ (j.setSector k x).sinceResume = j.sinceResume ∧
    (j.setSector k x).activeFound = j.activeFound ∧ (j.setSector k x).factoryGood = j.factoryGood ∧
    (j.setSector k x).serial = j.serial ∧ (j.setSector k x).product = j.product := by
  unfold Journal.setSector
  repeat' split
  all_goals simp

/-- Sectors are told apart by their numbers; those from 3 on are one. -/
theorem sector_setSector (j : Journal) (k q : Nat) (x : SectorState) :
    (j.setSector k x).sector q = if min k 3 = min q 3 then x else j.sector q := by
  unfold Journal.setSector Journal.sector
  rcases k with _ | _ | _ | k <;> rcases q with _ | _ | _ | q <;> simp

@[simp] theorem sector_setSector_same (j : Journal) (k : Nat) (x : SectorState) : (j.setSector k x).sector k = x := by
  rw [sector_setSector, if_pos rfl]

@[simp] theorem settleErase_rest (j : Journal) :
    j.settleErase.counters = j.counters ∧ j.settleErase.lossMark = j.lossMark := by
  unfold Journal.settleErase
  repeat' split
  all_goals simp

/-- A suspended erase is resumed, or kept (R110). -/
theorem settleErase_suspended {k : Nat} (h : j.op = .suspended k) :
    (j.resumes = false → j.settleErase = j) ∧
    (j.resumes = true → j.settleErase.op = .erasing k ∧ j.settleErase.sector k = .erasing ∧
      j.settleErase.sinceResume = some 0) := by
  unfold Journal.settleErase
  rw [h]
  refine ⟨fun hr => by simp [hr], fun hr => ?_⟩
  dsimp only
  rw [if_pos hr]
  exact ⟨rfl, sector_setSector_same j k .erasing, rfl⟩

/-- An erase being suspended is resumed for an orderly record alone (R112). -/
theorem settleErase_suspending {k : Nat} (h : j.op = .suspending k) :
    j.settleErase = if j.pend.any (·.orderly) then { j with op := .erasing k } else j := by
  unfold Journal.settleErase
  rw [h]
  cases j.pend <;> rfl

/-! ## The request as a whole -/

section
variable (s : State) (kind : RecordKind) (reason : EndReason)

/-- The journal of a state with a request's copy taken (R100). -/
def copyTaken : Journal :=
  (s.pjr.unmark kind).takeCopy (recordCopy s kind reason) (kind = .finish && reason = .hostReset)

theorem copyTaken_eq : copyTaken s kind reason = { s.pjr with
    lossMark := s.pjr.lossMark && decide (kind = .loss),
    pend := some ⟨recordCopy s kind reason, kind.urgent || s.pjr.pend.any (·.urgent),
      (kind = .finish && reason = .hostReset) || s.pjr.pend.any (·.orderly), s.pjr.pend.any (·.hurried), false⟩,
    counters := if s.pjr.pend.isSome then { s.pjr.counters with replaced := satInc 65535 s.pjr.counters.replaced }
      else s.pjr.counters } := by
  rw [copyTaken, unmark_eq, takeCopy_eq]
  rfl

@[simp] theorem copyTaken_usable (urgent : Bool) : (copyTaken s kind reason).usable urgent = s.pjr.usable urgent := by
  rw [copyTaken_eq]
  exact usable_congr (fun _ => rfl) rfl rfl urgent

theorem requestRecord_dropped (hf : s.pjr.fault = true) : requestRecord s kind reason =
    recordDone ((s.setCsq { s.csq with progress := 0 }).setPjr { s.pjr with
      lossMark := s.pjr.lossMark && decide (kind = .loss),
      counters := { s.pjr.counters with dropped := satInc 255 s.pjr.counters.dropped } }) := by
  unfold requestRecord
  dsimp only
  rw [if_pos (by simpa using hf)]
  simp [unmark_eq, Journal.count]

theorem requestRecord_taken (hf : s.pjr.fault = false) : requestRecord s kind reason =
    journalSettle ((s.setCsq { s.csq with progress := 0 }).setPjr (copyTaken s kind reason)) := by
  unfold requestRecord
  dsimp only
  rw [if_neg (by simpa using hf)]
  rfl

/-- The copy is abandoned where it would be lost without a slot: a LOSS record, and an END that a loss has hurried (R111,
R112). -/
theorem copyTaken_abandons : (copyTaken s kind reason).abandons =
    ((decide (kind = .loss) || s.pjr.pend.any (·.hurried)) &&
      (s.pjr.usable (kind.urgent || s.pjr.pend.any (·.urgent))).isNone) := by
  unfold Journal.abandons
  have hp : (copyTaken s kind reason).pend = some ⟨recordCopy s kind reason,
      kind.urgent || s.pjr.pend.any (·.urgent), (kind = .finish && reason = .hostReset) || s.pjr.pend.any (·.orderly),
      s.pjr.pend.any (·.hurried), false⟩ := by rw [copyTaken_eq]
  rw [hp]
  dsimp only
  rw [copyTaken_usable]
  rfl

theorem copyTaken_presses : (copyTaken s kind reason).presses =
    ((kind.urgent || s.pjr.pend.any (·.urgent)) &&
      !((kind = .finish && reason = .hostReset) || s.pjr.pend.any (·.orderly)) &&
      (s.pjr.usable (kind.urgent || s.pjr.pend.any (·.urgent))).isSome) := by
  unfold Journal.presses
  have hp : (copyTaken s kind reason).pend = some ⟨recordCopy s kind reason,
      kind.urgent || s.pjr.pend.any (·.urgent), (kind = .finish && reason = .hostReset) || s.pjr.pend.any (·.orderly),
      s.pjr.pend.any (·.hurried), false⟩ := by rw [copyTaken_eq]
  rw [hp]
  simp

/-- A copy taken resumes a suspended erase where it does not press for the array itself (R110). -/
theorem copyTaken_resumes (hf : s.pjr.fault = false) :
    (copyTaken s kind reason).resumes = !(copyTaken s kind reason).presses := by
  have h : (copyTaken s kind reason).fault = false ∧ (copyTaken s kind reason).pend.isSome = true := by
    rw [copyTaken_eq]
    exact ⟨hf, rfl⟩
  unfold Journal.resumes
  rw [h.1, h.2]
  simp

/-- A copy abandoned leaves a suspended erase to the loss mark (R110, R111). -/
theorem copyTaken_abandoned_resumes (hf : s.pjr.fault = false) :
    (copyTaken s kind reason).abandoned.resumes = !(s.pjr.lossMark && decide (kind = .loss)) := by
  have h : (copyTaken s kind reason).abandoned.fault = false ∧ (copyTaken s kind reason).abandoned.pend = none ∧
      (copyTaken s kind reason).abandoned.lossMark = (s.pjr.lossMark && decide (kind = .loss)) := by
    rw [copyTaken_eq]
    exact ⟨hf, rfl, rfl⟩
  unfold Journal.resumes Journal.presses
  rw [h.1, h.2.1, h.2.2]
  simp

end

end Sys2Proof.Machine

namespace Sys2Proof.Proofs

open Sys2Proof.Machine Sys2Proof.Safety

/-- Settles O23: the copy is judged once, kept or abandoned, and the erase settled after it. -/
theorem recordRequested : Obligations.RecordRequested := by
  unfold Obligations.RecordRequested
  rintro s kind reason t rfl urgent host hurried mark copy cs
  have hurgent : (kind.urgent || s.pjr.pend.any (·.urgent)) = urgent := by simp [urgent, urgent_eq]
  have frame := state_eq_of_frame (requestRecord_frame (s := s) kind reason)
  by_cases hf : s.pjr.fault = true
  case pos =>
    have hj : (requestRecord s kind reason).pjr = { s.pjr with
        lossMark := mark, counters := { s.pjr.counters with dropped := satInc 255 s.pjr.counters.dropped } } := by
      rw [requestRecord_dropped s kind reason hf]
      simp [mark]
    refine ⟨requestRecord_progress s kind reason, frame, by rw [hj], fun _ => hj, ?_, ?_, ?_⟩
    all_goals simp [hf]
  have hf0 : s.pjr.fault = false := by simpa using hf
  have hreq := requestRecord_taken s kind reason hf0
  have htaken : copyTaken s kind reason =
      { s.pjr with lossMark := mark, pend := some ⟨copy, urgent, host, hurried, false⟩, counters := cs } := by
    rw [copyTaken_eq, hurgent]
    rfl
  have habandons := copyTaken_abandons s kind reason
  rw [hurgent] at habandons
  have hop : (copyTaken s kind reason).op = s.pjr.op := by rw [htaken]
  by_cases hprog : s.pjr.op.programs = true
  case pos =>
    rw [journalSettle_of_programs ((congrArg FlashOp.programs hop).trans hprog)] at hreq
    have hj : (requestRecord s kind reason).pjr = copyTaken s kind reason := by rw [hreq]; rfl
    refine ⟨requestRecord_progress s kind reason, frame, ?_, fun h => absurd h hf, fun _ _ => ?_, ?_, fun k _ => ?_⟩
    · rw [hj, htaken]
    · refine ⟨by rw [hj, htaken], by rw [hj, htaken], by rw [hj, hreq]; rfl, fun _ => by rw [hj, htaken]⟩
    · simp [hprog]
    · constructor
      all_goals
        intro h
        rw [h] at hprog
        cases hprog
  have hprog0 : s.pjr.op.programs = false := by simpa using hprog
  by_cases hab : (copyTaken s kind reason).abandons = true
  case neg =>
    have hab0 : (copyTaken s kind reason).abandons = false := by simpa using hab
    have hkept : ¬ ((kind = .loss ∨ hurried = true) ∧ s.pjr.usable urgent = none) := by
      intro h
      rw [habandons] at hab
      simp [hurried] at hab h
      exact hab h.1 h.2
    rw [journalSettle_of_kept ((congrArg FlashOp.programs hop).trans hprog0) hab0] at hreq
    have hj : (requestRecord s kind reason).pjr = (copyTaken s kind reason).settleErase := by rw [hreq]; rfl
    have hpend : (copyTaken s kind reason).settleErase.pend = some ⟨copy, urgent, host, hurried, false⟩ := by
      rw [(settleErase_pend (copyTaken s kind reason)).1, htaken]
    refine ⟨requestRecord_progress s kind reason, frame, ?_, fun h => absurd h hf, fun _ _ => ?_, ?_, fun k _ => ?_⟩
    · rw [hj, (settleErase_rest _).2, htaken]
    · refine ⟨by rw [hj, hpend], by rw [hj, (settleErase_rest _).1, htaken], by rw [hj, hreq]; rfl, fun hs => ?_⟩
      rw [hj, settleErase_of_not_suspends (by rw [hop]; exact hs), htaken]
    · exact fun _ h1 _ h2 => absurd ⟨h1, h2⟩ hkept
    · have hresumes := copyTaken_resumes s kind reason hf0
      rw [copyTaken_presses, hurgent] at hresumes
      have hstays : ((urgent = true ∧ host = false ∧ (s.pjr.usable urgent).isSome = true) ∨
          (((kind = .loss ∨ hurried = true) ∧ s.pjr.usable urgent = none) ∧ mark = true)) ↔
          (copyTaken s kind reason).resumes = false := by
        rw [hresumes]
        simp only [hkept, false_and, or_false]
        simp [host, and_assoc]
      refine ⟨fun hk => ⟨fun h => ?_, fun h => ?_⟩, fun hk => ⟨fun hh _ => ?_, fun hh => ?_⟩⟩
      · rw [hj, (settleErase_suspended (hop.trans hk)).1 (hstays.1 h), htaken]
        exact ⟨hk, rfl⟩
      · rw [hj]
        exact (settleErase_suspended (hop.trans hk)).2 (by rw [hstays] at h; simpa using h)
      · rw [hj, settleErase_suspending (hop.trans hk), htaken]
        simp [hh, Journal.sector]
      · rw [hj, settleErase_suspending (hop.trans hk), htaken]
        simp [hh, hk, Journal.sector]
  case pos =>
    have hgone : (kind = .loss ∨ hurried = true) ∧ s.pjr.usable urgent = none := by
      rw [habandons] at hab
      simpa [hurried] using hab
    have hj : (requestRecord s kind reason).pjr = (copyTaken s kind reason).abandoned.settleErase := by
      rw [hreq]
      exact journalSettle_of_abandoned ((congrArg FlashOp.programs hop).trans hprog0) hab
    have hopa : (copyTaken s kind reason).abandoned.op = s.pjr.op := hop
    refine ⟨requestRecord_progress s kind reason, frame, ?_, fun h => absurd h hf, fun _ h => ?_, fun _ _ _ _ => ?_,
      fun k _ => ?_⟩
    · rw [hj, (settleErase_rest _).2, Journal.abandoned, htaken]
    · obtain ⟨hl, hn⟩ := hgone
      rw [hn, hprog0] at h
      rcases h with ⟨h1, h2⟩ | h | h
      · exact absurd (hl.resolve_left h1) (by simp [h2])
      · cases h
      · cases h
    · refine ⟨by rw [hj, (settleErase_pend _).1]; rfl, ?_⟩
      rw [hj, (settleErase_rest _).1, Journal.abandoned, htaken]
    · have hresumes := copyTaken_abandoned_resumes s kind reason hf0
      have hstays : ((urgent = true ∧ host = false ∧ (s.pjr.usable urgent).isSome = true) ∨
          (((kind = .loss ∨ hurried = true) ∧ s.pjr.usable urgent = none) ∧ mark = true)) ↔
          (copyTaken s kind reason).abandoned.resumes = false := by
        rw [hresumes, hgone.2]
        simp only [hgone.1, and_self, true_and]
        simp [mark]
      refine ⟨fun hk => ⟨fun h => ?_, fun h => ?_⟩, fun hk => ⟨fun _ h => absurd hgone h, fun _ => ?_⟩⟩
      · rw [hj, (settleErase_suspended (hopa.trans hk)).1 (hstays.1 h), Journal.abandoned, htaken]
        exact ⟨hk, rfl⟩
      · rw [hj]
        exact (settleErase_suspended (hopa.trans hk)).2 (by rw [hstays] at h; simpa using h)
      · rw [hj, settleErase_suspending (hopa.trans hk), Journal.abandoned, htaken]
        simp [hk, Journal.sector]

end Sys2Proof.Proofs
end

section
/-! PROOFS. The host's commands where they are taken (R4, R15 to R17, R21, R23 to R26, R146, R147): what each makes of the
sequencer and its neighbours, and the record it requests. -/

namespace Sys2Proof.Machine

open Safety (Settled)

variable {s t u : State}

/-! ## Updates that a record request does not see -/

/-- An update aside from a record request: it leaves what the request reads, and its order with what the request writes does
not matter. -/
structure Aside (f : State → State) : Prop where
  csq : ∀ s, (f s).csq = s.csq
  pjr : ∀ s, (f s).pjr = s.pjr
  dwn : ∀ s, (f s).dwn = s.dwn
  hdm : ∀ s, (f s).hdm = s.hdm
  resetPending : ∀ s, (f s).pnl.resetPending = s.pnl.resetPending
  setCsq : ∀ s c, f (s.setCsq c) = (f s).setCsq c
  setPjr : ∀ s j, f (s.setPjr j) = (f s).setPjr j
  setRpl : ∀ s r, f (s.setRpl r) = (f s).setRpl r
  raisePhase : ∀ s, f (raisePhase s) = raisePhase (f s)

namespace Aside

variable {f : State → State} (h : Aside f)
include h

theorem setCycle (s : State) (st : CycleState) : f (setCycle s st) = Machine.setCycle (f s) st := by
  unfold Machine.setCycle
  rw [h.csq]
  split
  · rfl
  · rw [h.raisePhase, h.setCsq]

theorem leaveLoss (s : State) : f (leaveLoss s) = Machine.leaveLoss (f s) := by
  unfold Machine.leaveLoss enterPlanning
  rw [h.csq]
  split
  · rw [h.setRpl, h.setCycle]
  · exact h.setCycle s .holdoverWait

theorem recordDone (s : State) : f (recordDone s) = Machine.recordDone (f s) := by
  unfold Machine.recordDone
  rw [h.csq, h.resetPending]
  split
  · exact h.setCsq _ _
  · split
    · rfl
    · split
      · exact h.leaveLoss s
      · rfl

theorem abandonPending (s : State) : f (abandonPending s) = Machine.abandonPending (f s) := by
  unfold Machine.abandonPending
  rw [h.pjr]
  split
  · rw [h.recordDone, h.setPjr]
  · rfl

theorem journalSettle (s : State) : f (journalSettle s) = Machine.journalSettle (f s) := by
  unfold Machine.journalSettle
  rw [h.pjr]
  split
  · rfl
  · dsimp only
    rw [h.setPjr, ← h.abandonPending, h.pjr]

theorem recordCopy (s : State) (kind : RecordKind) (reason : EndReason) :
    recordCopy (f s) kind reason = Machine.recordCopy s kind reason := by
  unfold Machine.recordCopy
  rw [h.hdm, h.csq, h.dwn]

/-- A record request is the same before and after an update aside from it. -/
theorem requestRecord (s : State) (kind : RecordKind) (reason : EndReason) :
    f (requestRecord s kind reason) = Machine.requestRecord (f s) kind reason := by
  unfold Machine.requestRecord
  dsimp only
  rw [← h.csq s, ← h.setCsq, h.csq s, h.recordCopy, h.pjr, ← h.setPjr, ← h.setPjr]
  split
  · exact h.recordDone _
  · exact h.journalSettle _

end Aside

theorem aside_respond (st : Status) (payload : List Byte) : Aside (respond · st payload) :=
  ⟨fun _ => rfl, fun _ => rfl, fun _ => rfl, fun _ => rfl, fun _ => rfl, fun _ _ => rfl, fun _ _ => rfl, fun _ _ => rfl,
    fun _ => rfl⟩

theorem aside_setClass (c : Nat) : Aside (setClass · c) :=
  ⟨fun _ => rfl, fun _ => rfl, fun _ => rfl, fun _ => rfl, fun _ => rfl, fun _ _ => rfl, fun _ _ => rfl, fun _ _ => rfl,
    fun _ => rfl⟩

/-! ## A command taken -/

theorem respond_settled (h : Settled u t) (st : Status) (payload : List Byte) :
    Settled (respond u st payload) (respond t st payload) :=
  congrArg (respond · st payload) h

theorem taken_settled (u s : State) (st : Status) (payload : List Byte) :
    Settled (respond s st payload) (taken u s st payload) :=
  respond_settled (Safety.finish_settled false u s) st payload

/-- A command frame of the right length that its own rule takes (R184). -/
theorem command_taken {l : Byte} {p : List Byte} {n : Nat} {body : State → List Byte → State} {st : Status}
    {payload : List Byte} (keeps : Bool) (hpow : s.mainPowered = true) (hl : l.toNat = n) (hp : p.length = n)
    (hres : s.pnl.resetPending = false)
    (hbody : body (openFrame s (l :: p) keeps) p = taken (openFrame s (l :: p) keeps) u st payload) :
    ∃ t, command s (l :: p) n keeps body = .next t ∧ t = taken (openFrame s (l :: p) keeps) u st payload ∧
      Settled (respond u st payload) t :=
  ⟨_, (command_judged keeps body hpow hl hp hres).trans (congrArg Host.Outcome.next hbody), rfl, taken_settled _ _ _ _⟩

theorem openFrame_cons (s : State) (l : Byte) {p : List Byte} {n : Nat} (hp : p.length = n) :
    openFrame s (l :: p) false =
      { s with pnl := { s.pnl with dataOut := clockOut s.pnl.response (n + 2), resetEnable := false } } := by
  subst hp
  rw [show p.length + 2 = 1 + (l :: p).length by rw [List.length_cons]; omega]
  rfl

/-! ## Entering a state -/

theorem setCycle_of_ne {st : CycleState} (h : s.csq.state ≠ st) :
    setCycle s st = raisePhase (s.setCsq { s.csq with state := st, ready := .none }) := if_neg h

theorem enterDone_eq (h : s.csq.state ≠ .done) (reason : EndReason) :
    enterDone s reason = requestRecord (Safety.ended s reason s.csq.cyc) .finish reason := by
  unfold enterDone
  dsimp only
  rw [setCycle_of_ne (by exact h)]
  rfl

theorem enterPaused_eq (h : s.csq.state ≠ .paused) :
    enterPaused s = requestRecord
      (Safety.entered s .paused { s.csq.cyc with before := s.csq.cyc.phase, phase := .paused }) .phase .none := by
  unfold enterPaused
  dsimp only
  rw [setCycle_of_ne (by exact h)]
  rfl

theorem enterCool_eq (h : s.csq.state ≠ .cool) :
    enterCool s = requestRecord (Safety.cooled s s.csq.cyc) .phase .none := by
  unfold enterCool
  dsimp only
  rw [setCycle_of_ne (by exact h)]
  rfl

/-! ## What a cycle command makes, with its answer -/

section
variable (st : Status) (payload : List Byte)

theorem enterPaused_respond (h : s.csq.state ≠ .paused) :
    respond (enterPaused s) st payload = requestRecord
      { respond s st payload with
        csq := { s.csq with state := .paused, ready := .none,
                            cyc := { s.csq.cyc with before := s.csq.cyc.phase, phase := .paused } },
        pnl := { (respond s st payload).pnl with evPhase := true } } .phase .none := by
  rw [enterPaused_eq h, (aside_respond st payload).requestRecord]
  rfl

theorem takeCancel_respond (h : s.csq.state ≠ .done) :
    respond (takeCancel s) st payload = requestRecord
      { respond s st payload with
        csq := { s.csq with
          state := .done, ready := .none, endReason := .cancelled,
          cyc := { s.csq.cyc with phase := .ended, before := .none,
                                  reasons := { s.csq.cyc.reasons with cancelled := true } } },
        pnl := { (respond s st payload).pnl with evPhase := true } } .finish .cancelled := by
  unfold takeCancel
  rw [enterDone_eq (by exact h), (aside_respond st payload).requestRecord]
  rfl

theorem takeContinue_respond {x : CycleState} (h : s.csq.state = .paused)
    (hx : runningState s.csq.cyc.before = some x) :
    respond (takeContinue s x) st payload = requestRecord
      { respond s st payload with
        csq := { s.csq with
          state := x, ready := .none,
          faultCount := if x = .heat ∨ x = .extend then 0 else s.csq.faultCount,
          cyc := { s.csq.cyc with
            phase := s.csq.cyc.before, before := .none,
            burst := if x = .guard then .tumble else s.csq.cyc.burst,
            burstTimer := if x = .guard then s.csq.desc.guardTumble else s.csq.cyc.burstTimer } },
        dwn := if x = .heat then { s.dwn with resultSeen := false, hitSeen := false, window := [],
                                              verdict := .none, reported := false } else s.dwn,
        ost := if x = .heat ∨ x = .extend then { s.ost with
            stage1 := { s.ost.stage1 with pending := s.settings.modulus },
            stage2 := { s.ost.stage2 with pending := s.settings.modulus } } else s.ost,
        pnl := { (respond s st payload).pnl with evPhase := true } } .phase .none := by
  have hphase : s.csq.cyc.before = phaseOf x := by
    cases hb : s.csq.cyc.before <;> rw [hb] at hx <;> cases hx <;> rfl
  unfold takeContinue
  dsimp only
  rw [hphase, (aside_respond st payload).requestRecord, (aside_respond st payload).setCycle]
  rcases runningState_cases hx with rfl | rfl | rfl | rfl
  all_goals
    rw [setCycle_of_ne (by exact fun hc => absurd (h.symm.trans hc) (by decide))]
    rfl

end

/-! ## The END record that a reset awaits -/

/-- A taken RESET leaves the reset pending (R190). -/
def pendReset (s : State) : State := s.setPnl { s.pnl with resetPending := true }

section
variable (h : s.csq.endAwaited = true)
include h

theorem recordDone_awaited : recordDone (pendReset s) = pendReset (recordDone s) ∧
    (recordDone s).csq.state = s.csq.state := by
  rw [recordDone, if_pos (by exact h), recordDone, if_pos h]
  exact ⟨rfl, rfl⟩

theorem abandonPending_awaited : abandonPending (pendReset s) = pendReset (abandonPending s) ∧
    (abandonPending s).csq.state = s.csq.state := by
  unfold abandonPending
  rw [show (pendReset s).pjr = s.pjr from rfl]
  split
  · exact recordDone_awaited (s := s.setPjr _) h
  · exact ⟨rfl, rfl⟩

theorem journalSettle_awaited : journalSettle (pendReset s) = pendReset (journalSettle s) ∧
    (journalSettle s).csq.state = s.csq.state := by
  unfold journalSettle
  rw [show (pendReset s).pjr = s.pjr from rfl]
  split
  · exact ⟨rfl, rfl⟩
  · dsimp only
    rw [(abandonPending_awaited h).1]
    exact ⟨rfl, (abandonPending_awaited h).2⟩

/-- The END record that a reset awaits moves no cycle state, and does not see the reset pending (R26). -/
theorem requestRecord_awaited (kind : RecordKind) (reason : EndReason) :
    requestRecord (pendReset s) kind reason = pendReset (requestRecord s kind reason) ∧
    (requestRecord s kind reason).csq.state = s.csq.state := by
  by_cases hf : s.pjr.fault = true
  · rw [requestRecord_dropped s kind reason hf, requestRecord_dropped (pendReset s) kind reason (by exact hf)]
    exact recordDone_awaited (s := (s.setCsq _).setPjr _) h
  · have hf0 : s.pjr.fault = false := by simpa using hf
    rw [requestRecord_taken s kind reason hf0, requestRecord_taken (pendReset s) kind reason (by exact hf0)]
    exact journalSettle_awaited (s := (s.setCsq _).setPjr _) h

end

/-! ## Executing a plan -/

/-- The state that a plan's outcome names, entered with the plan's amounts (R24). -/
def planEntry (s : State) (p : Plan) : State :=
  match p.outcome with
  | .resumeHeat => executeHeat s
  | .resumeExtend => executeExtend s p.newExt
  | .resumeCool => executeCool s
  | .resumeGuard => executeGuard s p.newGuard
  | .resumePaused => executePaused s p
  | .none | .endedDoor | .abandonedWindow | .abandonedClock => s

theorem executePlan_eq (s : State) (p : Plan) : executePlan s p =
    if planEnds (orderClear s) p then enterDone (requestRecord (setClass (orderClear s) 2) .resume .none) .complete
    else requestRecord (planEntry (orderClear s) p) .resume .none := rfl

section
variable (s : State) (p : Plan)

@[simp] theorem applyRemembered_csq :
    (applyRemembered s p).csq.state = s.csq.state ∧ (applyRemembered s p).csq.desc = s.csq.desc := by
  unfold applyRemembered
  split <;> exact ⟨rfl, rfl⟩

theorem planEntry_leaves :
    (planEntry s p).hdm = s.hdm ∧ (planEntry s p).rpl = s.rpl ∧ (planEntry s p).csq.desc = s.csq.desc := by
  unfold planEntry
  split
  case h_5 => simp [executePaused, setCyc]
  all_goals simp [executeHeat, executeExtend, executeCool, executeGuard, fullDuties, clearFaultCount, setClass, clearWindow,
    setCyc]

theorem planEntry_state_ne (h : s.csq.state ≠ .loss) : (planEntry s p).csq.state ≠ .loss := by
  unfold planEntry executeHeat executeExtend executeCool executeGuard executePaused
  split
  all_goals simp [h]

/-- What the execution of a plan leaves alone (R24). -/
theorem executePlan_leaves (h : s.csq.state ≠ .loss) :
    (executePlan s p).hdm = (orderClear s).hdm ∧ (executePlan s p).csq.desc = s.csq.desc ∧
    (executePlan s p).rpl = s.rpl := by
  rw [executePlan_eq]
  split
  · obtain ⟨hrpl, -, -, -, hdesc⟩ := requestRecord_stays (s := setClass (orderClear s) 2) h .resume .none
    have hdone : (enterDone (requestRecord (setClass (orderClear s) 2) .resume .none) .complete).rpl = s.rpl ∧
        (enterDone (requestRecord (setClass (orderClear s) 2) .resume .none) .complete).csq.desc = s.csq.desc := by
      unfold enterDone
      dsimp only
      obtain ⟨hr, -, -, -, hd⟩ := requestRecord_stays (kind := .finish) (reason := .complete)
        (s := setCycle ((requestRecord (setClass (orderClear s) 2) .resume .none).setCsq
          { (requestRecord (setClass (orderClear s) 2) .resume .none).csq with
            cyc := { (requestRecord (setClass (orderClear s) 2) .resume .none).csq.cyc with phase := .ended, before := .none },
            endReason := .complete }) .done) (by simp)
      rw [hr, hd, setCycle_desc]
      exact ⟨by simpa using hrpl, hdesc⟩
    exact ⟨by simp [setClass], hdone.2, hdone.1⟩
  · obtain ⟨hhdm, hrpl, hdesc⟩ := planEntry_leaves (orderClear s) p
    obtain ⟨hr, -, -, -, hd⟩ := requestRecord_stays (planEntry_state_ne (orderClear s) p h) .resume .none
    exact ⟨by simp [hhdm], hd.trans hdesc, hr.trans hrpl⟩

variable {s p}

/-- A plan whose execution enters a state: that state with the phase-change event, and its RESUME record (R24). -/
theorem executePlan_entering {v : State} {st : CycleState} (hends : planEnds (orderClear s) p = false)
    (hentry : planEntry (orderClear s) p = setCycle v st) (hne : v.csq.state ≠ st) (hloss : st ≠ .loss) :
    (executePlan s p).csq.state = st ∧
    executePlan s p = requestRecord (Safety.entered v st v.csq.cyc) .resume .none := by
  have heq : executePlan s p = requestRecord (Safety.entered v st v.csq.cyc) .resume .none := by
    rw [executePlan_eq, if_neg (by rw [hends]; decide), hentry, setCycle_of_ne hne]
    rfl
  refine ⟨?_, heq⟩
  rw [heq]
  exact (requestRecord_stays (s := Safety.entered v st v.csq.cyc) hloss .resume .none).2.2.1

end

/-! ## The class -/

/-- What decides the heater want is untouched by settling (R8). -/
theorem heaterWant_of_settled (h : Settled s t) : heaterWant t = heaterWant s := by
  have hb : ∀ v : State, heaterWant (Safety.blur v) = heaterWant v := fun _ => rfl
  rw [← hb t, show Safety.blur t = Safety.blur s from h, hb]

theorem motorRun_of_settled (h : Settled s t) : motorRun t = motorRun s := by
  have hb : ∀ v : State, motorRun (Safety.blur v) = motorRun v := fun _ => rfl
  rw [← hb t, show Safety.blur t = Safety.blur s from h, hb]

section
variable (s)

@[simp] theorem setStep_cls (k : CoverStep) (x : StepState) : (setStep s k x).fsu.cls = s.fsu.cls := by cases k <;> rfl

@[simp] theorem loseHold_fsu (k : CoverStep) : (loseHold s k).fsu = s.fsu := by cases k <;> rfl

@[simp] theorem giveUp_cls (k : CoverStep) : (giveUp s k).fsu.cls = s.fsu.cls := by
  unfold giveUp
  split
  · exact setStep_cls s k .free
  · rw [loseHold_fsu]
    exact setStep_cls s k .release
  · rfl

@[simp] theorem dropUnwanted_cls (k : CoverStep) : (dropUnwanted s k).fsu.cls = s.fsu.cls := by
  unfold dropUnwanted
  split
  · rfl
  · exact giveUp_cls s k

@[simp] theorem confirmStep_cls (k : CoverStep) : (confirmStep s k).fsu.cls = s.fsu.cls := by
  unfold confirmStep
  split
  · exact setStep_cls s k .free
  · rfl

@[simp] theorem formEvaluation_cls : (formEvaluation s).fsu.cls = s.fsu.cls := by
  unfold formEvaluation
  dsimp only
  split <;> rfl

@[simp] theorem shedStep_cls (k : CoverStep) : (shedStep s k).fsu.cls = s.fsu.cls := by
  unfold shedStep
  split
  · exact giveUp_cls s k
  · rfl

theorem grantSteps_cls (x : StepState) : ∀ (ks : List CoverStep) (s : State) (r : Nat),
    (grantSteps s x r ks).fsu.cls = s.fsu.cls
  | [], _, _ => rfl
  | k :: rest, s, r => by
    unfold grantSteps
    split
    · rw [grantSteps_cls x rest, setStep_cls]
    · rfl

@[simp] theorem applyTests_cls : (applyTests s).fsu.cls = s.fsu.cls := by
  unfold applyTests shedTest grantTest
  repeat' split
  all_goals simp [grantSteps_cls]

@[simp] theorem announce_cls (s0 : State) (g : Bool) : (announce s0 g s).fsu.cls = s.fsu.cls := by
  unfold announce handNotice stopNotice
  repeat' split
  all_goals rfl

end

theorem fullGrant_of_no_want (h : heaterWant s = 0) : fullGrant s = false := by
  unfold fullGrant
  rw [h]
  rfl

theorem settleClass_of_no_want (h : heaterWant s = 0) : settleClass s = s :=
  if_neg (by rw [fullGrant_of_no_want h]; decide)

theorem settleEntry_cls (h : heaterWant s = 0) : (settleEntry s).fsu.cls = s.fsu.cls := by
  have hw : heaterWant (takeWant (confirmAll (dropAll (syncOutputs s)))) = 0 := by
    rw [heaterWant_of_settled ((((Safety.syncOutputs_settled s).trans (Safety.dropAll_settled _)).trans
      (Safety.confirmAll_settled _)).trans (Safety.takeWant_settled _)), h]
  unfold settleEntry
  rw [settleClass_of_no_want hw]
  simp [takeWant, confirmAll, dropAll, syncOutputs]

theorem evaluateOnce_cls (h : heaterWant s = 0) : (evaluateOnce s).fsu.cls = s.fsu.cls := by
  have hw : heaterWant (confirmAll (applyTests (formEvaluation s))) = 0 := by
    rw [heaterWant_of_settled (((Safety.formEvaluation_settled s).trans (Safety.applyTests_settled _)).trans
      (Safety.confirmAll_settled _)), h]
  unfold evaluateOnce
  rw [settleClass_of_no_want hw]
  simp [confirmAll]

theorem evaluateTimes_cls (n : Nat) : ∀ {s : State}, heaterWant s = 0 → (evaluateTimes n s).fsu.cls = s.fsu.cls := by
  induction n with
  | zero => exact fun {s} _ => formEvaluation_cls s
  | succ n ih =>
    intro s h
    unfold evaluateTimes
    split
    · rw [ih (by rw [heaterWant_of_settled (Safety.evaluateOnce_settled s), h]), evaluateOnce_cls h]
    · exact evaluateOnce_cls h

/-- With no heater want the class stays as it is (R170). -/
theorem finish_cls (h : heaterWant s = 0) (ev : Bool) (s0 : State) : (finish ev s0 s).fsu.cls = s.fsu.cls := by
  rw [finish_eq, announce_cls]
  unfold settleAndEvaluate
  split
  · rw [evaluate, evaluateTimes_cls 4 (by rw [heaterWant_of_settled (Safety.settleEntry_settled s), h]), settleEntry_cls h]
  · exact settleEntry_cls h

/-- The heater is not wanted while the motor does not run, nor with a reset pending (R8, R26). -/
theorem heaterWant_of_idle (h : s.pnl.resetPending = true ∨ s.ost.motor ≠ .running) : heaterWant s = 0 := by
  unfold heaterWant heaterWanted
  rcases h with h | h
  · simp [h]
  · simp [h]

end Sys2Proof.Machine

namespace Sys2Proof.Proofs

open Sys2Proof.Machine Sys2Proof.Safety

/-- Settles O16: each command enters its state from another, with the answer aside from the record request. -/
theorem pauseContinueCancelTaken : Obligations.PauseContinueCancelTaken := by
  unfold Obligations.PauseContinueCancelTaken
  intro s hpow hres
  have hanswered : answered s 1 false .ok [] = respond (openFrame s [0] false) .ok [] := rfl
  rw [hanswered]
  refine ⟨fun hst => ?_, fun st hst hdoor hbefore => ?_, fun hst => ?_⟩
  · have hruns : s.csq.state.runs = true := runs_iff.2 hst
    obtain ⟨t, ht, -, hset⟩ := command_taken (l := 0) (p := []) (n := 0) (st := .ok) (payload := []) (body := pauseBody)
      (u := enterPaused (openFrame s [0] false)) false hpow rfl rfl hres (if_pos hruns)
    rw [enterPaused_respond (s := openFrame s [0] false) _ _
      (fun h => by rw [show s.csq.state = .paused from h] at hruns; cases hruns)] at hset
    exact ⟨t, ht, hset⟩
  · have hrun : runningState s.csq.cyc.before = some st := by
      rcases hbefore with ⟨h, rfl⟩ | ⟨h, rfl⟩ | ⟨h, rfl⟩ | ⟨h, rfl⟩
      all_goals exact congrArg runningState h
    obtain ⟨t, ht, -, hset⟩ := command_taken (l := 0) (p := []) (n := 0) (st := .ok) (payload := [])
      (body := continueBody) (u := takeContinue (openFrame s [0] false) st) false hpow rfl rfl hres (by
        unfold continueBody
        rw [if_pos (by exact hst), if_neg (by exact ne_true_of_eq_false hdoor),
          show runningState (openFrame s [0] false).csq.cyc.before = some st from hrun])
    rw [takeContinue_respond (s := openFrame s [0] false) _ _ hst hrun] at hset
    exact ⟨t, ht, hset⟩
  · have hgo : (s.csq.state.runs || s.csq.state = .paused) = true := by
      rcases hst with h | h | h | h | h
      all_goals
        rw [h]
        rfl
    obtain ⟨t, ht, -, hset⟩ := command_taken (l := 0) (p := []) (n := 0) (st := .ok) (payload := []) (body := cancelBody)
      (u := takeCancel (openFrame s [0] false)) false hpow rfl rfl hres (if_pos hgo)
    rw [takeCancel_respond (s := openFrame s [0] false) _ _
      (fun h => by rw [show s.csq.state = .done from h] at hgo; cases hgo)] at hset
    exact ⟨t, ht, hset⟩

/-- Settles O14: START enters HEAT from a state that takes it, with the class and the answer aside from the record
request. -/
theorem startTaken : Obligations.StartTaken := by
  unfold Obligations.StartTaken
  rintro s l p hpow hl hp hres hst hdoor c hc
  have hne : s.csq.state ≠ .heat := by
    intro h
    rcases hst with h' | h' | h'
    all_goals exact absurd (h.symm.trans h') (by decide)
  obtain ⟨t, ht, htaken, hset⟩ := command_taken (body := startBody)
    (st := if c.2.any id then .clamped else .ok) (payload := if c.2.any id then leBytes 2 (maskNat c.2) else [])
    (u := takeStart (openFrame s (l :: p) false) c.1) false hpow hl hp hres (by
      rw [startBody_taken (s := openFrame s (l :: p) false) p hst hdoor hc]
      split <;> rfl)
  refine ⟨t, ht, fun hm => ?_, ?_⟩
  · have hmotor : (takeStart (openFrame s (l :: p) false) c.1).ost.motor = .stopped := by
      simp [takeStart, clearHoldCount, fullDuties, setClass, clearWindow, hm]
    have hcls : (takeStart (openFrame s (l :: p) false) c.1).fsu.cls = 3 := by
      simp [takeStart, clearHoldCount, fullDuties, setClass, clearWindow]
    rw [htaken, taken, ← hcls]
    exact finish_cls (heaterWant_of_idle (.inr (by rw [hmotor]; decide))) false _
  · unfold takeStart at hset
    dsimp only at hset
    rw [(aside_respond _ _).requestRecord, (aside_respond _ _).setCycle, setCycle_of_ne (by exact hne)] at hset
    refine (setClass_settled _ 3).trans ?_
    rw [(aside_setClass 3).requestRecord]
    split at hset <;> rename_i hmask
    all_goals
      simp only [hmask, if_true, Bool.false_eq_true, if_false]
      rw [openFrame_cons s l hp] at hset
      exact hset

/-- Settles O19, by the plan's outcome. -/
theorem planExecuted : Obligations.PlanExecuted := by
  unfold Obligations.PlanExecuted
  rintro s p t hst rfl u full guardOver
  have hloss : s.csq.state ≠ .loss := by
    rcases hst with h | h | h
    all_goals rw [h]; decide
  have hfree : ∀ st, st = .heat ∨ st = .extend ∨ st = .cool ∨ st = .guard ∨ st = .paused ∨ st = .done →
      s.csq.state ≠ st := by
    rcases hst with h | h | h
    all_goals
      rw [h]
      rintro st (rfl | rfl | rfl | rfl | rfl | rfl)
      all_goals decide
  have hends : planEnds (orderClear s) p = true ↔ guardOver := by
    change planEnds s p = true ↔ p.newGuard = 0 ∧
      (p.outcome = .resumeGuard ∨ (p.outcome = .resumePaused ∧ s.csq.cyc.before = .guard))
    simp only [planEnds, Bool.and_eq_true, Bool.or_eq_true, decide_eq_true_eq]
  have hgoes : ¬ guardOver → planEnds (orderClear s) p = false := fun h => by simpa using mt hends.1 h
  obtain ⟨hhdm, hdesc, hrpl⟩ := executePlan_leaves s p hloss
  have hframe := executePlan_frame (s := s) p
  refine ⟨hhdm, hdesc, hrpl, hframe.2.2.1, hframe.2.1, hframe.2.2.2.1, hframe.2.2.2.2.2.1, hframe.2.2.2.2.1,
    fun ho => ?_, fun ho => ?_, fun ho => ?_, fun ho hn => ?_, fun ho hn => ?_, fun ho => ?_⟩
  · have hentry : planEntry (orderClear s) p = executeHeat (orderClear s) := by rw [planEntry, ho]
    have hin := executePlan_entering (hgoes (by simp [guardOver, ho])) hentry (hfree _ (by simp)) (by decide)
    exact hin
  · have hentry : planEntry (orderClear s) p = executeExtend (orderClear s) p.newExt := by rw [planEntry, ho]
    have hin := executePlan_entering (hgoes (by simp [guardOver, ho])) hentry (hfree _ (by simp)) (by decide)
    exact hin
  · have hentry : planEntry (orderClear s) p = executeCool (orderClear s) := by rw [planEntry, ho]
    have hin := executePlan_entering (hgoes (by simp [guardOver, ho])) hentry (hfree _ (by simp)) (by decide)
    exact hin
  · have hentry : planEntry (orderClear s) p = executeGuard (orderClear s) p.newGuard := by rw [planEntry, ho]
    have hin := executePlan_entering (hgoes (by simp [guardOver, hn])) hentry (hfree _ (by simp)) (by decide)
    exact hin
  · have hentry : planEntry (orderClear s) p = setCycle (setCyc (applyRemembered (orderClear s) p)
        { (applyRemembered (orderClear s) p).csq.cyc with phase := .paused }) .paused := by rw [planEntry, ho]; rfl
    have hstate : (applyRemembered (orderClear s) p).csq.state = s.csq.state := (applyRemembered_csq (orderClear s) p).1
    obtain ⟨hp, heq⟩ := executePlan_entering (hgoes hn) hentry
      (fun h => hfree .paused (by simp) (hstate.symm.trans h)) (by decide)
    refine ⟨hp, heq.trans ?_⟩
    unfold applyRemembered
    cases hb : s.csq.cyc.before
    all_goals
      rw [show (orderClear s).csq.cyc.before = _ from hb]
      rfl
  · have heq : executePlan s p =
        enterDone (requestRecord (setClass (orderClear s) 2) .resume .none) .complete := by
      rw [executePlan_eq, if_pos (hends.2 ho)]
    obtain ⟨-, -, hstate, hcyc, -⟩ := requestRecord_stays (s := setClass (orderClear s) 2) hloss .resume .none
    rw [enterDone_eq (by rw [hstate]; exact hfree _ (by simp)), hcyc] at heq
    refine ⟨?_, heq⟩
    rw [heq]
    exact (requestRecord_stays (s := ended _ .complete _) (by exact CycleState.noConfusion) .finish .complete).2.2.1

end Sys2Proof.Proofs
end

section
/-! PROOFS. The host's commands on the plan (R23, R25, R146, R147), the taken SETUP (R21, R185) and the two-step reset (R26,
R190). -/

namespace Sys2Proof.Machine

open Safety (Settled)

variable {s t u : State}

/-! ## The planner aside from a record request -/

section
variable (h : s.csq.state ≠ .loss) (r : Planner)
include h

theorem recordDone_setRpl : recordDone (s.setRpl r) = (recordDone s).setRpl r := by
  unfold recordDone
  rw [if_neg (c := s.csq.state = .loss) h, if_neg (c := (s.setRpl r).csq.state = .loss) (by exact h)]
  rw [show (s.setRpl r).csq = s.csq from rfl, show (s.setRpl r).pnl = s.pnl from rfl]
  split
  · rfl
  · split <;> rfl

theorem abandonPending_setRpl : abandonPending (s.setRpl r) = (abandonPending s).setRpl r := by
  unfold abandonPending
  rw [show (s.setRpl r).pjr = s.pjr from rfl]
  split
  · refine recordDone_setRpl (s := s.setPjr _) ?_ r
    exact h
  · rfl

theorem journalSettle_setRpl : journalSettle (s.setRpl r) = (journalSettle s).setRpl r := by
  unfold journalSettle
  rw [show (s.setRpl r).pjr = s.pjr from rfl]
  split
  · rfl
  · dsimp only
    rw [abandonPending_setRpl h r]
    rfl

/-- Outside LOSS the planner is aside from a record request (R20, R100). -/
theorem requestRecord_setRpl (kind : RecordKind) (reason : EndReason) :
    requestRecord (s.setRpl r) kind reason = (requestRecord s kind reason).setRpl r := by
  by_cases hf : s.pjr.fault = true
  · rw [requestRecord_dropped s kind reason hf, requestRecord_dropped (s.setRpl r) kind reason (by exact hf)]
    refine recordDone_setRpl (s := (s.setCsq _).setPjr _) ?_ r
    exact h
  · have hf0 : s.pjr.fault = false := by simpa using hf
    rw [requestRecord_taken s kind reason hf0, requestRecord_taken (s.setRpl r) kind reason (by exact hf0)]
    refine journalSettle_setRpl (s := (s.setCsq _).setPjr _) ?_ r
    exact h

/-- The disposition of the plan is aside from a record request outside LOSS. -/
theorem setDisposition_requestRecord (d : Disposition) (kind : RecordKind) (reason : EndReason) :
    setDisposition (requestRecord s kind reason) d = requestRecord (setDisposition s d) kind reason := by
  unfold setDisposition
  rw [(requestRecord_stays h kind reason).1, requestRecord_setRpl h]

end

/-! ## The answer to an executed plan -/

theorem Aside.enterDone {f : State → State} (h : Aside f) (s : State) (reason : EndReason) :
    f (enterDone s reason) = Machine.enterDone (f s) reason := by
  unfold Machine.enterDone
  dsimp only
  rw [h.requestRecord, h.setCycle, h.setCsq, h.csq]

theorem planEntry_respond (s : State) (p : Plan) (st : Status) (payload : List Byte) :
    planEntry (respond s st payload) p = respond (planEntry s p) st payload := by
  unfold planEntry executeHeat executeExtend executeCool executeGuard executePaused
  have hcycle := (aside_respond st payload).setCycle
  have hremembered : applyRemembered (respond s st payload) p = respond (applyRemembered s p) st payload := by
    unfold applyRemembered
    rw [show (respond s st payload).csq = s.csq from rfl]
    split <;> rfl
  split
  case h_5 =>
    dsimp only
    rw [hremembered, hcycle]
    rfl
  case h_6 | h_7 | h_8 | h_9 => rfl
  all_goals
    dsimp only
    rw [hcycle]
    rfl

/-- The answer is aside from the execution of a plan. -/
theorem executePlan_respond (s : State) (p : Plan) (st : Status) (payload : List Byte) :
    executePlan (respond s st payload) p = respond (executePlan s p) st payload := by
  rw [executePlan_eq, executePlan_eq]
  have hclear : orderClear (respond s st payload) = respond (orderClear s) st payload := rfl
  have hends : planEnds (respond (orderClear s) st payload) p = planEnds (orderClear s) p := rfl
  rw [hclear, hends]
  split
  · rw [(aside_respond st payload).enterDone, (aside_respond st payload).requestRecord]
    rfl
  · rw [(aside_respond st payload).requestRecord, planEntry_respond]

theorem takeForce_respond (s : State) (r : Record) (st : Status) (payload : List Byte) :
    respond (takeForce s r) st payload = executePlan
      { respond s st payload with
        csq := { s.csq with desc := r.desc, cyc := r.cyc },
        rpl := { s.rpl with state := .made, plan := remakePlan s r },
        pnl := { (respond s st payload).pnl with evPlan := true } } (remakePlan s r) := by
  unfold takeForce
  dsimp only
  rw [← executePlan_respond]
  rfl

/-! ## Settled states -/

theorem aside_blur : Aside Safety.blur :=
  ⟨fun _ => rfl, fun _ => rfl, fun _ => rfl, fun _ => rfl, fun _ => rfl, fun _ _ => rfl, fun _ _ => rfl, fun _ _ => rfl,
    fun _ => rfl⟩

theorem requestRecord_settled (h : Settled s t) (kind : RecordKind) (reason : EndReason) :
    Settled (requestRecord s kind reason) (requestRecord t kind reason) := by
  unfold Settled
  rw [aside_blur.requestRecord, aside_blur.requestRecord, show Safety.blur t = Safety.blur s from h]

theorem setCycle_settled (h : Settled s t) (st : CycleState) : Settled (setCycle s st) (setCycle t st) := by
  unfold Settled
  rw [aside_blur.setCycle, aside_blur.setCycle, show Safety.blur t = Safety.blur s from h]

/-- An isolation, but for the pending steps that join the cover (R179): NO_ID is never replaced, and the first cause alone
raises the line event. -/
theorem isolate_settled (s : State) (c : IsoCause) : Settled
    { s with fsu := { s.fsu with isolated := if s.fsu.isolated = some .noId then some .noId else some c },
             pnl := { s.pnl with evLine := s.pnl.evLine || s.fsu.isolated.isNone } } (isolate s c) := by
  have cover : ∀ v k, Settled v (coverIf v true k) := fun v k =>
    Safety.settled_ite (Safety.setStep_settled v k .cover) (Settled.refl v)
  cases hi : s.fsu.isolated with
  | none =>
    have hcover := ((cover (s.setFsu { s.fsu with isolated := some c }) .start).trans (cover _ .stage1)).trans (cover _ .stage2)
    unfold isolate
    rw [hi]
    simp only [Option.isNone_none, Bool.or_true]
    exact congrArg raiseLine hcover
  | some d =>
    unfold isolate
    rw [hi]
    simp only [Option.isNone_some, Bool.or_false, Option.some.injEq]
    cases d with
    | noId =>
      rw [if_pos rfl]
      change Settled (s.setFsu { s.fsu with isolated := some .noId }) s
      rw [← hi]
      rfl
    | txFail => rfl
    | lineFault => rfl

/-- CONFIG is left alike from states that settling alone tells apart. -/
theorem leaveConfig_settled (h : Settled s t) : Settled (leaveConfig s) (leaveConfig t) := by
  unfold leaveConfig enterPlanning
  rw [h.pjr]
  split
  · exact congrArg (State.setRpl · _) (setCycle_settled h .planning)
  · exact setCycle_settled (s := orderClear s) (t := orderClear t) (congrArg orderClear h) .idle

/-- The settings handed out, before a station of id 0 is isolated (R180, R185). -/
def configured (s : State) (x : Settings) : State :=
  { s with settings := x, pnl := { s.pnl with setupDone := true },
           fsu := { s.fsu with listenIn := some 3000000, effective := x.budget } }

theorem applySettings_eq (s : State) (x : Settings) : applySettings s x =
    if s.scv.strapDone && s.scv.stationId = 0 then isolate (configured s x) .noId else configured s x := rfl

theorem applySettings_settled (s : State) (x : Settings) : Settled
    { s with
      settings := x,
      fsu := { s.fsu with
        listenIn := some 3000000,
        isolated := if s.scv.strapDone && s.scv.stationId = 0 then some .noId else s.fsu.isolated },
      pnl := { s.pnl with
        setupDone := true,
        evLine := s.pnl.evLine || (s.scv.strapDone && s.scv.stationId = 0 && s.fsu.isolated.isNone) } }
    (applySettings s x) := by
  rw [applySettings_eq]
  split
  case isTrue hid =>
    have hiso := isolate_settled (configured s x) .noId
    rw [ite_self] at hiso
    rw [hid, Bool.true_and]
    exact hiso
  case isFalse hid =>
    rw [Bool.eq_false_iff.2 hid, Bool.false_and, Bool.or_false]
    rfl

/-- A taken SETUP as the unit and the sequencer see it (R21, R180, R185). -/
theorem setup_settled (s : State) (x : Settings) (h : s.csq.state = .config) : Settled
    { s with
      settings := x,
      csq := { s.csq with state := if s.pjr.activeFound then .planning else .idle, ready := .none },
      rpl := if s.pjr.activeFound then { state := .making, plan := .reset, basis := none } else s.rpl,
      hdm := if s.pjr.activeFound then s.hdm else { s.hdm with clockLost := false, doorLatch := false },
      fsu := { s.fsu with
        listenIn := some 3000000,
        isolated := if s.scv.strapDone && s.scv.stationId = 0 then some .noId else s.fsu.isolated },
      pnl := { s.pnl with
        setupDone := true, evPhase := true,
        evLine := s.pnl.evLine || (s.scv.strapDone && s.scv.stationId = 0 && s.fsu.isolated.isNone) } }
    (leaveConfig (applySettings s x)) := by
  refine Settled.trans ?_ (leaveConfig_settled (applySettings_settled s x))
  have hne : ∀ st, st ≠ .config → s.csq.state ≠ st := fun st hst hc => hst (hc.symm.trans h)
  unfold leaveConfig enterPlanning
  rw [setCycle_of_ne (by exact hne _ (by decide)), setCycle_of_ne (by exact hne _ (by decide))]
  by_cases ha : s.pjr.activeFound = true
  · rw [if_pos ha]
    simp only [ha, if_true]
    rfl
  · rw [if_neg ha]
    simp only [ha, Bool.false_eq_true, if_false]
    rfl

/-! ## RESET -/

theorem takeReset_respond (s : State) (st : Status) (payload : List Byte) :
    respond (takeReset s) st payload =
      (if s.csq.cyc.phase.active = true ∧ s.csq.state ≠ .planning then
        requestRecord { respond s st payload with
          csq := { s.csq with endReason := .hostReset, endAwaited := true },
          pnl := { (respond s st payload).pnl with resetPending := true } } .finish .hostReset
      else { respond s st payload with pnl := { (respond s st payload).pnl with resetPending := true } }) := by
  unfold takeReset
  by_cases h : s.csq.cyc.phase.active = true ∧ s.csq.state ≠ .planning
  · rw [if_pos h, if_pos (by simpa using h)]
    refine (congrArg (respond · st payload) (requestRecord_awaited (s := s.setCsq _) rfl _ _).1.symm).trans ?_
    exact (aside_respond st payload).requestRecord _ _ _
  · rw [if_neg h, if_neg (by simpa using h)]
    rfl

theorem takeReset_state (s : State) : (takeReset s).csq.state = s.csq.state := by
  unfold takeReset
  dsimp only
  split
  · exact (requestRecord_awaited (s := s.setCsq _) rfl _ _).2
  · rfl

theorem evPlan_of_settled (h : Settled s t) : t.pnl.evPlan = s.pnl.evPlan :=
  congrArg (fun v => v.pnl.evPlan) h

theorem setCycle_evPlan (s : State) (st : CycleState) : (setCycle s st).pnl.evPlan = s.pnl.evPlan := by
  unfold setCycle
  split <;> rfl

theorem enterDone_evPlan (s : State) (reason : EndReason) : (enterDone s reason).pnl.evPlan = s.pnl.evPlan := by
  unfold enterDone
  dsimp only
  rw [(requestRecord_stays (by simp) _ _).2.1, setCycle_evPlan]
  rfl

/-- The execution of a plan leaves the plan-ready event as it was. -/
theorem executePlan_evPlan (s : State) (p : Plan) (h : s.csq.state ≠ .loss) :
    (executePlan s p).pnl.evPlan = s.pnl.evPlan := by
  rw [executePlan_eq]
  split
  · rw [enterDone_evPlan, (requestRecord_stays (s := setClass (orderClear s) 2) h _ _).2.1]
    rfl
  · rw [(requestRecord_stays (planEntry_state_ne (orderClear s) p h) _ _).2.1]
    unfold planEntry executeHeat executeExtend executeCool executeGuard executePaused
    split
    case h_5 =>
      rw [setCycle_evPlan]
      simp [setCyc, orderClear]
    case h_6 | h_7 | h_8 | h_9 => rfl
    all_goals
      rw [setCycle_evPlan]
      rfl

end Sys2Proof.Machine

namespace Sys2Proof.Proofs

open Sys2Proof.Machine Sys2Proof.Safety

/-- Settles O17. -/
theorem confirmAndDeclineTaken : Obligations.ConfirmAndDeclineTaken := by
  unfold Obligations.ConfirmAndDeclineTaken
  refine fun s hpow hres hst => ⟨fun hdoor => ?_, ?_⟩
  · obtain ⟨t, ht, -, hset⟩ := command_taken (l := 0) (p := []) (n := 0) (st := .ok) (payload := []) (body := confirmBody)
      (u := takeConfirm (openFrame s [0] false)) false hpow rfl rfl hres (by
        unfold confirmBody
        rw [if_pos (by exact hst), if_neg (by exact ne_true_of_eq_false hdoor)])
    have hset' : Settled (setDisposition (executePlan (answered s 1 false .ok []) s.rpl.plan) .executed) t := by
      rw [show answered s 1 false .ok [] = respond (openFrame s [0] false) .ok [] from rfl, executePlan_respond]
      exact hset
    refine ⟨t, ht, ?_, hset'⟩
    rw [hset'.rpl]
    rfl
  · obtain ⟨t, ht, -, hset⟩ := command_taken (l := 0) (p := []) (n := 0) (st := .ok) (payload := []) (body := declineBody)
      (u := takeDecline (openFrame s [0] false)) false hpow rfl rfl hres (if_pos hst)
    refine ⟨t, ht, ?_⟩
    have hne : (orderClear (openFrame s [0] false)).csq.state ≠ .done := fun h => absurd (hst.symm.trans h) (by decide)
    unfold takeDecline at hset
    rw [enterDone_eq hne, setDisposition_requestRecord (by exact CycleState.noConfusion),
      (aside_respond _ _).requestRecord] at hset
    exact hset

/-- Settles O18: the plan is the one remade from the kept record, and its execution keeps it. -/
theorem forceTaken : Obligations.ForceTaken := by
  unfold Obligations.ForceTaken
  intro s r hpow hres hst hdoor hbasis hactive unknown p
  have hplan : remakePlan (openFrame s [0] false) r = p := by
    have hunknown : (s.scv.exhFault != .none || s.scv.refFault) = unknown := by simp [unknown, bne, BEq.beq]
    unfold remakePlan Plan.sourced coolingOf
    change resumeFrom r s.settings.reheatRate _ = resumeFrom r s.settings.reheatRate _
    dsimp only
    rw [show ((openFrame s [0] false).scv.exhFault != .none || (openFrame s [0] false).scv.refFault) = unknown
      from hunknown]
    rfl
  clear_value p
  obtain ⟨t, ht, -, hset⟩ := command_taken (l := 0) (p := []) (n := 0) (st := .ok) (payload := []) (body := forceBody)
    (u := takeForce (openFrame s [0] false) r) false hpow rfl rfl hres (by
      unfold forceBody
      rw [if_pos (by exact hst), if_neg (by exact ne_true_of_eq_false hdoor),
        show (openFrame s [0] false).rpl.basis = some r from hbasis]
      exact if_pos hactive)
  rw [takeForce_respond, hplan] at hset
  have hloss : s.csq.state ≠ .loss := by rw [hst]; decide
  rw [show answered s 1 false .ok [] = respond (openFrame s [0] false) .ok [] from rfl]
  refine ⟨t, ht, ?_, ?_, ?_, ?_, hset⟩
  · rw [hset.rpl, (executePlan_leaves _ p (by exact hloss)).2.2]
  · rw [hset.rpl, (executePlan_leaves _ p (by exact hloss)).2.2]
    exact hbasis
  · rw [hset.rpl, (executePlan_leaves _ p (by exact hloss)).2.2]
  · rw [evPlan_of_settled hset, executePlan_evPlan _ p (by exact hloss)]

/-- Settles O22: the reset pending is aside from the END record that it awaits. -/
theorem twoStepReset : Obligations.TwoStepReset := by
  unfold Obligations.TwoStepReset
  refine fun s hpow hres => ⟨?_, fun hen => ?_, fun hen => ?_⟩
  · exact (command_judged (l := 0) (p := []) true enableBody hpow rfl rfl hres)
  · refine (command_judged (l := 0) (p := []) true resetBody hpow rfl rfl hres).trans (congrArg Host.Outcome.next ?_)
    exact if_neg (ne_true_of_eq_false hen)
  · obtain ⟨t, ht, htaken, hset⟩ := command_taken (l := 0) (p := []) (n := 0) (st := .ok) (payload := []) (body := resetBody)
      (u := takeReset (clearEnable (openFrame s [0] true))) true hpow rfl rfl hres (if_pos hen)
    have hstate : t.csq.state = s.csq.state := hset.csq ▸ takeReset_state _
    have hpending : (respond (takeReset (clearEnable (openFrame s [0] true))) .ok []).pnl.resetPending = true := rfl
    refine ⟨t, ht, ?_, ?_, hstate, ?_⟩
    · rw [motorRun_of_settled hset, motorRun, hpending]
      rfl
    · rw [heaterWant_of_settled hset, heaterWant_of_idle (.inl hpending)]
    · rw [takeReset_respond] at hset
      exact hset

/-- Settles O12: the settings and the isolation first, then CONFIG is left. -/
theorem setupTaken : Obligations.SetupTaken := by
  unfold Obligations.SetupTaken
  intro s l p hpow hl hp hres hset hscan hst hok
  have hgood : ¬ (setupFaults p).any id = true := by
    simp only [List.any_eq_true, not_exists, not_and]
    intro x hx
    simpa using List.all_eq_true.1 hok x hx
  obtain ⟨t, ht, -, hdone⟩ := command_taken (st := .ok) (payload := []) (body := setupBody)
    (u := leaveConfig (applySettings (openFrame s (l :: p) false) (settingsOfBytes p))) false hpow hl hp hres (by
      unfold setupBody
      rw [if_neg (by exact ne_true_of_eq_false hset),
        if_neg (by rw [show (openFrame s (l :: p) false).pjr.scanDone = true from hscan]; decide), if_neg hgood])
  refine ⟨t, ht, ?_⟩
  have hsetup := respond_settled (setup_settled (openFrame s (l :: p) false) (settingsOfBytes p) hst) .ok []
  rw [openFrame_cons s l hp] at hsetup hdone
  exact hsetup.trans hdone

end Sys2Proof.Proofs
end

section
/-! PROOFS. The second (R6, R9 to R14, R18, R53 to R59, R79, R80): the state with its counts, what is due in it, and the moves
that follow. -/

namespace Sys2Proof.Machine

open Safety (Settled secondAfter outputAfter airJudged holdAfter heatSecond extendSecond coolSecond guardSecond heatedAfter
  faultsAfter sampled unsampled heatWindow verdictAfter dryFires holdFires coolEnds)

variable {s v : State}

/-! ## The counts -/

/-- The Output Stage with the second judged and its count begun anew (R79); the cumulative hold is not counted yet. -/
def outputJudged (s : State) : Output :=
  { airJudged s.ost s.settings.airflowMin with airCount := 0, airJudge := s.ost.motor = .running }

theorem airSecond_eq (s : State) : airSecond s = s.setOst (outputJudged s) := by
  have hmotor : ∀ o : Output, ∀ m, (airJudged o m).motor = o.motor := fun o m => by
    unfold airJudged
    repeat' split
    all_goals rfl
  have hjudge : (if s.ost.airJudge then s.ost.judgeAir s.settings.airflowMin else s.ost) =
      airJudged s.ost s.settings.airflowMin := rfl
  unfold airSecond outputJudged
  dsimp only
  rw [hjudge, hmotor]

/-- The state with the counts of a second, before its moves: the cumulative hold is not counted yet. -/
def counted (s : State) (c : CycleRecord) (faults progress : Nat) (d : Dryness) : State :=
  { s with csq := { s.csq with second := 0, cyc := c, faultCount := faults, progress := progress, fired := false },
           dwn := d, ost := outputJudged s }

theorem guardSecond_eq (hst : s.csq.state = .guard) : countCycle s = guardSecond s := by
  unfold countCycle
  rw [hst]
  unfold countGuard guardSecond
  cases hb : s.csq.cyc.burst <;> by_cases hm : s.ost.motor = .stopped <;> by_cases ht : s.csq.cyc.burstTimer ≤ 1
  all_goals simp [hm, ht, hb, Nat.not_lt.2, Nat.lt_of_not_le]

theorem coolSecond_eq (hst : s.csq.state = .cool) : countCycle s = coolSecond s := by
  unfold countCycle
  rw [hst]
  unfold countCool coolSecond
  by_cases hm : s.ost.motor = .stopped
  all_goals simp [hm]

theorem extendSecond_eq (hst : s.csq.state = .extend) : countCycle s = extendSecond s := by
  unfold countCycle
  rw [hst]
  unfold countExtend extendSecond heatedAfter
  dsimp only
  split <;> simp

theorem heatSecond_eq (hst : s.csq.state = .heat) : countCycle s = heatSecond s := by
  unfold countCycle
  rw [hst]
  rfl

section
variable (hres : s.pnl.resetPending = false)
include hres

theorem counts_eq : airSecond (countSecond s) =
    counted s (countCycle s) (countFaults s) (countProgress s) s.dwn := by
  rw [airSecond_eq, countSecond, if_neg (by rw [hres]; decide)]
  rfl

/-- A second of HEAT: the sample and the test, and the moves (R53, R56). -/
theorem secondBody_of_heat (hst : s.csq.state = .heat) : secondBody s =
    moveSecond (counted s (heatSecond s) (faultsAfter s) (s.csq.progress + 1) (heatWindow s))
      ((verdictAfter s).all && !s.dwn.reported) := by
  have hfaults : countFaults s = faultsAfter s := by rw [countFaults, hst]; rfl
  have hprogress : countProgress s = s.csq.progress + 1 := by rw [countProgress, hst]; rfl
  have hsample : s.dwn.sample true = sampled s.dwn := by simp [Dryness.sample, sampled]
  have htest : dryTest (sampled s.dwn) (heatedAfter s) s.csq.desc = verdictAfter s := rfl
  unfold secondBody
  dsimp only
  rw [counts_eq hres, heatSecond_eq hst, hfaults, hprogress]
  have hheat : (counted s (heatSecond s) (faultsAfter s) (s.csq.progress + 1) s.dwn).csq.state = .heat := hst
  have hdry : drySecond (counted s (heatSecond s) (faultsAfter s) (s.csq.progress + 1) s.dwn) =
      counted s (heatSecond s) (faultsAfter s) (s.csq.progress + 1) (heatWindow s) := by
    unfold drySecond
    rw [hheat]
    dsimp only
    rw [if_pos rfl]
    change State.setDwn _ { s.dwn.sample true with
      verdict := dryTest (s.dwn.sample true) (heatedAfter s) s.csq.desc,
      reported := (s.dwn.sample true).reported || (dryTest (s.dwn.sample true) (heatedAfter s) s.csq.desc).all } = _
    rw [hsample, htest]
    rfl
  have hdue : dryDue (counted s (heatSecond s) (faultsAfter s) (s.csq.progress + 1) s.dwn) =
      ((verdictAfter s).all && !s.dwn.reported) := by
    unfold dryDue
    rw [hheat]
    change (true && !s.dwn.reported && (dryTest (s.dwn.sample true) (heatedAfter s) s.csq.desc).all) = _
    rw [hsample, htest, Bool.true_and, Bool.and_comm]
  rw [hdry, hdue]

/-- A second outside HEAT: the moves follow the counts and, in EXTEND, the sample (R53). -/
theorem secondBody_of_ne (hst : s.csq.state ≠ .heat) : secondBody s =
    moveSecond (counted s (countCycle s) (countFaults s) (countProgress s) (s.dwn.sample s.csq.state.heats)) false := by
  unfold secondBody
  dsimp only
  rw [counts_eq hres]
  have hdry : drySecond (counted s (countCycle s) (countFaults s) (countProgress s) s.dwn) =
      counted s (countCycle s) (countFaults s) (countProgress s) (s.dwn.sample s.csq.state.heats) :=
    if_neg (by exact hst)
  have hdue : dryDue (counted s (countCycle s) (countFaults s) (countProgress s) s.dwn) = false := by
    unfold dryDue
    rw [show (counted s (countCycle s) (countFaults s) (countProgress s) s.dwn).csq.state = s.csq.state from rfl]
    simp [hst]
  rw [hdry, hdue]

theorem secondBody_of_extend (hst : s.csq.state = .extend) : secondBody s =
    moveSecond (counted s (extendSecond s) (faultsAfter s) (s.csq.progress + 1) (sampled s.dwn)) false := by
  have hsample : s.dwn.sample true = sampled s.dwn := by simp [Dryness.sample, sampled]
  rw [secondBody_of_ne hres (by rw [hst]; decide), extendSecond_eq hst, countFaults, countProgress, hst]
  exact congrArg (fun d => moveSecond (counted s _ _ _ d) false) hsample

theorem secondBody_of_cool (hst : s.csq.state = .cool) : secondBody s =
    moveSecond (counted s (coolSecond s) s.csq.faultCount (s.csq.progress + 1) (unsampled s.dwn)) false := by
  rw [secondBody_of_ne hres (by rw [hst]; decide), coolSecond_eq hst, countFaults, countProgress, hst]
  rfl

theorem secondBody_of_guard (hst : s.csq.state = .guard) : secondBody s =
    moveSecond (counted s (guardSecond s) s.csq.faultCount (s.csq.progress + 1) (unsampled s.dwn)) false := by
  rw [secondBody_of_ne hres (by rw [hst]; decide), guardSecond_eq hst, countFaults, countProgress, hst]
  rfl

theorem secondBody_of_not_runs (hst : s.csq.state.runs = false) : secondBody s =
    moveSecond (counted s s.csq.cyc s.csq.faultCount s.csq.progress (unsampled s.dwn)) false := by
  have hheat : s.csq.state ≠ .heat := by
    intro h
    rw [h] at hst
    cases hst
  have hheats : s.csq.state.heats = false := by
    cases hc : s.csq.state <;> simp_all [CycleState.runs, CycleState.heats]
  have hcycle : countCycle s = s.csq.cyc := by
    unfold countCycle
    cases hc : s.csq.state <;> simp_all [CycleState.runs]
  rw [secondBody_of_ne hres hheat, hcycle, countFaults, hheats, countProgress, hst]
  rfl

end

/-! ## What is due -/

section
variable (s) (c : CycleRecord) (f p : Nat) (d : Dryness)

theorem outputJudged_hold : (outputJudged s).cumHold = s.ost.cumHold ∧ (outputJudged s).airReported = s.ost.airReported ∧
    (outputJudged s).airHold = holdAfter s := by
  unfold outputJudged holdAfter airJudged
  repeat' split
  all_goals exact ⟨rfl, rfl, rfl⟩

theorem holdCounts_counted : holdCounts (counted s c f p d) = (s.csq.state.heats && holdAfter s) := by
  unfold holdCounts
  rw [show (counted s c f p d).ost.airHold = holdAfter s from (outputJudged_hold s).2.2]
  rfl

theorem holdReports_counted : holdReports (counted s c f p d) = true ↔ holdFires s := by
  obtain ⟨hcum, hrep, -⟩ := outputJudged_hold s
  unfold holdReports
  rw [holdCounts_counted, show (counted s c f p d).ost.cumHold = s.ost.cumHold from hcum,
    show (counted s c f p d).ost.airReported = s.ost.airReported from hrep]
  simp [and_assoc]

/-- The cumulative hold after a second at which it reports nothing (R80). -/
theorem holdCount_counted (h : ¬ holdFires s) :
    holdCount (counted s c f p d) = { counted s c f p d with ost := outputAfter s } := by
  obtain ⟨hcum, hrep, -⟩ := outputJudged_hold s
  have hreports : holdReports (counted s c f p d) = false := by simpa using mt (holdReports_counted s c f p d).1 h
  unfold holdCount outputAfter
  rw [holdCounts_counted, hreports]
  split
  · rw [Bool.or_false, show (counted s c f p d).ost.cumHold = s.ost.cumHold from hcum]
    rfl
  · rw [← hcum]
    rfl

/-- The cumulative hold after a second at which it is reported (R80). -/
theorem holdCount_fires (h : holdFires s) : holdCount (counted s c f p d) =
    { counted s c f p d with ost := { outputAfter s with airReported := true } } := by
  obtain ⟨hcum, hrep, -⟩ := outputJudged_hold s
  have hreports : holdReports (counted s c f p d) = true := (holdReports_counted s c f p d).2 h
  have hcounts : (s.csq.state.heats && holdAfter s) = true := by rw [h.1, h.2.1]; rfl
  unfold holdCount outputAfter
  rw [holdCounts_counted, hreports, hcounts, Bool.or_true, show (counted s c f p d).ost.cumHold = s.ost.cumHold from hcum]
  rfl

end

/-! ## The moves of a second -/

theorem ownMoves_of_idle (hfault : faultDue v = false) (htest : testDue v = false) (st : CycleState) : ownMoves v st = v := by
  unfold ownMoves testMove
  rw [hfault, htest]
  simp

theorem ownMoves_of_ne {st : CycleState} (h : v.csq.state ≠ st) : ownMoves v st = v := if_neg h

/-- The dues of a second depend on the sequencer's state and counts, the converter and the window alone. -/
theorem dues_congr {w : State} (hstate : w.csq.state = v.csq.state) (hcyc : w.csq.cyc = v.csq.cyc)
    (hdesc : w.csq.desc = v.csq.desc) (hfault : w.csq.faultCount = v.csq.faultCount) (hscv : w.scv = v.scv)
    (hdwn : w.dwn = v.dwn) (hres : w.pnl.resetPending = v.pnl.resetPending) :
    faultDue w = faultDue v ∧ testDue w = testDue v := by
  unfold faultDue testDue coolOver exhCool
  rw [hstate, hcyc, hdesc, hfault, hscv, hdwn, hres]
  exact ⟨rfl, rfl⟩

theorem holdCount_csq (v : State) : (holdCount v).csq = v.csq ∧ (holdCount v).pnl = v.pnl := by
  unfold holdCount
  split <;> exact ⟨rfl, rfl⟩

theorem holdCount_dues (v : State) : faultDue (holdCount v) = faultDue v ∧ testDue (holdCount v) = testDue v := by
  have hframe : (holdCount v).scv = v.scv ∧ (holdCount v).dwn = v.dwn := by
    unfold holdCount
    split <;> exact ⟨rfl, rfl⟩
  obtain ⟨hcsq, hpnl⟩ := holdCount_csq v
  exact dues_congr (by rw [hcsq]) (by rw [hcsq]) (by rw [hcsq]) (by rw [hcsq]) hframe.1 hframe.2 (by rw [hpnl])

theorem orderWhen_false (v : State) : orderWhen false v = (true, v) := rfl

theorem progressMove_of_lt (h : v.csq.progress < 20) : progressMove v = v := by
  unfold progressMove
  rw [if_neg]
  simp only [Bool.and_eq_true, decide_eq_true_eq, not_and]
  omega

theorem progressMove_of_not_runs (h : v.csq.state.runs = false) : progressMove v = v := by
  unfold progressMove
  rw [h]
  simp

/-- A second in which the sequencer does not move and nothing is reported: the PROGRESS record, if it is due, and then the
cumulative hold. -/
theorem moveSecond_calm (hfault : faultDue v = false) (htest : testDue v = false) (hrep : holdReports v = false)
    (hafter : faultDue (progressMove v) = false ∧ testDue (progressMove v) = false ∧ holdReports (progressMove v) = false) :
    moveSecond v false = holdCount (progressMove v) := by
  obtain ⟨hf, ht, hr⟩ := hafter
  unfold moveSecond
  dsimp only
  rw [hfault, htest, hrep]
  simp only [Bool.false_and, Bool.or_self, Bool.and_self, orderWhen_false, if_true]
  have hhold : holdSecond (progressMove v) = holdCount (progressMove v) := by
    unfold holdSecond
    rw [hr]
    rfl
  unfold allMoves
  simp only [Bool.not_true, Bool.false_eq_true, if_false, if_true]
  rw [hhold]
  unfold dryAndOwn dryMove
  simp only [Bool.false_eq_true, if_false, if_true]
  exact ownMoves_of_idle ((holdCount_dues _).1.trans hf) ((holdCount_dues _).2.trans ht) _

/-- The moves of a second with no cumulative hold and no PROGRESS record: the dry-point report and the sequencer's own moves,
whose order is free where both are due (R59). -/
theorem moveSecond_of_moves (dry : Bool) (hhold : holdCounts v = false) (hprog : v.csq.progress < 20) :
    moveSecond v dry = dryAndOwn (orderWhen (dry && (faultDue v || testDue v)) v).2 v.csq.state dry
      (orderWhen (dry && (faultDue v || testDue v)) v).1 := by
  have hrep : holdReports v = false := by unfold holdReports; rw [hhold]; rfl
  have hlt : ¬ 20 ≤ v.csq.progress := Nat.not_le.2 hprog
  have same : ∀ b, ∃ n, (orderWhen b v).2 = v.setFreeCount n := fun b => by
    cases b
    · exact ⟨v.freeCount, rfl⟩
    · exact ⟨v.freeCount + 1, rfl⟩
  obtain ⟨n, hn⟩ := same (dry && (faultDue v || testDue v))
  unfold moveSecond
  dsimp only
  rw [hhold, hrep]
  simp only [hlt, decide_false, Bool.and_false, orderWhen_false, if_true]
  rw [hn, progressMove_of_lt (by exact hprog)]
  unfold allMoves holdSecond holdReport
  rw [show holdReports (v.setFreeCount n) = false from hrep,
    show holdCount (v.setFreeCount n) = v.setFreeCount n from if_neg (by rw [show holdCounts (v.setFreeCount n) = false from hhold]; decide)]
  simp only [Bool.not_true, Bool.false_eq_true, if_false, if_true]
  rfl

end Sys2Proof.Machine
end

section
/-! PROOFS. The second's rows (R6, R9 to R14, R18, R53 to R59, R79, R80): what each outcome makes of the counted state. -/

namespace Sys2Proof.Machine

open Safety (Settled secondAfter outputAfter airJudged holdAfter heatSecond extendSecond coolSecond guardSecond heatedAfter
  faultsAfter sampled unsampled heatWindow verdictAfter dryFires holdFires coolEnds)

variable {s v : State}

/-! ## The row -/

/-- The second leads to what its body makes, settled. -/
theorem second_leads {u : State} (hpow : s.mainPowered = true) (h : secondBody s = u) :
    ∃ t, exec .sequencerSecond s = .next t ∧ Settled u t :=
  ⟨finish true s (secondBody s), congrArg Host.Outcome.next (if_pos (by rw [hpow]; rfl)), h ▸ Safety.finish_settled true s _⟩

/-- A row of the second that is due is the second's own (log entry 18). -/
theorem mainEvent_second {due : Bool} {t : State} (hdue : due = true) (h : exec .sequencerSecond s = .next t) :
    mainEvent due true secondBody s = .next t := by
  rw [hdue]
  exact h

/-! ## The dues of the counted state -/

theorem not_holdFires (h : s.csq.state.heats = false) : ¬ holdFires s := fun hf => by simpa [h] using hf.1

section
variable (c : CycleRecord) (f p : Nat) (d : Dryness) (hres : s.pnl.resetPending = false)
include hres

theorem faultDue_counted : faultDue (counted s c f p d) = (s.csq.state.heats && decide (30 ≤ f)) := by
  unfold faultDue
  rw [show (counted s c f p d).pnl.resetPending = false from hres]
  rfl

theorem testDue_counted_heat (hst : s.csq.state = .heat) :
    testDue (counted s c f p d) = decide (s.csq.desc.maxHeat ≤ c.heated) := by
  unfold testDue
  rw [show (counted s c f p d).pnl.resetPending = false from hres, show (counted s c f p d).csq.state = .heat from hst]
  rfl

theorem testDue_counted_extend (hst : s.csq.state = .extend) :
    testDue (counted s c f p d) = (decide (c.extTotal ≤ c.extDone) || decide (s.csq.desc.maxHeat ≤ c.heated)) := by
  unfold testDue
  rw [show (counted s c f p d).pnl.resetPending = false from hres, show (counted s c f p d).csq.state = .extend from hst]
  rfl

theorem testDue_counted_guard (hst : s.csq.state = .guard) :
    testDue (counted s c f p d) = decide (c.guardRemaining = 0) := by
  unfold testDue
  rw [show (counted s c f p d).pnl.resetPending = false from hres, show (counted s c f p d).csq.state = .guard from hst]
  rfl

theorem testDue_counted_not_runs (hst : s.csq.state.runs = false) : testDue (counted s c f p d) = false := by
  unfold testDue
  rw [show (counted s c f p d).pnl.resetPending = false from hres,
    show (counted s c f p d).csq.state = s.csq.state from rfl]
  cases hc : s.csq.state <;> rw [hc] at hst
  case heat | extend | cool | guard => cases hst
  all_goals rfl

theorem testDue_counted_cool (hst : s.csq.state = .cool) :
    testDue (counted s (coolSecond s) f p (unsampled s.dwn)) = true ↔ coolEnds s := by
  unfold testDue
  rw [show (counted s (coolSecond s) f p (unsampled s.dwn)).pnl.resetPending = false from hres,
    show (counted s (coolSecond s) f p (unsampled s.dwn)).csq.state = .cool from hst]
  change (coolOver (counted s (coolSecond s) f p (unsampled s.dwn))) = true ↔ _
  unfold coolOver exhCool coolEnds
  simp only [Bool.or_eq_true, Bool.and_eq_true, decide_eq_true_eq, Bool.not_eq_true', and_assoc]
  rfl

/-- A second in which nothing is due leaves the counted state with its cumulative hold (R6, R80). -/
theorem moveSecond_counted (hfault : s.csq.state.heats = true → f < 30) (hhold : ¬ holdFires s)
    (htest : testDue (counted s c f p d) = false) (hprog : p < 20 ∨ s.csq.state.runs = false) :
    moveSecond (counted s c f p d) false = { counted s c f p d with ost := outputAfter s } := by
  have hf : faultDue (counted s c f p d) = false := by
    rw [faultDue_counted c f p d hres]
    cases hh : s.csq.state.heats with
    | false => rfl
    | true => simpa using hfault hh
  have hr : holdReports (counted s c f p d) = false := by simpa using mt (holdReports_counted s c f p d).1 hhold
  have hp : progressMove (counted s c f p d) = counted s c f p d := by
    rcases hprog with h | h
    · exact progressMove_of_lt h
    · exact progressMove_of_not_runs h
  rw [moveSecond_calm hf htest hr (by rw [hp]; exact ⟨hf, htest, hr⟩), hp]
  exact holdCount_counted s c f p d hhold

section
variable (hprog : s.csq.progress < 19)
include hprog

theorem secondBody_calm_heat (hst : s.csq.state = .heat) (hdry : ¬ dryFires s) (hhold : ¬ holdFires s)
    (hfault : faultsAfter s < 30) (htest : heatedAfter s < s.csq.desc.maxHeat) :
    secondBody s = secondAfter s (heatSecond s) (faultsAfter s) (heatWindow s) := by
  have hno : ((verdictAfter s).all && !s.dwn.reported) = false := by simpa using hdry
  rw [secondBody_of_heat hres hst, hno]
  exact moveSecond_counted _ _ _ _ hres (fun _ => hfault) hhold
    (by rw [testDue_counted_heat _ _ _ _ hres hst]; exact decide_eq_false (Nat.not_le.2 htest)) (.inl (by omega))

theorem secondBody_calm_extend (hst : s.csq.state = .extend) (hhold : ¬ holdFires s) (hfault : faultsAfter s < 30)
    (htest : heatedAfter s < s.csq.desc.maxHeat) (hext : (extendSecond s).extDone < s.csq.cyc.extTotal) :
    secondBody s = secondAfter s (extendSecond s) (faultsAfter s) (sampled s.dwn) := by
  rw [secondBody_of_extend hres hst]
  refine moveSecond_counted _ _ _ _ hres (fun _ => hfault) hhold ?_ (.inl (by omega))
  rw [testDue_counted_extend _ _ _ _ hres hst]
  exact Bool.or_eq_false_iff.2 ⟨decide_eq_false (Nat.not_le.2 hext), decide_eq_false (Nat.not_le.2 htest)⟩

theorem secondBody_calm_cool (hst : s.csq.state = .cool) (hcool : ¬ coolEnds s) :
    secondBody s = secondAfter s (coolSecond s) s.csq.faultCount (unsampled s.dwn) := by
  rw [secondBody_of_cool hres hst]
  exact moveSecond_counted _ _ _ _ hres (by rw [hst]; exact nofun) (not_holdFires (by rw [hst]; rfl))
    (by simpa using mt (testDue_counted_cool _ _ hres hst).1 hcool) (.inl (by omega))

theorem secondBody_calm_guard (hst : s.csq.state = .guard) (hguard : (guardSecond s).guardRemaining ≠ 0) :
    secondBody s = secondAfter s (guardSecond s) s.csq.faultCount (unsampled s.dwn) := by
  rw [secondBody_of_guard hres hst]
  exact moveSecond_counted _ _ _ _ hres (by rw [hst]; exact nofun) (not_holdFires (by rw [hst]; rfl))
    (by rw [testDue_counted_guard _ _ _ _ hres hst]; simpa using hguard) (.inl (by omega))

end

theorem secondBody_calm_idle (hst : s.csq.state.runs = false) : secondBody s =
    { s with csq := { s.csq with second := 0, fired := false }, dwn := unsampled s.dwn, ost := outputAfter s } := by
  have hheats : s.csq.state.heats = false := by
    cases hc : s.csq.state <;> rw [hc] at hst
    case heat | extend => cases hst
    all_goals rfl
  rw [secondBody_of_not_runs hres hst]
  exact moveSecond_counted _ _ _ _ hres (by rw [hheats]; exact nofun) (not_holdFires hheats)
    (testDue_counted_not_runs _ _ _ _ hres hst) (.inr hst)

end

end Sys2Proof.Machine

namespace Sys2Proof.Proofs

open Sys2Proof.Machine Sys2Proof.Safety

/-- Settles O24: by the cycle state, a second in which nothing is due. -/
theorem secondCounts : Obligations.SecondCounts := by
  unfold Obligations.SecondCounts
  intro s hpow hres hprog
  refine ⟨fun hst hdry hhold hfault htest => ?_, fun hst hhold hfault htest hext => ?_, fun hst hcool => ?_,
    fun hst hguard => ?_, fun hst => ?_⟩
  · exact second_leads hpow (secondBody_calm_heat hres hprog hst hdry hhold hfault htest)
  · exact second_leads hpow (secondBody_calm_extend hres hprog hst hhold hfault htest hext)
  · exact second_leads hpow (secondBody_calm_cool hres hprog hst hcool)
  · obtain ⟨t, ht, hset⟩ := second_leads hpow (secondBody_calm_guard hres hprog hst hguard)
    refine ⟨t, ht, hset, fun hburst hcounts => mainEvent_second ?_ ht⟩
    unfold burstDue
    rw [hres, hst]
    simpa [hburst] using hcounts
  · exact second_leads hpow (secondBody_calm_idle hres hst)

end Sys2Proof.Proofs
end

section
/-! PROOFS. The moves of a second (R9 to R14, R18, R59, R80): the state that each enters, and the record it requests. -/

namespace Sys2Proof.Machine

open Safety (Settled secondAfter outputAfter airJudged holdAfter heatSecond extendSecond coolSecond guardSecond heatedAfter
  faultsAfter sampled unsampled heatWindow verdictAfter dryFires holdFires coolEnds cooled entered ended)

variable {s v : State}

/-! ## The states entered -/

theorem enterExtend_eq (h : v.csq.state ≠ .extend) : enterExtend v = requestRecord
    (entered { v with csq := { v.csq with faultCount := 0 } } .extend
      { v.csq.cyc with phase := .extend, phaseElapsed := 0 }) .phase .none := by
  unfold enterExtend
  dsimp only
  rw [setCycle_of_ne (by exact h)]
  rfl

theorem enterGuard_eq (h : v.csq.state ≠ .guard) : enterGuard v = requestRecord
    (entered v .guard { v.csq.cyc with phase := .guard, phaseElapsed := 0, guardRemaining := v.csq.desc.guardTotal,
                                       burst := .rest, burstTimer := v.csq.desc.guardRest }) .phase .none := by
  unfold enterGuard
  dsimp only
  rw [setCycle_of_ne (by exact h)]
  rfl

/-- COOL entered with reason flags set (R10, R11). -/
theorem enterCool_reasons (h : v.csq.state ≠ .cool) (f : Reasons → Reasons) :
    enterCool (setReasons v f) = requestRecord (cooled v { v.csq.cyc with reasons := f v.csq.cyc.reasons }) .phase .none := by
  rw [enterCool_eq (by exact h)]
  rfl

theorem cooled_requested (v : State) (c : CycleRecord) :
    (requestRecord (cooled v c) .phase .none).csq.state = .cool :=
  (requestRecord_stays (s := cooled v c) (by exact CycleState.noConfusion) .phase .none).2.2.1

theorem faultMove_eq (h : faultDue v = true) (hst : v.csq.state ≠ .cool) : faultMove v = requestRecord
    (cooled (raiseFault v) { v.csq.cyc with reasons := { v.csq.cyc.reasons with sensorFault := true } }) .phase .none := by
  unfold faultMove
  rw [if_pos h]
  exact enterCool_eq (by exact hst)

theorem airflowFaultReport_eq (hres : v.pnl.resetPending = false) (hst : v.csq.state.heats = true) :
    airflowFaultReport v = requestRecord
      (cooled (raiseFault v) { v.csq.cyc with reasons := { v.csq.cyc.reasons with airflowFault := true } })
      .phase .none := by
  unfold airflowFaultReport
  rw [if_neg (by rw [hres]; decide)]
  dsimp only
  rw [if_pos (by exact hst)]
  refine enterCool_eq (fun h => ?_)
  rw [show v.csq.state = .cool from h] at hst
  cases hst

section
variable (h : testDue v = true)
include h

theorem testMove_heat (hst : v.csq.state = .heat) : testMove v = requestRecord
    (cooled v { v.csq.cyc with reasons := { v.csq.cyc.reasons with heatLimit := true } }) .phase .none := by
  unfold testMove
  rw [if_pos h, hst]
  exact enterCool_reasons (by rw [hst]; decide) _

theorem testMove_extend (hst : v.csq.state = .extend) :
    testMove v = requestRecord (cooled v v.csq.cyc) .phase .none := by
  unfold testMove
  rw [if_pos h, hst]
  exact enterCool_eq (by rw [hst]; decide)

theorem testMove_cool (hst : v.csq.state = .cool) : testMove v =
    if 0 < v.csq.desc.guardTotal then requestRecord
      (entered v .guard { v.csq.cyc with phase := .guard, phaseElapsed := 0, guardRemaining := v.csq.desc.guardTotal,
                                         burst := .rest, burstTimer := v.csq.desc.guardRest }) .phase .none
    else requestRecord (ended v .complete v.csq.cyc) .finish .complete := by
  unfold testMove
  rw [if_pos h, hst, ← enterGuard_eq (by rw [hst]; decide), ← enterDone_eq (by rw [hst]; decide)]

theorem testMove_guard (hst : v.csq.state = .guard) :
    testMove v = requestRecord (ended v .complete v.csq.cyc) .finish .complete := by
  unfold testMove
  rw [if_pos h, hst, ← enterDone_eq (by rw [hst]; decide)]

end

/-- The dry-point report in HEAT (R9): EXTEND is entered, or COOL with nothing to extend. -/
theorem dryMove_eq (hres : v.pnl.resetPending = false) (hst : v.csq.state = .heat) {ext : Nat}
    (hext : dryExtension v.csq.cyc.heated v.csq.desc.x v.csq.desc.maxHeat = ext) :
    dryMove v true =
      if 0 < ext then requestRecord
        (entered { v with csq := { v.csq with faultCount := 0 } } .extend
          { v.csq.cyc with tDry := v.csq.cyc.heated, extTotal := ext, extDone := 0, phase := .extend, phaseElapsed := 0 })
        .phase .none
      else requestRecord
        (cooled v { v.csq.cyc with tDry := v.csq.cyc.heated, extTotal := ext, extDone := 0 }) .phase .none := by
  unfold dryMove dryReport
  rw [if_pos rfl, hext, hst, hres]
  dsimp only
  rw [if_pos (by rfl), enterExtend_eq (by exact fun h => absurd (hst.symm.trans h) (by decide)),
    enterCool_eq (by exact fun h => absurd (hst.symm.trans h) (by decide))]
  rfl

theorem dryMove_elsewhere (hst : v.csq.state ≠ .heat) (dry : Bool) : dryMove v dry = v := by
  unfold dryMove dryReport
  simp [hst]

/-! ## The moves without a cumulative hold -/

section
variable (c : CycleRecord) (f : Nat) (d : Dryness)

/-- A second that counts no hold has its output already (R80). -/
theorem counted_eq_secondAfter (h : (s.csq.state.heats && holdAfter s) = false) :
    counted s c f (s.csq.progress + 1) d = secondAfter s c f d := by
  have hout : outputAfter s = outputJudged s := by
    unfold outputAfter
    rw [h, if_neg (by decide), ← (outputJudged_hold s).1]
    rfl
  unfold counted secondAfter
  rw [hout]

variable (hprog : s.csq.progress < 19) (hhold : (s.csq.state.heats && holdAfter s) = false)
include hprog hhold

/-- Without a dry-point report the sequencer makes its own moves alone. -/
theorem moveSecond_own : moveSecond (counted s c f (s.csq.progress + 1) d) false =
    if faultDue (secondAfter s c f d) then faultMove (secondAfter s c f d) else testMove (secondAfter s c f d) := by
  rw [moveSecond_of_moves false ((holdCounts_counted s c f _ d).trans hhold)
    (by rw [show (counted s c f (s.csq.progress + 1) d).csq.progress = s.csq.progress + 1 from rfl]; omega),
    counted_eq_secondAfter c f d hhold]
  unfold dryAndOwn dryMove ownMoves
  rw [Bool.false_and, orderWhen_false]
  simp only [Bool.false_eq_true, if_false, if_true]

/-- Without a sensor fault to report the phase test alone moves the sequencer. -/
theorem moveSecond_test (hres : s.pnl.resetPending = false) (hfault : s.csq.state.heats = true → f < 30) :
    moveSecond (counted s c f (s.csq.progress + 1) d) false = testMove (secondAfter s c f d) := by
  have hf : faultDue (secondAfter s c f d) = false := by
    refine (faultDue_counted c f (s.csq.progress + 1) d hres).trans ?_
    cases hh : s.csq.state.heats with
    | false => rfl
    | true => simpa using hfault hh
  rw [moveSecond_own c f d hprog hhold, hf]
  rfl

/-- With a dry-point report the order of the report and the sequencer's own moves is free where both are due (R59). -/
theorem moveSecond_dry (hst : s.csq.state = .heat) :
    moveSecond (counted s c f (s.csq.progress + 1) d) true =
      if faultDue (secondAfter s c f d) || testDue (secondAfter s c f d) then
        dryAndOwn ((secondAfter s c f d).setFreeCount (s.freeCount + 1)) .heat true (Config.orderChoice s.freeCount)
      else ownMoves (dryMove (secondAfter s c f d) true) .heat := by
  rw [moveSecond_of_moves true ((holdCounts_counted s c f _ d).trans hhold)
    (by rw [show (counted s c f (s.csq.progress + 1) d).csq.progress = s.csq.progress + 1 from rfl]; omega),
    counted_eq_secondAfter c f d hhold, show (secondAfter s c f d).csq.state = .heat from hst, Bool.true_and]
  split
  case isTrue h =>
    rw [h]
    rfl
  case isFalse h =>
    rw [Bool.eq_false_iff.2 h, orderWhen_false]
    rfl

end

section
variable (hres : s.pnl.resetPending = false)
include hres

/-- A second of heating without a dry-point report. -/
theorem secondBody_of_heats (hst : s.csq.state = .heat ∨ s.csq.state = .extend)
    (hdry : s.csq.state = .heat → ¬ dryFires s) : secondBody s =
    moveSecond (counted s (if s.csq.state = .heat then heatSecond s else extendSecond s) (faultsAfter s)
      (s.csq.progress + 1) (if s.csq.state = .heat then heatWindow s else sampled s.dwn)) false := by
  rcases hst with hst | hst
  · have hno : ((verdictAfter s).all && !s.dwn.reported) = false := by simpa using hdry hst
    rw [secondBody_of_heat hres hst, hno, if_pos hst, if_pos hst]
  · have hne : s.csq.state ≠ .heat := by rw [hst]; decide
    rw [secondBody_of_extend hres hst, if_neg hne, if_neg hne]

end

/-- The dues of a state after a second without a cumulative hold are those of the counted state. -/
theorem testDue_secondAfter (c : CycleRecord) (f : Nat) (d : Dryness) :
    testDue (secondAfter s c f d) = testDue (counted s c f (s.csq.progress + 1) d) := rfl

theorem faultDue_secondAfter (c : CycleRecord) (f : Nat) (d : Dryness) :
    faultDue (secondAfter s c f d) = faultDue (counted s c f (s.csq.progress + 1) d) := rfl

section
variable (hres : s.pnl.resetPending = false) (hprog : s.csq.progress < 19)
include hres hprog

/-- The dry point in a second of HEAT with nothing else due (R9, R57). -/
theorem secondBody_dry (hst : s.csq.state = .heat) (hdry : dryFires s) (hhold : holdAfter s = false)
    (hfault : faultsAfter s < 30) (htest : heatedAfter s < s.csq.desc.maxHeat) :
    secondBody s = dryMove (secondAfter s (heatSecond s) (faultsAfter s) (heatWindow s)) true := by
  have hyes : ((verdictAfter s).all && !s.dwn.reported) = true := by simpa using hdry
  have hf : faultDue (secondAfter s (heatSecond s) (faultsAfter s) (heatWindow s)) = false := by
    rw [faultDue_secondAfter, faultDue_counted _ _ _ _ hres]
    simpa using fun _ => hfault
  have ht : testDue (secondAfter s (heatSecond s) (faultsAfter s) (heatWindow s)) = false := by
    rw [testDue_secondAfter, testDue_counted_heat _ _ _ _ hres hst]
    exact decide_eq_false (Nat.not_le.2 htest)
  rw [secondBody_of_heat hres hst, hyes, moveSecond_dry _ _ _ hprog (by rw [hhold, Bool.and_false]) hst, hf, ht]
  refine ownMoves_of_ne ?_
  rw [dryMove_eq (by exact hres) (by exact hst) rfl]
  split
  · rw [(requestRecord_stays (s := entered _ _ _) (by exact CycleState.noConfusion) _ _).2.2.1]
    exact CycleState.noConfusion
  · rw [cooled_requested]
    exact CycleState.noConfusion

/-- The dry point and the heat limit in one second of HEAT (R59): in either order COOL is entered once. -/
theorem secondBody_dry_limit {u : State}
    (hu : (secondAfter s (heatSecond s) (faultsAfter s) (heatWindow s)).setFreeCount (s.freeCount + 1) = u)
    (hst : s.csq.state = .heat) (hdry : dryFires s) (hhold : holdAfter s = false)
    (hfault : faultsAfter s < 30) (htest : heatedAfter s = s.csq.desc.maxHeat)
    (hext : s.csq.cyc.extTotal = 0) (hdone : s.csq.cyc.extDone = 0) :
    secondBody s = requestRecord (cooled u (if Config.orderChoice s.freeCount = true then
        { heatSecond s with tDry := s.csq.desc.maxHeat } else
        { heatSecond s with reasons := { s.csq.cyc.reasons with heatLimit := true } })) .phase .none := by
  have hyes : ((verdictAfter s).all && !s.dwn.reported) = true := by simpa using hdry
  have ht : testDue (secondAfter s (heatSecond s) (faultsAfter s) (heatWindow s)) = true := by
    rw [testDue_secondAfter, testDue_counted_heat _ _ _ _ hres hst]
    exact decide_eq_true (Nat.le_of_eq htest.symm)
  have hf : faultDue (secondAfter s (heatSecond s) (faultsAfter s) (heatWindow s)) = false := by
    rw [faultDue_secondAfter, faultDue_counted _ _ _ _ hres]
    simpa using fun _ => hfault
  rw [secondBody_of_heat hres hst, hyes, moveSecond_dry _ _ _ hprog (by rw [hhold, Bool.and_false]) hst, ht, hf,
    Bool.false_or, if_pos rfl, hu]
  have hust : u.csq.state = .heat := hu ▸ hst
  have hures : u.pnl.resetPending = false := hu ▸ hres
  have hcyc : u.csq.cyc = heatSecond s := hu ▸ rfl
  have hdesc : u.csq.desc = s.csq.desc := hu ▸ rfl
  unfold dryAndOwn
  cases hc : Config.orderChoice s.freeCount with
  | true =>
    have hnone : dryExtension u.csq.cyc.heated u.csq.desc.x u.csq.desc.maxHeat = 0 := by
      rw [hcyc, hdesc, show (heatSecond s).heated = _ from htest, dryExtension, Nat.sub_self, Nat.min_zero]
    have hmove : dryMove u true = requestRecord (cooled u { heatSecond s with tDry := s.csq.desc.maxHeat }) .phase .none := by
      have hrecord : { heatSecond s with tDry := heatedAfter s, extTotal := 0, extDone := 0 } =
          { heatSecond s with tDry := s.csq.desc.maxHeat } := by
        unfold heatSecond
        rw [htest]
        simp [hext, hdone]
      rw [dryMove_eq hures hust hnone, if_neg (by decide), hcyc, ← hrecord]
      rfl
    rw [if_pos rfl, if_pos rfl, hmove]
    refine ownMoves_of_ne ?_
    rw [cooled_requested]
    exact CycleState.noConfusion
  | false =>
    have hmove : ownMoves u .heat = requestRecord (cooled u
        { heatSecond s with reasons := { s.csq.cyc.reasons with heatLimit := true } }) .phase .none := by
      unfold ownMoves
      rw [if_pos hust, show faultDue u = false from hu ▸ hf, ← hcyc]
      refine (testMove_heat (v := u) (hu ▸ ht) hust).trans ?_
      rw [hcyc]
      rfl
    rw [if_neg (by decide), if_neg (by decide), hmove]
    refine dryMove_elsewhere ?_ true
    rw [cooled_requested]
    exact CycleState.noConfusion

theorem secondBody_heat_limit (hst : s.csq.state = .heat) (hdry : ¬ dryFires s) (hhold : holdAfter s = false)
    (hfault : faultsAfter s < 30) (htest : s.csq.desc.maxHeat ≤ heatedAfter s) :
    secondBody s = requestRecord (cooled (secondAfter s (heatSecond s) (faultsAfter s) (heatWindow s))
      { heatSecond s with reasons := { s.csq.cyc.reasons with heatLimit := true } }) .phase .none := by
  have hno : ((verdictAfter s).all && !s.dwn.reported) = false := by simpa using hdry
  have ht : testDue (secondAfter s (heatSecond s) (faultsAfter s) (heatWindow s)) = true := by
    rw [testDue_secondAfter, testDue_counted_heat _ _ _ _ hres hst]
    exact decide_eq_true htest
  rw [secondBody_of_heat hres hst, hno,
    moveSecond_test _ _ _ hprog (by rw [hhold, Bool.and_false]) hres (fun _ => hfault)]
  exact testMove_heat ht hst

theorem secondBody_extend_done (hst : s.csq.state = .extend) (hhold : holdAfter s = false)
    (hfault : faultsAfter s < 30)
    (htest : s.csq.desc.maxHeat ≤ heatedAfter s ∨ s.csq.cyc.extTotal ≤ (extendSecond s).extDone) :
    secondBody s = requestRecord (cooled (secondAfter s (extendSecond s) (faultsAfter s) (sampled s.dwn))
      (extendSecond s)) .phase .none := by
  have ht : testDue (secondAfter s (extendSecond s) (faultsAfter s) (sampled s.dwn)) = true := by
    rw [testDue_secondAfter, testDue_counted_extend _ _ _ _ hres hst, Bool.or_eq_true, decide_eq_true_eq,
      decide_eq_true_eq]
    exact htest.symm
  rw [secondBody_of_extend hres hst,
    moveSecond_test _ _ _ hprog (by rw [hhold, Bool.and_false]) hres (fun _ => hfault)]
  exact testMove_extend ht hst

theorem secondBody_cool_over (hst : s.csq.state = .cool) (hcool : coolEnds s) :
    secondBody s =
      let u := secondAfter s (coolSecond s) s.csq.faultCount (unsampled s.dwn)
      if 0 < s.csq.desc.guardTotal then requestRecord
        (entered u .guard { coolSecond s with phase := .guard, phaseElapsed := 0, guardRemaining := s.csq.desc.guardTotal,
                                              burst := .rest, burstTimer := s.csq.desc.guardRest }) .phase .none
      else requestRecord (ended u .complete (coolSecond s)) .finish .complete := by
  have ht : testDue (secondAfter s (coolSecond s) s.csq.faultCount (unsampled s.dwn)) = true := by
    rw [testDue_secondAfter]
    exact (testDue_counted_cool _ _ hres hst).2 hcool
  rw [secondBody_of_cool hres hst, moveSecond_test _ _ _ hprog (by rw [hst]; rfl) hres (by rw [hst]; exact nofun)]
  exact testMove_cool ht hst

theorem secondBody_guard_over (hst : s.csq.state = .guard) (hguard : (guardSecond s).guardRemaining = 0) :
    secondBody s = requestRecord (ended (secondAfter s (guardSecond s) s.csq.faultCount (unsampled s.dwn)) .complete
      (guardSecond s)) .finish .complete := by
  have ht : testDue (secondAfter s (guardSecond s) s.csq.faultCount (unsampled s.dwn)) = true := by
    rw [testDue_secondAfter, testDue_counted_guard _ _ _ _ hres hst]
    exact decide_eq_true hguard
  rw [secondBody_of_guard hres hst, moveSecond_test _ _ _ hprog (by rw [hst]; rfl) hres (by rw [hst]; exact nofun)]
  exact testMove_guard ht hst

end

end Sys2Proof.Machine

namespace Sys2Proof.Proofs

open Sys2Proof.Machine Sys2Proof.Safety

/-- Settles O25: the report alone moves the sequencer. -/
theorem dryPointReached : Obligations.DryPointReached := by
  unfold Obligations.DryPointReached
  intro s hpow hres hprog hst hdry hhold hfault htest ext c
  obtain ⟨t, ht, hset⟩ := second_leads hpow (secondBody_dry hres (by omega) hst hdry hhold hfault htest)
  rw [dryMove_eq (v := secondAfter s (heatSecond s) (faultsAfter s) (heatWindow s)) hres hst (ext := ext) rfl] at hset
  refine ⟨t, ht, fun hpos => ?_, fun hzero => ?_⟩
  · rw [if_pos hpos] at hset
    exact hset
  · rw [if_neg (by omega)] at hset
    exact hset

/-- Settles O26: the report first enters COOL with nothing to extend, and is not made in a COOL that the test has entered. -/
theorem dryPointAtHeatLimit : Obligations.DryPointAtHeatLimit := by
  unfold Obligations.DryPointAtHeatLimit
  intro s hpow hres hprog hst hdry hhold hfault htest htd hext hdone u
  obtain ⟨t, ht, hset⟩ := second_leads hpow
    (secondBody_dry_limit (u := u) hres hprog rfl hst hdry hhold hfault htest hext hdone)
  have hreported : u.dwn.reported = true := by
    change (s.dwn.reported || (verdictAfter s).all) = true
    rw [hdry.1, Bool.or_true]
  obtain ⟨c, hc, hcycle⟩ : ∃ c, (c = { heatSecond s with tDry := s.csq.desc.maxHeat } ∨
      c = { heatSecond s with reasons := { s.csq.cyc.reasons with heatLimit := true } }) ∧
      Settled (requestRecord (cooled u c) .phase .none) t := by
    refine ⟨_, ?_, hset⟩
    split
    · exact .inl rfl
    · exact .inr rfl
  obtain ⟨-, -, hstate, hrecord, -⟩ :=
    requestRecord_stays (s := cooled u c) (by exact CycleState.noConfusion) .phase .none
  refine ⟨t, ht, ?_, ?_, ?_, ?_, ?_⟩
  · rw [hcycle.csq, hstate]
    rfl
  · rw [hcycle.dwn, (requestRecord_frame (s := cooled u c) _ _).2.2.1]
    exact hreported
  · rw [hcycle.csq, hrecord]
    rcases hc with rfl | rfl
    all_goals exact htest
  · rw [hcycle.csq, hrecord]
    rcases hc with rfl | rfl
    all_goals exact hext
  · rcases hc with rfl | rfl
    · exact .inl hcycle
    · exact .inr hcycle

/-- Settles O27: the phase test alone moves the sequencer. -/
theorem phaseTests : Obligations.PhaseTests := by
  unfold Obligations.PhaseTests
  intro s hpow hres hprog
  have hlt : s.csq.progress < 19 := hprog
  refine ⟨fun hst hdry hhold hfault htest => ?_, fun hst hhold hfault htest => ?_, fun hst hcool => ?_, fun hst hguard => ?_⟩
  · exact second_leads hpow (secondBody_heat_limit hres hprog hst hdry hhold hfault htest)
  · exact second_leads hpow (secondBody_extend_done hres hprog hst hhold hfault htest)
  · intro u
    obtain ⟨t, ht, hset⟩ := second_leads hpow (secondBody_cool_over hres hprog hst hcool)
    refine ⟨t, ht, fun hpos => ?_, fun hzero => ?_⟩
    · rw [if_pos hpos] at hset
      exact hset
    · rw [if_neg (by omega)] at hset
      exact hset
  · exact second_leads hpow (secondBody_guard_over hres hprog hst hguard)

end Sys2Proof.Proofs
end

section
/-! PROOFS. The second's reports (R11, R18, R79, R80): a lasting sensor fault, a lasting airflow hold, the PROGRESS record and the
airflow hold itself. -/

namespace Sys2Proof.Machine

open Safety (Settled secondAfter outputAfter airJudged holdAfter heatSecond extendSecond coolSecond guardSecond heatedAfter
  faultsAfter sampled unsampled heatWindow verdictAfter dryFires holdFires coolEnds cooled entered ended)

variable {s v : State}

/-! ## A lasting sensor fault -/

section
variable (hres : s.pnl.resetPending = false)
include hres

/-- The fault persistence count at 30 ends the heating, whatever the phase test would do (R11). -/
theorem secondBody_faulted (hprog : s.csq.progress < 19) (hst : s.csq.state = .heat ∨ s.csq.state = .extend)
    (hdry : s.csq.state = .heat → ¬ dryFires s) (hfault : 30 ≤ faultsAfter s) (hhold : holdAfter s = false)
    {c : CycleRecord} {d : Dryness} (hc : (if s.csq.state = .heat then heatSecond s else extendSecond s) = c)
    (hd : (if s.csq.state = .heat then heatWindow s else sampled s.dwn) = d)
    (hreasons : c.reasons = s.csq.cyc.reasons) :
    secondBody s = requestRecord (cooled (raiseFault (secondAfter s c (faultsAfter s) d))
      { c with reasons := { s.csq.cyc.reasons with sensorFault := true } }) .phase .none := by
  have hheats : s.csq.state.heats = true := by rcases hst with h | h <;> rw [h] <;> rfl
  have hdue : faultDue (secondAfter s c (faultsAfter s) d) = true := by
    rw [faultDue_secondAfter, faultDue_counted _ _ _ _ hres, hheats]
    exact decide_eq_true hfault
  rw [secondBody_of_heats hres hst hdry, hc, hd, moveSecond_own c _ d hprog (by rw [hhold, Bool.and_false]), if_pos hdue,
    faultMove_eq hdue (by rcases hst with h | h <;> exact fun hcool => absurd (h.symm.trans hcool) (by decide)), ← hreasons]
  rfl

end

/-! ## A lasting airflow hold -/

/-- The report of AIRFLOW_FAULT where nothing else moves the sequencer (R80). -/
theorem moveSecond_reported (hfault : faultDue v = false) (htest : testDue v = false) (hrep : holdReports v = true)
    (hprog : v.csq.progress < 20) (hres : v.pnl.resetPending = false) (hheats : v.csq.state.heats = true) :
    moveSecond v false = airflowFaultReport (holdCount v) := by
  have hhold : holdSecond v = airflowFaultReport (holdCount v) := by
    unfold holdSecond
    rw [hrep]
    rfl
  have hcool : (airflowFaultReport (holdCount v)).csq.state = .cool := by
    rw [airflowFaultReport_eq (by rw [(holdCount_csq v).2]; exact hres) (by rw [(holdCount_csq v).1]; exact hheats)]
    exact cooled_requested _ _
  unfold moveSecond
  dsimp only
  rw [hfault, htest, hrep]
  simp only [Bool.false_and, Bool.or_self, Bool.false_or, Bool.true_and, orderWhen_false,
    decide_eq_false (Nat.not_le.2 hprog), if_true]
  rw [progressMove_of_lt hprog]
  unfold allMoves
  simp only [Bool.not_true, Bool.false_eq_true, if_false, if_true]
  rw [hhold]
  unfold dryAndOwn dryMove
  simp only [Bool.false_eq_true, if_false, if_true]
  refine ownMoves_of_ne (fun h => ?_)
  rw [hcool] at h
  rw [← h] at hheats
  cases hheats

/-- Where the phase test is due with the report, the order of the two is free (R80, log entry 5). -/
theorem moveSecond_ordered (hfault : faultDue v = false) (htest : testDue v = true) (hrep : holdReports v = true)
    (hprog : v.csq.progress < 20) : moveSecond v false =
    allMoves (v.setFreeCount (v.freeCount + 2)) false true (Config.orderChoice v.freeCount)
      (Config.orderChoice (v.freeCount + 1)) := by
  have hcounts : holdCounts v = true := by
    unfold holdReports at hrep
    simp only [Bool.and_eq_true] at hrep
    exact hrep.1.1
  have hchoice : ∀ w : State, orderWhen true w = (Config.orderChoice w.freeCount, w.setFreeCount (w.freeCount + 1)) :=
    fun _ => rfl
  unfold moveSecond
  dsimp only
  rw [hfault, htest, hrep, hcounts]
  simp only [Bool.or_true, Bool.false_or, Bool.true_and, Bool.and_true, orderWhen_false,
    decide_eq_false (Nat.not_le.2 hprog), if_true, hchoice]
  rw [progressMove_of_lt (by exact hprog)]
  rfl

theorem holdCount_setFreeCount (v : State) (n : Nat) : holdCount (v.setFreeCount n) = (holdCount v).setFreeCount n := by
  unfold holdCount
  rw [show holdCounts (v.setFreeCount n) = holdCounts v from rfl]
  split <;> rfl

/-- The output after a second that reports AIRFLOW_FAULT (R80). -/
theorem outputAfter_of_holdFires (h : holdFires s) (hmax : s.ost.cumHold ≤ 600) :
    { outputAfter s with airReported := true } = { outputAfter s with cumHold := 600, airReported := true } := by
  obtain ⟨hheats, hhold, hcum, -⟩ := h
  have hfull : (outputAfter s).cumHold = 600 := by
    unfold outputAfter
    rw [hheats, hhold]
    change satInc 600 s.ost.cumHold = 600
    unfold satInc
    split <;> omega
  rw [← hfull]

theorem outputAfter_uncounted (s : State) : { outputAfter s with cumHold := s.ost.cumHold } = outputJudged s := by
  rw [← (outputJudged_hold s).1]
  rfl

/-- The three outcomes of the heat limit and the AIRFLOW_FAULT report in one second of HEAT (R80): the test first, the report
first, or the count first and the report after the test. -/
theorem allMoves_limit {c : CycleRecord} (hres : v.pnl.resetPending = false) (hst : v.csq.state = .heat)
    (hc : v.csq.cyc = c) (hfault : faultDue v = false) (htest : testDue v = true) (hrep : holdReports v = true)
    (b first : Bool) : allMoves v false true b first =
      if b = false then requestRecord (cooled v { c with reasons := { c.reasons with heatLimit := true } }) .phase .none
      else if first = true then requestRecord
        (cooled (raiseFault (holdCount v)) { c with reasons := { c.reasons with airflowFault := true } }) .phase .none
      else raiseFault (setReasons
        (requestRecord (cooled (holdCount v) { c with reasons := { c.reasons with heatLimit := true } }) .phase .none)
        fun r => { r with airflowFault := true }) := by
  obtain ⟨hcsq, hpnl⟩ := holdCount_csq v
  have hown : ∀ w : State, dryAndOwn w .heat false true = ownMoves w .heat := fun _ => rfl
  have hmove : ∀ w : State, faultDue w = false → testDue w = true → w.csq.state = .heat → ownMoves w .heat =
      requestRecord (cooled w { w.csq.cyc with reasons := { w.csq.cyc.reasons with heatLimit := true } }) .phase .none :=
    fun w hf ht hw => by
      unfold ownMoves
      rw [if_pos hw, hf]
      exact testMove_heat ht hw
  unfold allMoves
  rw [hst, hown, hown, hown]
  cases b with
  | false =>
    have hstill : ∀ w : State, w.csq.state = .cool → holdSecond w = w := fun w hw => by
      have hcounts : holdCounts w = false := by unfold holdCounts; rw [hw]; rfl
      have hreports : holdReports w = false := by unfold holdReports; rw [hcounts]; rfl
      unfold holdSecond holdCount
      rw [hcounts, hreports]
      rfl
    simp only [Bool.not_false, if_true]
    rw [hmove v hfault htest hst, hc]
    exact hstill _ (cooled_requested _ _)
  | true =>
    simp only [Bool.not_true, Bool.false_eq_true, Bool.true_eq_false, if_false]
    cases first with
    | true =>
      have hreport : holdSecond v = airflowFaultReport (holdCount v) := by
        unfold holdSecond
        rw [hrep]
        rfl
      rw [if_pos rfl, if_pos rfl, hreport,
        airflowFaultReport_eq (by rw [hpnl]; exact hres) (by rw [hcsq, hst]; rfl), hcsq, hc]
      refine ownMoves_of_ne ?_
      rw [cooled_requested]
      exact CycleState.noConfusion
    | false =>
      have hreport : ∀ w : State, w.csq.state = .cool → w.pnl.resetPending = false →
          holdReport true w = raiseFault (setReasons w fun r => { r with airflowFault := true }) := fun w hw hr => by
        unfold holdReport airflowFaultReport
        rw [if_pos rfl, hr]
        dsimp only
        rw [if_neg (by decide), if_neg]
        rw [show (raiseFault (setReasons w fun r => { r with airflowFault := true })).csq.state = .cool from hw]
        decide
      rw [if_neg (by decide), if_neg (by decide), hrep, hmove (holdCount v) ((holdCount_dues v).1.trans hfault)
        ((holdCount_dues v).2.trans htest) (by rw [hcsq]; exact hst), hcsq, hc]
      refine hreport _ (cooled_requested _ _) ?_
      rw [(requestRecord_stays (s := cooled _ _) (by exact CycleState.noConfusion) _ _).2.1]
      exact (congrArg Panel.resetPending hpnl).trans hres

theorem faultDue_of_lt (c : CycleRecord) (d : Dryness) (hres : s.pnl.resetPending = false) (hfires : holdFires s)
    (hfault : faultsAfter s < 30) : faultDue (counted s c (faultsAfter s) (s.csq.progress + 1) d) = false := by
  rw [faultDue_counted _ _ _ _ hres, hfires.1]
  exact decide_eq_false (Nat.not_le.2 hfault)

section
variable {c : CycleRecord} {d : Dryness} (hres : s.pnl.resetPending = false) (hprog : s.csq.progress < 19)
  (hst : s.csq.state = .heat ∨ s.csq.state = .extend) (hdry : s.csq.state = .heat → ¬ dryFires s)
  (hc : (if s.csq.state = .heat then heatSecond s else extendSecond s) = c)
  (hd : (if s.csq.state = .heat then heatWindow s else sampled s.dwn) = d)
  (hreasons : c.reasons = s.csq.cyc.reasons)
  (hfires : holdFires s) (hmax : s.ost.cumHold ≤ 600) (hfault : faultsAfter s < 30)
include hres hprog hst hdry hc hd hreasons hfires hmax hfault

theorem secondBody_reported (htest : testDue (counted s c (faultsAfter s) (s.csq.progress + 1) d) = false) :
    secondBody s = requestRecord (cooled
      (raiseFault { secondAfter s c (faultsAfter s) d with ost := { outputAfter s with cumHold := 600, airReported := true } })
      { c with reasons := { s.csq.cyc.reasons with airflowFault := true } }) .phase .none := by
  have hf := faultDue_of_lt c d hres hfires hfault
  rw [secondBody_of_heats hres hst hdry, hc, hd,
    moveSecond_reported hf htest ((holdReports_counted s _ _ _ _).2 hfires) (Nat.succ_lt_succ hprog) hres hfires.1,
    holdCount_fires s _ _ _ _ hfires, outputAfter_of_holdFires hfires hmax, airflowFaultReport_eq (by exact hres) (by exact hfires.1),
    ← hreasons]
  rfl

/-- The heat limit and AIRFLOW_FAULT in one second of HEAT (R80). -/
theorem secondBody_ordered (hheat : s.csq.state = .heat) (htest : s.csq.desc.maxHeat ≤ c.heated) {u : State}
    (hu : { secondAfter s c (faultsAfter s) d with freeCount := s.freeCount + 2 } = u) :
    secondBody s =
      if Config.orderChoice s.freeCount = false then requestRecord
        (cooled { u with ost := { outputAfter s with cumHold := s.ost.cumHold } }
          { c with reasons := { s.csq.cyc.reasons with heatLimit := true } }) .phase .none
      else if Config.orderChoice (s.freeCount + 1) = true then requestRecord
        (cooled (raiseFault { u with ost := { outputAfter s with cumHold := 600, airReported := true } })
          { c with reasons := { s.csq.cyc.reasons with airflowFault := true } }) .phase .none
      else raiseFault (setReasons (requestRecord
        (cooled { u with ost := { outputAfter s with cumHold := 600, airReported := true } }
          { c with reasons := { s.csq.cyc.reasons with heatLimit := true } }) .phase .none)
        fun r => { r with airflowFault := true }) := by
  have hf := faultDue_of_lt c d hres hfires hfault
  have ht : testDue (counted s c (faultsAfter s) (s.csq.progress + 1) d) = true := by
    rw [testDue_counted_heat _ _ _ _ hres hheat]
    exact decide_eq_true htest
  have hr := (holdReports_counted s c (faultsAfter s) (s.csq.progress + 1) d).2 hfires
  have hcount : holdCount ((counted s c (faultsAfter s) (s.csq.progress + 1) d).setFreeCount (s.freeCount + 2)) =
      { u with ost := { outputAfter s with cumHold := 600, airReported := true } } := by
    rw [holdCount_setFreeCount, holdCount_fires s _ _ _ _ hfires, outputAfter_of_holdFires hfires hmax, ← hu]
    rfl
  have huncounted : (counted s c (faultsAfter s) (s.csq.progress + 1) d).setFreeCount (s.freeCount + 2) =
      { u with ost := { outputAfter s with cumHold := s.ost.cumHold } } := by
    rw [outputAfter_uncounted, ← hu]
    rfl
  rw [secondBody_of_heats hres hst hdry, hc, hd, moveSecond_ordered hf ht hr (Nat.succ_lt_succ hprog)]
  refine (allMoves_limit (c := c) (v := (counted s c (faultsAfter s) (s.csq.progress + 1) d).setFreeCount (s.freeCount + 2))
    hres hheat rfl hf ht hr _ _).trans ?_
  rw [hcount, huncounted, ← hreasons]
  rfl

end

/-! ## The row, with the fault event -/

theorem second_raises {u : State} (hpow : s.mainPowered = true) (h : secondBody s = u) :
    ∃ t, exec .sequencerSecond s = .next t ∧ Settled u t ∧ (u.pnl.evFault = true → t.pnl.evFault = true) := by
  obtain ⟨t, ht, hset⟩ := second_leads hpow h
  refine ⟨t, ht, hset, fun hev => ?_⟩
  have htt : t = finish true s (secondBody s) :=
    (Host.Outcome.next.inj (ht.symm.trans (congrArg Host.Outcome.next (if_pos (by rw [hpow]; rfl)))))
  rw [htt]
  exact finish_evFault true s (h ▸ hev)

theorem holdFaultDue_of_fires (h : holdFires s) : holdFaultDue s = true := by
  obtain ⟨hheats, hhold, hcum, hrep⟩ := h
  unfold holdFaultDue
  rw [airSecond_eq, hheats, hrep]
  change (true && (outputJudged s).airHold && decide (599 ≤ s.ost.cumHold) && !false) = true
  rw [(outputJudged_hold s).2.2, hhold]
  simpa using hcum

theorem cooled_raised (v : State) (c : CycleRecord) :
    (requestRecord (cooled (raiseFault v) c) .phase .none).pnl.evFault = true := by
  rw [(requestRecord_stays (s := cooled _ _) (by exact CycleState.noConfusion) _ _).2.1]
  rfl

end Sys2Proof.Machine

namespace Sys2Proof.Proofs

open Sys2Proof.Machine Sys2Proof.Safety

/-- Settles O28: each report by the moves of its second. -/
theorem heatingEndsOnFault : Obligations.HeatingEndsOnFault := by
  unfold Obligations.HeatingEndsOnFault
  intro s hpow hres hprog hst c d flagged hdry
  have hheats : s.csq.state.heats = true := by rcases hst with h | h <;> rw [h] <;> rfl
  have hreasons : c.reasons = s.csq.cyc.reasons := by
    change (if s.csq.state = .heat then heatSecond s else extendSecond s).reasons = _
    split <;> rfl
  refine ⟨fun hsensor hcount hhold => ?_, fun hfires hmax hfault htest hext => ?_,
    fun hfires hmax hfault hheat htest => ?_⟩
  · have hfault : faultsAfter s = s.csq.faultCount + 1 := if_pos hsensor
    obtain ⟨t, ht, hset, hev⟩ := second_raises hpow
      (secondBody_faulted hres (by omega) hst hdry (by omega) hhold rfl rfl hreasons)
    refine ⟨t, mainEvent_second ?_ ht, ht, hev (cooled_raised _ _), hfault ▸ hset⟩
    unfold faultCountDue
    rw [hres, hheats, hsensor]
    simpa using hcount
  · have hno : testDue (counted s c (faultsAfter s) (s.csq.progress + 1) d) = false := by
      rcases hst with h | h
      · rw [testDue_counted_heat _ _ _ _ hres h, show c = heatSecond s from if_pos h]
        exact decide_eq_false (Nat.not_le.2 htest)
      · rw [testDue_counted_extend _ _ _ _ hres h, show c = extendSecond s from if_neg (by rw [h]; decide)]
        exact Bool.or_eq_false_iff.2 ⟨decide_eq_false (Nat.not_le.2 (hext h)), decide_eq_false (Nat.not_le.2 htest)⟩
    obtain ⟨t, ht, hset, hev⟩ := second_raises hpow
      (secondBody_reported hres hprog hst hdry rfl rfl hreasons hfires hmax hfault hno)
    exact ⟨t, mainEvent_second (holdFaultDue_of_fires hfires) ht, ht, hev (cooled_raised _ _), hset⟩
  · intro u counted limit moved
    have hlimit : s.csq.desc.maxHeat ≤ c.heated := by rw [show c = heatSecond s from if_pos hheat]; exact htest
    obtain ⟨t, ht, hset, hev⟩ := second_raises hpow
      (secondBody_ordered hres hprog hst hdry rfl rfl hreasons hfires hmax hfault hheat hlimit (u := u) rfl)
    refine ⟨t, mainEvent_second (holdFaultDue_of_fires hfires) ht, ht, ?_, ?_⟩
    · rw [hset.csq]
      split
      · exact cooled_requested _ _
      · split
        · exact cooled_requested _ _
        · exact cooled_requested _ _
    · by_cases hn : Config.orderChoice s.freeCount = false
      · rw [if_pos hn] at hset
        exact .inl hset
      · rw [if_neg hn] at hset hev
        by_cases hf : Config.orderChoice (s.freeCount + 1) = true
        · rw [if_pos hf] at hset hev
          exact .inr (.inl ⟨hev (cooled_raised _ _), hset⟩)
        · rw [if_neg hf] at hset hev
          exact .inr (.inr ⟨hev rfl, hset⟩)

end Sys2Proof.Proofs
end

section
/-! PROOFS. The PROGRESS record of a second (R18), and the airflow hold that a second sets or clears (R79). -/

namespace Sys2Proof.Machine

open Safety (Settled secondAfter outputAfter airJudged holdAfter heatSecond extendSecond coolSecond guardSecond heatedAfter
  faultsAfter sampled unsampled heatWindow verdictAfter dryFires holdFires coolEnds cooled entered ended)

variable {s v : State}

/-! ## The sequencer's counts through a record request -/

theorem recordDone_csq (h : v.csq.state ≠ .loss) : ∃ b, (recordDone v).csq = { v.csq with endAwaited := b } := by
  unfold recordDone
  rw [if_neg h]
  split
  · exact ⟨false, rfl⟩
  · split <;> exact ⟨v.csq.endAwaited, rfl⟩

theorem abandonPending_csq (h : v.csq.state ≠ .loss) : ∃ b, (abandonPending v).csq = { v.csq with endAwaited := b } := by
  unfold abandonPending
  split
  · exact recordDone_csq (v := v.setPjr _) h
  · exact ⟨v.csq.endAwaited, rfl⟩

/-- Outside LOSS a record request leaves the sequencer all but its progress timer and its wait for an END record. -/
theorem requestRecord_csq (h : v.csq.state ≠ .loss) (kind : RecordKind) (reason : EndReason) :
    ∃ b, (requestRecord v kind reason).csq = { v.csq with progress := 0, endAwaited := b } := by
  by_cases hf : v.pjr.fault = true
  · rw [requestRecord_dropped v kind reason hf]
    exact recordDone_csq (v := (v.setCsq _).setPjr _) h
  · rw [requestRecord_taken v kind reason (by simpa using hf)]
    unfold journalSettle
    split
    · exact ⟨v.csq.endAwaited, rfl⟩
    · exact abandonPending_csq (v := (v.setCsq _).setPjr _) h

theorem aside_setOst (o : Output) : Aside (State.setOst · o) :=
  ⟨fun _ => rfl, fun _ => rfl, fun _ => rfl, fun _ => rfl, fun _ => rfl, fun _ _ => rfl, fun _ _ => rfl, fun _ _ => rfl,
    fun _ => rfl⟩

section
variable (h : v.csq.state ≠ .loss) (kind : RecordKind) (reason : EndReason)
include h

theorem requestRecord_hold : holdCounts (requestRecord v kind reason) = holdCounts v ∧
    holdReports (requestRecord v kind reason) = holdReports v := by
  have hstate := (requestRecord_stays h kind reason).2.2.1
  have host := (requestRecord_frame (s := v) kind reason).2.2.2.1
  unfold holdReports holdCounts
  rw [hstate, host]
  exact ⟨rfl, rfl⟩

theorem requestRecord_dues : faultDue (requestRecord v kind reason) = faultDue v ∧
    testDue (requestRecord v kind reason) = testDue v := by
  obtain ⟨b, hcsq⟩ := requestRecord_csq h kind reason
  have hframe := requestRecord_frame (s := v) kind reason
  exact dues_congr (by rw [hcsq]) (by rw [hcsq]) (by rw [hcsq]) (by rw [hcsq]) hframe.2.1 hframe.2.2.1
    (congrArg Panel.resetPending (requestRecord_stays h kind reason).2.1)

theorem holdCount_requestRecord : holdCount (requestRecord v kind reason) = requestRecord (holdCount v) kind reason := by
  obtain ⟨hcounts, hreports⟩ := requestRecord_hold h kind reason
  have host := (requestRecord_frame (s := v) kind reason).2.2.2.1
  unfold holdCount
  rw [hcounts, hreports, host]
  split
  · exact (aside_setOst _).requestRecord v kind reason
  · rfl

end

/-! ## The PROGRESS record -/

/-- A second in which the PROGRESS record alone is due (R18). -/
theorem moveSecond_progress {c : CycleRecord} {f : Nat} {d : Dryness} (hres : s.pnl.resetPending = false)
    (hruns : s.csq.state.runs = true) (hprog : 19 ≤ s.csq.progress) (hfault : s.csq.state.heats = true → f < 30)
    (hhold : ¬ holdFires s) (htest : testDue (counted s c f (s.csq.progress + 1) d) = false) :
    moveSecond (counted s c f (s.csq.progress + 1) d) false = requestRecord (secondAfter s c f d) .progress .none := by
  have hloss : s.csq.state ≠ .loss := by
    intro h
    rw [h] at hruns
    cases hruns
  have hf : faultDue (counted s c f (s.csq.progress + 1) d) = false := by
    rw [faultDue_counted _ _ _ _ hres]
    cases hh : s.csq.state.heats with
    | false => rfl
    | true => simpa using hfault hh
  have hr : holdReports (counted s c f (s.csq.progress + 1) d) = false := by
    simpa using mt (holdReports_counted s c f (s.csq.progress + 1) d).1 hhold
  have hp : progressMove (counted s c f (s.csq.progress + 1) d) =
      requestRecord (counted s c f (s.csq.progress + 1) d) .progress .none := by
    unfold progressMove
    refine if_pos ?_
    change (!s.pnl.resetPending && s.csq.state.runs && decide (20 ≤ s.csq.progress + 1)) = true
    rw [hres, hruns]
    simpa using hprog
  obtain ⟨hf', ht'⟩ := requestRecord_dues (v := counted s c f (s.csq.progress + 1) d) hloss .progress .none
  rw [moveSecond_calm hf htest hr (by
    rw [hp, hf', ht', (requestRecord_hold (v := counted s c f (s.csq.progress + 1) d) hloss _ _).2]
    exact ⟨hf, htest, hr⟩), hp, holdCount_requestRecord (by exact hloss), holdCount_counted s _ _ _ _ hhold]
  rfl

/-! ## The airflow hold -/

/-- The Output Stage but for its cumulative hold count and its report (R80). -/
def Output.unheld (o : Output) : Output := { o with cumHold := 0, airReported := false }

section
variable (s)

@[simp] theorem holdCount_unheld : (holdCount s).ost.unheld = s.ost.unheld := by
  unfold holdCount
  split <;> rfl

@[simp] theorem airflowFaultReport_unheld : (airflowFaultReport s).ost.unheld = s.ost.unheld := by
  simp

@[simp] theorem holdReport_unheld (due : Bool) : (holdReport due s).ost.unheld = s.ost.unheld := by
  unfold holdReport
  split <;> simp

@[simp] theorem ownMoves_unheld (st : CycleState) : (ownMoves s st).ost.unheld = s.ost.unheld := by
  simp

@[simp] theorem dryMove_unheld (due : Bool) : (dryMove s due).ost.unheld = s.ost.unheld := by
  simp

@[simp] theorem progressMove_unheld : (progressMove s).ost.unheld = s.ost.unheld := by
  simp

theorem allMoves_unheld (dry a b d : Bool) : (allMoves s dry a b d).ost.unheld = s.ost.unheld := by
  unfold allMoves dryAndOwn holdSecond
  repeat' split
  all_goals simp

theorem orderWhen_unheld (b : Bool) : (orderWhen b s).2.ost = s.ost := by
  cases b <;> rfl

/-- The moves of a second leave the Output Stage all but its cumulative hold (R80). -/
theorem moveSecond_unheld (dry : Bool) : (moveSecond s dry).ost.unheld = s.ost.unheld := by
  unfold moveSecond
  dsimp only
  split
  · rw [allMoves_unheld, progressMove_unheld]
    simp only [orderWhen_unheld]
  · rw [progressMove_unheld, allMoves_unheld]
    simp only [orderWhen_unheld]

/-- A second judges the airflow, whatever it moves (R79). -/
theorem secondBody_unheld : (secondBody s).ost.unheld = (outputJudged s).unheld := by
  unfold secondBody
  dsimp only
  rw [moveSecond_unheld]
  simp [airSecond_eq, outputJudged]

end

/-! ## The planner through a second -/

section
variable (s)

/-- A record requested in a state just entered leaves the planner alone. -/
theorem requestRecord_setCycle_rpl {st : CycleState} (h : st ≠ .loss) (kind : RecordKind) (reason : EndReason) :
    (requestRecord (setCycle s st) kind reason).rpl = s.rpl := by
  rw [(requestRecord_stays (by rw [setCycle_state]; exact h) _ _).1]
  simp

theorem enterCool_rpl : (enterCool s).rpl = s.rpl := requestRecord_setCycle_rpl _ (by decide) _ _

theorem enterExtend_rpl : (enterExtend s).rpl = s.rpl := requestRecord_setCycle_rpl _ (by decide) _ _

theorem enterGuard_rpl : (enterGuard s).rpl = s.rpl := requestRecord_setCycle_rpl _ (by decide) _ _

theorem enterDone_rpl (reason : EndReason) : (enterDone s reason).rpl = s.rpl :=
  requestRecord_setCycle_rpl _ (by decide) _ _

@[simp] theorem dryMove_rpl (due : Bool) : (dryMove s due).rpl = s.rpl := by
  unfold dryMove dryReport
  dsimp only
  repeat' split
  all_goals simp [enterExtend_rpl, enterCool_rpl]

@[simp] theorem ownMoves_rpl (st : CycleState) : (ownMoves s st).rpl = s.rpl := by
  unfold ownMoves faultMove testMove
  repeat' split
  all_goals simp [enterCool_rpl, enterGuard_rpl, enterDone_rpl]

@[simp] theorem holdReport_rpl (due : Bool) : (holdReport due s).rpl = s.rpl := by
  unfold holdReport airflowFaultReport
  dsimp only
  repeat' split
  all_goals simp [enterCool_rpl]

@[simp] theorem progressMove_rpl : (progressMove s).rpl = s.rpl := by
  unfold progressMove
  split
  case isTrue h =>
    have hloss : s.csq.state ≠ .loss := fun hl => by simp [hl, CycleState.runs] at h
    exact (requestRecord_stays hloss _ _).1
  case isFalse => rfl

theorem allMoves_rpl (dry a b d : Bool) : (allMoves s dry a b d).rpl = s.rpl := by
  unfold allMoves dryAndOwn holdSecond
  repeat' split
  all_goals simp

/-- A second leaves the planner alone. -/
theorem secondBody_rpl : (secondBody s).rpl = s.rpl := by
  have horder : ∀ (b : Bool) (v : State), (orderWhen b v).2.rpl = v.rpl := fun b v => by cases b <;> rfl
  have hmoves : ∀ (v : State) (dry : Bool), (moveSecond v dry).rpl = v.rpl := fun v dry => by
    unfold moveSecond
    dsimp only
    split
    · rw [allMoves_rpl, progressMove_rpl]
      simp only [horder]
    · rw [progressMove_rpl, allMoves_rpl]
      simp only [horder]
  unfold secondBody
  dsimp only
  rw [hmoves]
  simp

end

/-- What the airflow judgement leaves in a settled state (R79). -/
theorem judged_of_settled {t : State} (h : Settled (secondBody s) t) :
    t.ost.airHold = (outputJudged s).airHold ∧ t.ost.lowRun = (outputJudged s).lowRun ∧
    t.ost.goodRun = (outputJudged s).goodRun ∧ t.ost.airLast = (outputJudged s).airLast ∧ t.ost.airCount = 0 ∧
    t.ost.motor = (outputJudged s).motor ∧ t.ost.doorOpen = (outputJudged s).doorOpen ∧
    t.ost.tripped = (outputJudged s).tripped := by
  have field : ∀ {α : Type} (f : Output → α), (∀ v : State, f (Safety.blur v).ost = f v.ost) →
      (∀ o : Output, f o.unheld = f o) → f t.ost = f (outputJudged s) := fun f hblur hunheld => by
    rw [← hblur t, show Safety.blur t = Safety.blur (secondBody s) from h, hblur, ← hunheld, secondBody_unheld, hunheld]
  exact ⟨field _ (fun _ => rfl) fun _ => rfl, field _ (fun _ => rfl) fun _ => rfl, field _ (fun _ => rfl) fun _ => rfl,
    field _ (fun _ => rfl) fun _ => rfl, field Output.airCount (fun _ => rfl) fun _ => rfl, field _ (fun _ => rfl) fun _ => rfl,
    field _ (fun _ => rfl) fun _ => rfl, field _ (fun _ => rfl) fun _ => rfl⟩

end Sys2Proof.Machine

namespace Sys2Proof.Proofs

open Sys2Proof.Machine Sys2Proof.Safety

/-- Settles O29: nothing else is due in the second. -/
theorem progressRecorded : Obligations.ProgressRecorded := by
  unfold Obligations.ProgressRecorded
  intro s c f d hpow hres hprog hhold hcase
  have hbody : s.csq.state.runs = true ∧ secondBody s = requestRecord (secondAfter s c f d) .progress .none := by
    rcases hcase with ⟨hst, rfl, rfl, hdry, hfault, htest, rfl⟩ | ⟨hst, rfl, rfl, hfault, htest, hext, rfl⟩ |
      ⟨hst, rfl, rfl, hcool, rfl⟩ | ⟨hst, rfl, rfl, hguard, rfl⟩
    · have hno : ((verdictAfter s).all && !s.dwn.reported) = false := by simpa using hdry
      have hruns : s.csq.state.runs = true := by rw [hst]; rfl
      refine ⟨hruns, ?_⟩
      rw [secondBody_of_heat hres hst, hno]
      refine moveSecond_progress hres hruns hprog (fun _ => hfault) hhold ?_
      rw [testDue_counted_heat _ _ _ _ hres hst]
      exact decide_eq_false (Nat.not_le.2 htest)
    · have hruns : s.csq.state.runs = true := by rw [hst]; rfl
      refine ⟨hruns, ?_⟩
      rw [secondBody_of_extend hres hst]
      refine moveSecond_progress hres hruns hprog (fun _ => hfault) hhold ?_
      rw [testDue_counted_extend _ _ _ _ hres hst]
      exact Bool.or_eq_false_iff.2 ⟨decide_eq_false (Nat.not_le.2 hext), decide_eq_false (Nat.not_le.2 htest)⟩
    · have hruns : s.csq.state.runs = true := by rw [hst]; rfl
      refine ⟨hruns, ?_⟩
      rw [secondBody_of_cool hres hst]
      exact moveSecond_progress hres hruns hprog (by rw [hst]; exact nofun) hhold
        (by simpa using mt (testDue_counted_cool _ _ hres hst).1 hcool)
    · have hruns : s.csq.state.runs = true := by rw [hst]; rfl
      refine ⟨hruns, ?_⟩
      rw [secondBody_of_guard hres hst]
      refine moveSecond_progress hres hruns hprog (by rw [hst]; exact nofun) hhold ?_
      rw [testDue_counted_guard _ _ _ _ hres hst]
      exact decide_eq_false hguard
  obtain ⟨hruns, hmoves⟩ := hbody
  obtain ⟨t, ht, hset⟩ := second_leads hpow hmoves
  refine ⟨t, mainEvent_second ?_ ht, ht, hset⟩
  unfold progressDue
  rw [hres, hruns]
  simpa using hprog

/-- Settles O30: the judgement of the second stands whatever the second moves. -/
theorem airflowHold : Obligations.AirflowHold := by
  unfold Obligations.AirflowHold
  intro s hpow hjudge
  obtain ⟨t, ht, hset⟩ := second_leads hpow (u := secondBody s) rfl
  obtain ⟨hhold, hlow, hgood, hlast, hcount, hmotor, hdoor, htripped⟩ := judged_of_settled hset
  have hrest : t.mwt = s.mwt ∧ t.scv = s.scv ∧ t.hdm = s.hdm ∧ t.rpl = s.rpl ∧ t.settings = s.settings ∧
      t.flash = s.flash := by
    have hframe := secondBody_frame (s := s)
    exact ⟨hset.mwt.trans hframe.2.2.1, hset.scv.trans hframe.2.1, hset.hdm.trans hframe.2.2.2.1,
      hset.rpl.trans (secondBody_rpl s), hset.settings.trans hframe.2.2.2.2.2.2.1,
      hset.flash.trans hframe.2.2.2.2.2.2.2.1⟩
  refine ⟨fun hfew hrun hclear => ?_, fun henough hrun hset' => ?_⟩
  · have hjudged : outputJudged s = { s.ost with
        airLast := s.ost.airCount, lowRun := 5, goodRun := 0, airHold := true, airCount := 0,
        airJudge := s.ost.motor = .running } := by
      unfold outputJudged airJudged
      rw [if_pos hjudge, if_pos hfew, hrun, hclear]
      rfl
    rw [hjudged] at hhold hlow hgood hlast hmotor hdoor htripped
    refine ⟨t, mainEvent_second ?_ ht, ht, hhold, hlow, hgood, hlast, hcount, ?_, hmotor, hdoor, htripped, hrest⟩
    · unfold holdSetDue
      rw [hjudge, hrun, hclear]
      simpa using hfew
    · unfold heaterWant heaterWanted
      simp [hhold]
  · have hjudged : outputJudged s = { s.ost with
        airLast := s.ost.airCount, lowRun := 0, goodRun := 5, airHold := false, airCount := 0,
        airJudge := s.ost.motor = .running } := by
      unfold outputJudged airJudged
      rw [if_pos hjudge, if_neg (Nat.not_lt.2 henough), hrun, hset']
      rfl
    rw [hjudged] at hhold hlow hgood hlast hmotor hdoor htripped
    refine ⟨t, mainEvent_second ?_ ht, ht, hhold, hgood, hlow, hlast, hcount, hmotor, hdoor, htripped, hrest⟩
    unfold holdClearDue
    rw [hjudge, hrun, hset']
    simpa using henough

end Sys2Proof.Proofs
end

section
/-! PROOFS. The layouts (R192 to R194): where each field of the records, of the Plan, of the dumps and of the status stands, and
the codes of the tables. -/

namespace Sys2Proof.Machine

open Safety (flags LaidOut)

/-! ## Fields of bytes -/

theorem leNat_leBytes : ∀ w v, leNat (leBytes w v) = v % 256 ^ w
  | 0, v => by rw [Nat.pow_zero, Nat.mod_one]; rfl
  | w + 1, v => by
    have hbyte : (byteOf v).toNat = v % 256 := BitVec.toNat_ofNat v 8
    rw [leBytes, leNat, leNat_leBytes w, hbyte, Nat.pow_succ', Nat.mod_mul]

/-- Fields one after the other, each a width and a value, as bytes. -/
def segBytes : List (Nat × Nat) → List Byte
  | [] => []
  | (w, v) :: rest => leBytes w v ++ segBytes rest

/-- The bytes that fields take. -/
def segWidth : List (Nat × Nat) → Nat
  | [] => 0
  | (w, _) :: rest => w + segWidth rest

/-- Fields one after the other from an offset on, each with its own offset. -/
def placed : Nat → List (Nat × Nat) → List (Nat × Nat × Nat)
  | _, [] => []
  | off, (w, v) :: rest => (off, w, v) :: placed (off + w) rest

/-- Fields stand one after the other in bytes from an offset on. -/
def Stands (bs : List Byte) (off : Nat) (segs : List (Nat × Nat)) : Prop := ∃ rest, bs.drop off = segBytes segs ++ rest

theorem segBytes_append : ∀ a b, segBytes (a ++ b) = segBytes a ++ segBytes b
  | [], _ => rfl
  | (w, v) :: a, b => by rw [List.cons_append, segBytes, segBytes_append a b, segBytes, List.append_assoc]

theorem segWidth_append : ∀ a b, segWidth (a ++ b) = segWidth a + segWidth b
  | [], _ => (Nat.zero_add _).symm
  | (w, v) :: a, b => by rw [List.cons_append, segWidth, segWidth_append a b, segWidth, Nat.add_assoc]

theorem length_segBytes : ∀ a, (segBytes a).length = segWidth a
  | [] => rfl
  | (w, v) :: a => by rw [segBytes, List.length_append, length_segBytes a, length_leBytes]; rfl

section
variable {bs : List Byte} {off : Nat}

theorem stands_self (a : List (Nat × Nat)) : Stands (segBytes a) 0 a := ⟨[], (List.append_nil _).symm⟩

theorem Stands.append {a b : List (Nat × Nat)} (h : Stands bs off (a ++ b)) :
    Stands bs off a ∧ Stands bs (off + segWidth a) b := by
  obtain ⟨rest, h⟩ := h
  rw [segBytes_append, List.append_assoc] at h
  refine ⟨⟨_, h⟩, rest, ?_⟩
  rw [← List.drop_drop, h, ← length_segBytes, List.drop_left]

/-- Fields that end at a byte `n` are followed there by the next ones. -/
theorem Stands.split {a b : List (Nat × Nat)} (n : Nat) (h : Stands bs off (a ++ b)) (hn : off + segWidth a = n) :
    Stands bs off a ∧ Stands bs n b := hn ▸ h.append

theorem laidOut_append {fs gs : List (Nat × Nat × Nat)} (hf : LaidOut bs fs) (hg : LaidOut bs gs) :
    LaidOut bs (fs ++ gs) := fun off w v h => (List.mem_append.1 h).elim (hf off w v) (hg off w v)

/-- Fields that stand in bytes read as their values, each cut to its width. -/
theorem Stands.laidOut : ∀ {a : List (Nat × Nat)} {off : Nat}, Stands bs off a → LaidOut bs (placed off a)
  | [], _, _ => fun _ _ _ h => nomatch h
  | (w, v) :: a, off, h => by
    obtain ⟨h1, h2⟩ := Stands.append (a := [(w, v)]) h
    intro off' w' v' hmem
    rcases List.mem_cons.1 hmem with heq | hrest
    · cases heq
      obtain ⟨rest, h1⟩ := h1
      rw [fieldAt, h1, segBytes, segBytes, List.append_nil, List.take_left' (length_leBytes _ _), leNat_leBytes]
    · exact Stands.laidOut (a := a) h2 _ _ _ hrest

end

/-! ## Flags -/

theorem flags_cons (b : Bool) (rest : List Bool) : flags (b :: rest) = b.toNat + 2 * flags rest := by
  cases b <;> rfl

/-- Flags from bit `i` on, summed bit by bit. -/
def bitsFrom : Nat → List Bool → Nat
  | _, [] => 0
  | i, [b] => bitAt b i
  | i, b :: rest => bitAt b i + bitsFrom (i + 1) rest

theorem bitsFrom_eq : ∀ (i : Nat) (bs : List Bool), bitsFrom i bs = 2 ^ i * flags bs
  | _, [] => rfl
  | i, [b] => by cases b <;> simp [bitsFrom, bitAt, flags]
  | i, b :: c :: rest => by
    have hrest : bitsFrom i (b :: c :: rest) = bitAt b i + bitsFrom (i + 1) (c :: rest) := rfl
    have hbit : bitAt b i = 2 ^ i * b.toNat := by cases b <;> simp [bitAt]
    rw [hrest, bitsFrom_eq (i + 1) (c :: rest), hbit, flags_cons b, Nat.pow_succ, Nat.mul_add, Nat.mul_assoc]

theorem eight_flags (bs : List Bool) : 8 * flags bs = bitsFrom 3 bs := (bitsFrom_eq 3 bs).symm

theorem sixteen_flags (bs : List Bool) : 16 * flags bs = bitsFrom 4 bs := (bitsFrom_eq 4 bs).symm

theorem sixtyfour_flags (bs : List Bool) : 64 * flags bs = bitsFrom 6 bs := (bitsFrom_eq 6 bs).symm

/-- Flags are the sum of their bits. -/
theorem flags_eq (bs : List Bool) : flags bs = bitsFrom 0 bs := by rw [bitsFrom_eq, Nat.pow_zero, Nat.one_mul]

/-! ## Codes -/

theorem outcomeCode_eq (x : PlanOutcome) : outcomeCode x =
    [PlanOutcome.none, .resumeHeat, .resumeExtend, .resumeCool, .resumeGuard, .resumePaused, .endedDoor,
      .abandonedWindow, .abandonedClock].idxOf x := by cases x <;> rfl

theorem dispositionCode_eq (x : Disposition) : dispositionCode x =
    [Disposition.pending, .executed, .declined, .abandoned, .forced].idxOf x := by cases x <;> rfl

theorem phaseCode_eq (x : Phase) : phaseCode x = Safety.phaseNumber x := by cases x <;> rfl

/-! ## The Plan and the dumps -/

/-- The fields of the Plan record in their order (R194). -/
def planSegs (p : Plan) : List (Nat × Nat) :=
  [(1, [PlanOutcome.none, .resumeHeat, .resumeExtend, .resumeCool, .resumeGuard, .resumePaused, .endedDoor,
      .abandonedWindow, .abandonedClock].idxOf p.outcome),
   (1, flags [p.unclean, p.fallback, p.tempUnknown, p.outage.isNone]),
   (1, [Disposition.pending, .executed, .declined, .abandoned, .forced].idxOf p.disposition),
   (1, flags [p.blink]), (1, Safety.phaseNumber p.phaseAtLoss), (1, Safety.phaseNumber p.remembered),
   (4, p.sourceSeq), (4, p.outage.getD 0), (2, p.waited), (1, p.tLoss), (1, p.tRet), (1, p.deltaT),
   (2, p.reheat), (2, p.newExt), (2, p.newGuard)]

theorem planBytes_eq (p : Plan) : planBytes p = segBytes (planSegs p) := by
  unfold planBytes planSegs
  simp only [outcomeCode_eq, dispositionCode_eq, phaseCode_eq, flags_eq, bitsFrom, segBytes, List.append_assoc,
    List.append_nil]
  simp only [Nat.add_assoc]

theorem planBytes_laidOut (p : Plan) : LaidOut (planBytes p) (Safety.planFields p) := by
  rw [planBytes_eq]
  exact (stands_self (planSegs p)).laidOut

theorem peerBytes_laidOut (p : Peer) : LaidOut (peerBytes p) (Safety.peerFields p) := by
  have heq : peerBytes p = segBytes [(1, p.id), (1, p.held), (1, p.want), (2, p.key), (1, p.budget),
      (1, p.phase % 16 + 16 * flags [p.resume]), (1, min (p.age / 1000000) 3)] := by
    unfold peerBytes
    simp only [sixteen_flags, bitsFrom, segBytes, List.append_assoc, List.append_nil]
  rw [heq]
  exact (stands_self _).laidOut

theorem countersBytes_laidOut (s : State) : LaidOut (countersBytes s) (Safety.counterFields s) := by
  have heq : countersBytes s = segBytes [(2, s.pjr.counters.written), (2, s.pjr.counters.replaced),
      (1, s.pjr.counters.verifyFailures), (1, s.pjr.counters.abandoned), (1, s.pjr.counters.dropped),
      (2, s.pjr.counters.erases), (1, s.pjr.counters.eraseFailures), (2, s.pjr.counters.suspends), (1, s.plp.collisions),
      (1, s.plp.rxErrors), (1, s.plp.txFailures), (1, s.plp.clashes), (1, s.fsu.tableFull), (1, s.fsu.sheds),
      (1, s.mwt.rejected)] := by
    unfold countersBytes
    simp only [segBytes, List.append_assoc, List.append_nil]
  rw [heq]
  exact (stands_self _).laidOut

theorem identBytes_laidOut (s : State) : LaidOut (identBytes s) (Safety.identFields s) := by
  have heq : identBytes s = segBytes [(1, flags [s.pjr.factoryGood]), (6, s.pjr.serial), (2, s.pjr.product),
      (1, flags [s.scv.strapDone, s.scv.strapFault]), (1, s.scv.levelA.getD 255), (1, s.scv.levelB.getD 255),
      (1, s.scv.stationId)] := by
    unfold identBytes
    simp only [flags_eq, bitsFrom, segBytes, List.append_assoc, List.append_nil]
  rw [heq]
  exact (stands_self _).laidOut


/-! ## The Cycle Record, the Cycle Descriptor and the records of the status -/

theorem cycleCode_eq (x : CycleState) : cycleCode x = Safety.cycleNumber x := by cases x <;> rfl

theorem kindCode_eq (x : RecordKind) : kindCode x = Safety.kindNumber x := by cases x <;> rfl

theorem burstCode_eq (x : Burst) : burstCode x = [Burst.rest, .tumble].idxOf x := by cases x <;> rfl

theorem endCode_eq (x : EndReason) : endCode x =
    [EndReason.none, .complete, .cancelled, .doorEnd, .declined, .hostReset, .abandoned].idxOf x := by cases x <;> rfl

theorem reasonsCode_eq (r : Reasons) : reasonsCode r = Safety.reasonFlags r := by
  simp only [reasonsCode, Safety.reasonFlags, flags_eq, bitsFrom, Nat.add_assoc]

theorem readyCode_eq (x : ReadyReason) : readyCode x = [ReadyReason.none, .doorOpen, .confirm].idxOf x := by
  cases x <;> rfl

theorem thermCode_eq (x : ThermFault) : thermCode x = Safety.thermNumber x := by cases x <;> rfl

theorem stageCode_eq (x : StageState) : stageCode x = [StageState.off, .heldOff, .firing].idxOf x := by cases x <;> rfl

theorem motorCode_eq (x : MotorState) : motorCode x = [MotorState.stopped, .starting, .running].idxOf x := by
  cases x <;> rfl

theorem mainsCode_eq (x : MainsState) :
    mainsCode x = [MainsState.measuring, .present, .lossWarning, .returning, .lineFault].idxOf x := by cases x <;> rfl

theorem classCode_eq (x : LineClass) : classCode x = [LineClass.unknown, .hz50, .hz60].idxOf x := by cases x <;> rfl

theorem sectorCode_eq (x : SectorState) : sectorCode x = Safety.sectorNumber x := by cases x <;> rfl

theorem flashOpCode_eq (x : FlashOp) : flashOpCode x = Safety.operationNumber x := by
  cases x with
  | programming k i halted => cases halted <;> rfl
  | _ => rfl

theorem pendingByte_eq (x : Option PendingRecord) : pendingByte x = Safety.pendingNumber x := by
  cases x with
  | none => rfl
  | some p => simp only [pendingByte, Safety.pendingNumber, kindCode_eq, sixteen_flags, bitsFrom, Nat.add_assoc]

theorem viewCode_eq (x : DoorView) : viewCode x = [DoorView.unknown, .closed, .opened].idxOf x := by cases x <;> rfl

theorem txCode_eq (x : TxState) : txCode x = [TxState.empty, .pending, .backoff, .sending].idxOf x := by cases x <;> rfl

theorem rxCode_eq (x : RxState) : rxCode x = [RxState.idle, .receiving, .discard].idxOf x := by cases x <;> rfl

theorem stepCode_eq (x : StepState) : stepCode x = Safety.stepNumber x := by cases x <;> rfl

theorem causeCode_eq (x : Option IsoCause) : causeCode x = Safety.causeNumber x := by
  cases x with
  | none => rfl
  | some c => cases c <;> rfl

theorem timerMs_eq (x : Option Nat) : timerMs x = Safety.millis x := by cases x <;> rfl

theorem unitCode_eq (s : State) : unitCode (unitState s) = Safety.unitNumber s := by
  have hlistening : listening s = true ↔
      s.pnl.setupDone = false ∨ s.fsu.listenIn.isSome = true ∨ s.scv.strapDone = false := by
    simp [listening, or_assoc]
  unfold unitState Safety.unitNumber
  simp only [← hlistening, Bool.and_eq_true, decide_eq_true_eq]
  repeat' split
  all_goals rfl

/-- The fields of a Cycle Record in their order (R192). -/
def cycleSegs (c : CycleRecord) : List (Nat × Nat) :=
  [(2, c.cycleId), (1, Safety.phaseNumber c.phase), (1, Safety.phaseNumber c.before), (1, [Burst.rest, .tumble].idxOf c.burst),
   (2, c.burstTimer), (2, c.heated), (2, c.phaseElapsed), (2, c.tDry), (2, c.extTotal), (2, c.extDone), (2, c.coolElapsed),
   (2, c.guardRemaining)]

/-- The fields of a Cycle Descriptor in their order (R192). -/
def descriptorSegs (d : Descriptor) : List (Nat × Nat) :=
  [(1, d.x), (2, d.minHeat), (2, d.maxHeat), (1, d.exhLimit), (1, d.coolTarget), (2, d.coolMin), (2, d.coolMax),
   (2, d.guardTotal), (2, d.guardRest), (1, d.guardTumble), (2, d.guardResumeMin), (1, d.stages), (1, d.dryRun),
   (1, d.dryHits), (2, d.wetThreshold)]

/-- The fields of a channel record in their order (R194). -/
def channelSegs (r : ChannelRecord) : List (Nat × Nat) :=
  [(1, flags [r.periodMode, r.oscillation]), (3, r.count), (2, r.period), (2, r.ref), (2, r.w), (1, r.results)]

/-- The fields of a heater stage in their order (R65, R194). -/
def stageSegs (s : State) (k : Nat) (step : StepState) (x : Stage) : List (Nat × Nat) :=
  [(1, [StageState.off, .heldOff, .firing].idxOf x.state),
   (1, if s.csq.state.heats && k ≤ s.csq.desc.stages then
      flags [step != .cover, s.ost.motor != .running, s.ost.doorOpen, s.ost.airHold, s.ost.tripped, sensorFault s,
        s.mwt.state != .present] else 0),
   (1, x.active), (1, x.pending)]

theorem cycleBytes_eq (c : CycleRecord) : cycleBytes c = segBytes (cycleSegs c) := by
  simp only [cycleBytes, cycleSegs, phaseCode_eq, burstCode_eq, segBytes, List.append_nil]

theorem descriptorBytes_eq (d : Descriptor) : descriptorBytes d = segBytes (descriptorSegs d) := by
  simp only [descriptorBytes, descriptorSegs, segBytes, List.append_nil]

theorem channelBytes_eq (r : ChannelRecord) : channelBytes r = segBytes (channelSegs r) := by
  simp only [channelBytes, channelSegs, flags_eq, bitsFrom, segBytes, List.append_assoc, List.append_nil]

theorem stageBytes_eq (s : State) (k : Nat) (step : StepState) (x : Stage) :
    stageBytes x (reasonsShown s k step) = segBytes (stageSegs s k step x) := by
  have hreasons : reasonsByte (reasonsShown s k step) = if s.csq.state.heats && k ≤ s.csq.desc.stages then
      flags [step != .cover, s.ost.motor != .running, s.ost.doorOpen, s.ost.airHold, s.ost.tripped, sensorFault s,
        s.mwt.state != .present] else 0 := by
    unfold reasonsShown askedFor
    split
    · simp only [reasonsByte, holdOff, flags_eq, bitsFrom, Nat.add_assoc]
    · rfl
  simp only [stageBytes, stageSegs, hreasons, stageCode_eq, segBytes, List.append_assoc, List.append_nil]

end Sys2Proof.Machine
end

section
/-! PROOFS. The status snapshot (R187, R194), and the reads (R149, R187 to R189). -/

namespace Sys2Proof.Machine

open Safety (flags LaidOut cycleFields descriptorFields channelFields stageFields cycleStatusFields outputStatusFields
  unitStatusFields)

/-! ## The parts of the snapshot -/

section
variable (s : State)

/-- Bytes 0 to 2 of the status (R194). -/
def statusHead : List (Nat × Nat) :=
  [(1, Safety.cycleNumber s.csq.state), (1, [ReadyReason.none, .doorOpen, .confirm].idxOf s.csq.ready),
   (1, flags [s.pnl.evPhase, s.pnl.evPlan, s.pnl.evFault, s.pnl.evLine, s.pnl.setupDone, s.pnl.resetEnable])]

/-- Byte 48 of the status: the faults of the measurements. -/
def senseFaults : List (Nat × Nat) :=
  [(1, flags [s.scv.refFault] + 2 * Safety.thermNumber s.scv.exhFault + 8 * Safety.thermNumber s.scv.inlFault)]

/-- Bytes 82 to 87 of the status: the codes and the Dryness Window. -/
def windowSegs : List (Nat × Nat) :=
  [(1, s.dwn.exh), (1, s.dwn.inl), (1, s.dwn.window.length), (1, s.dwn.window.countP id),
   (1, (s.dwn.window.takeWhile (!·)).length),
   (1, flags [s.dwn.verdict.full, s.dwn.verdict.heat, s.dwn.verdict.quiet, s.dwn.verdict.hits, s.dwn.reported])]

/-- Bytes 96 to 108 of the status: the Output Stage but for its stages. -/
def outputSegs : List (Nat × Nat) :=
  [(1, s.settings.modulus), (1, s.ost.position),
   (1, flags
     [s.fsu.start = .cover || s.fsu.start = .release, s.fsu.stage1 = .cover || s.fsu.stage1 = .release,
      s.fsu.stage2 = .cover || s.fsu.stage2 = .release, false, s.fsu.start = .release, s.fsu.stage1 = .release,
      s.fsu.stage2 = .release]),
   (1, flags [s.ost.tripped] + 2 * [MotorState.stopped, .starting, .running].idxOf s.ost.motor
     + 8 * flags [s.ost.reverse, s.ost.doorOpen, s.ost.airHold]),
   (2, Safety.millis s.ost.startWindow), (2, Safety.millis s.ost.coast), (1, min s.ost.airLast 255),
   (1, s.ost.lowRun), (1, s.ost.goodRun), (2, s.ost.cumHold)]

/-- Bytes 109 to 114 of the status: the Mains Watch. -/
def mainsSegs : List (Nat × Nat) :=
  [(1, [MainsState.measuring, .present, .lossWarning, .returning, .lineFault].idxOf s.mwt.state),
   (1, [LineClass.unknown, .hz50, .hz60].idxOf s.mwt.cls), (2, s.mwt.lastHalf),
   (1, flags [s.mwt.railTripped, s.mwt.warning, s.mwt.causeCrossing, s.mwt.causeRail]), (1, s.mwt.returnCount)]

/-- Bytes 115 to 130 of the status: the journal. -/
def journalSegs : List (Nat × Nat) :=
  [(1, Safety.sectorNumber s.pjr.sector0), (1, Safety.sectorNumber s.pjr.sector1), (1, Safety.sectorNumber s.pjr.sector2),
   (1, Safety.sectorNumber s.pjr.sector3), (1, if s.pjr.scanDone then s.pjr.ptrSector else 255),
   (1, if s.pjr.scanDone then s.pjr.ptrSlot else 255), (4, s.pjr.nextSeq),
   (1, Safety.operationNumber s.pjr.op), (1, Safety.pendingNumber s.pjr.pend), (1, s.pjr.queue.getD 0 255),
   (1, s.pjr.queue.getD 1 255), (1, s.pjr.queue.getD 2 255),
   (1, flags [s.pjr.lossMark, s.pjr.fault, s.pjr.newestBad, s.pjr.factoryGood])]

/-- Bytes 131 to 138 of the status: the Holdover Domain and the port. -/
def lineSegs : List (Nat × Nat) :=
  [(4, s.hdm.clock),
   (1, flags [s.hdm.clockLost, s.hdm.doorLatch] + 4 * [DoorView.unknown, .closed, .opened].idxOf s.hdm.view
     + 16 * flags [!s.mainPowered || s.csq.state = .loss || s.csq.state = .holdoverWait]),
   (1, [TxState.empty, .pending, .backoff, .sending].idxOf s.plp.tx + 4 * slotCode s.plp.slot
     + 16 * [RxState.idle, .receiving, .discard].idxOf s.plp.rx + 64 * flags [s.plp.fault]),
   (1, s.plp.attempts), (1, s.plp.consecutive)]

/-- Bytes 139 to 153 of the status: the Feeder Share Unit. -/
def unitSegs : List (Nat × Nat) :=
  [(1, Safety.unitNumber s), (1, held s), (1, s.fsu.want), (1, s.fsu.cls), (2, s.fsu.key),
   (1, Safety.stepNumber s.fsu.start + 4 * Safety.stepNumber s.fsu.stage1 + 16 * Safety.stepNumber s.fsu.stage2),
   (2, Safety.millis s.fsu.settle), (2, Safety.millis s.fsu.listenIn), (2, Safety.millis s.fsu.notice),
   (1, s.fsu.effective), (1, flags [s.fsu.mismatch, s.fsu.isolated.isSome] + 4 * Safety.causeNumber s.fsu.isolated)]

/-- Bytes 0 to 47 of the status. -/
def cycleStatusSegs : List (Nat × Nat) :=
  statusHead s ++ (cycleSegs s.csq.cyc ++ ([(1, Safety.reasonFlags s.csq.cyc.reasons)] ++ descriptorSegs s.csq.desc))

/-- Bytes 48 to 87 of the status. -/
def senseStatusSegs : List (Nat × Nat) :=
  senseFaults s ++ (channelSegs s.scv.moist ++ (channelSegs s.scv.exh ++ (channelSegs s.scv.inl ++ windowSegs s)))

/-- Bytes 88 to 108 of the status. -/
def outputStatusSegs : List (Nat × Nat) :=
  stageSegs s 1 s.fsu.stage1 s.ost.stage1 ++ (stageSegs s 2 s.fsu.stage2 s.ost.stage2 ++ outputSegs s)

theorem cycleStatus_eq : cycleStatus s = segBytes (cycleStatusSegs s) := by
  simp only [cycleStatusSegs, cycleStatus, segBytes_append, ← cycleBytes_eq, ← descriptorBytes_eq, statusHead, cycleCode_eq,
    readyCode_eq, reasonsCode_eq, flags_eq, bitsFrom, segBytes, List.append_assoc, List.nil_append, Nat.add_assoc]

theorem senseStatus_eq : senseStatus s = segBytes (senseStatusSegs s) := by
  simp only [senseStatusSegs, senseStatus, segBytes_append, ← channelBytes_eq, senseFaults, windowSegs, thermCode_eq,
    fillCount, hitCount, quietCount, flags_eq, bitsFrom, segBytes, List.append_assoc, List.append_nil, Nat.add_assoc]

theorem outputStatus_eq : outputStatus s = segBytes (outputStatusSegs s) := by
  have hnone : bitAt false 3 = 0 := rfl
  simp only [outputStatusSegs, outputSegs, eight_flags]
  simp only [outputStatus, segBytes_append, ← stageBytes_eq, motorCode_eq, timerMs_eq, inCover,
    StepState.covered, flags_eq, bitsFrom, hnone, Nat.zero_add, segBytes, List.append_assoc, List.append_nil,
    Nat.add_assoc]

theorem mainsStatus_eq : mainsStatus s = segBytes (mainsSegs s) := by
  simp only [mainsStatus, mainsSegs, mainsCode_eq, classCode_eq, flags_eq, bitsFrom, segBytes, List.append_assoc,
    List.append_nil, Nat.add_assoc]

theorem journalStatus_eq : journalStatus s = segBytes (journalSegs s) := by
  simp only [journalStatus, journalSegs, queueBytes, sectorCode_eq, flashOpCode_eq, pendingByte_eq, flags_eq, bitsFrom,
    segBytes, List.append_assoc, List.append_nil, Nat.add_assoc]

theorem lineStatus_eq : holdoverStatus s ++ portStatus s = segBytes (lineSegs s) := by
  simp only [lineSegs, sixteen_flags, sixtyfour_flags]
  simp only [holdoverStatus, portStatus, doorWatch, viewCode_eq, txCode_eq, rxCode_eq, flags_eq, bitsFrom, segBytes, List.append_assoc, List.append_nil, Nat.add_assoc]

theorem feederStatus_eq : feederStatus s = segBytes (unitSegs s) := by
  simp only [feederStatus, unitSegs, unitCode_eq, stepCode_eq, timerMs_eq, causeCode_eq, flags_eq, bitsFrom, segBytes,
    List.append_assoc, List.append_nil, Nat.add_assoc]

/-- The snapshot as its parts in their order (R194). -/
theorem snapshot_eq : snapshot s = segBytes (cycleStatusSegs s ++ (senseStatusSegs s ++ (outputStatusSegs s ++
    (mainsSegs s ++ (journalSegs s ++ (lineSegs s ++ unitSegs s)))))) := by
  unfold snapshot
  rw [List.append_assoc _ (holdoverStatus s) (portStatus s), lineStatus_eq, cycleStatus_eq, senseStatus_eq, outputStatus_eq,
    mainsStatus_eq, journalStatus_eq, feederStatus_eq]
  generalize cycleStatusSegs s = a, senseStatusSegs s = b, outputStatusSegs s = c, mainsSegs s = d, journalSegs s = e,
    lineSegs s = f, unitSegs s = g
  simp only [segBytes_append, List.append_assoc]

theorem segWidth_cons (w v : Nat) (rest : List (Nat × Nat)) : segWidth ((w, v) :: rest) = w + segWidth rest := rfl

theorem segWidth_nil : segWidth [] = 0 := rfl

@[simp] theorem width_cycle (c : CycleRecord) : segWidth (cycleSegs c) = 21 := by
  simp only [cycleSegs, segWidth_cons, segWidth_nil, Nat.reduceAdd]

@[simp] theorem width_descriptor (d : Descriptor) : segWidth (descriptorSegs d) = 23 := by
  simp only [descriptorSegs, segWidth_cons, segWidth_nil, Nat.reduceAdd]

@[simp] theorem width_channel (r : ChannelRecord) : segWidth (channelSegs r) = 11 := by
  simp only [channelSegs, segWidth_cons, segWidth_nil, Nat.reduceAdd]

@[simp] theorem width_stage (k : Nat) (step : StepState) (x : Stage) : segWidth (stageSegs s k step x) = 4 := by
  simp only [stageSegs, segWidth_cons, segWidth_nil, Nat.reduceAdd]

@[simp] theorem width_head : segWidth (statusHead s) = 3 := by
  simp only [statusHead, segWidth_cons, segWidth_nil, Nat.reduceAdd]

@[simp] theorem width_faults : segWidth (senseFaults s) = 1 := by
  simp only [senseFaults, segWidth_cons, segWidth_nil, Nat.reduceAdd]

@[simp] theorem width_window : segWidth (windowSegs s) = 6 := by
  simp only [windowSegs, segWidth_cons, segWidth_nil, Nat.reduceAdd]

@[simp] theorem width_output : segWidth (outputSegs s) = 13 := by
  simp only [outputSegs, segWidth_cons, segWidth_nil, Nat.reduceAdd]

@[simp] theorem width_mains : segWidth (mainsSegs s) = 6 := by
  simp only [mainsSegs, segWidth_cons, segWidth_nil, Nat.reduceAdd]

@[simp] theorem width_journal : segWidth (journalSegs s) = 16 := by
  simp only [journalSegs, segWidth_cons, segWidth_nil, Nat.reduceAdd]

@[simp] theorem width_line : segWidth (lineSegs s) = 8 := by
  simp only [lineSegs, segWidth_cons, segWidth_nil, Nat.reduceAdd]

@[simp] theorem width_unit : segWidth (unitSegs s) = 15 := by
  simp only [unitSegs, segWidth_cons, segWidth_nil, Nat.reduceAdd]

@[simp] theorem width_cycleStatus : segWidth (cycleStatusSegs s) = 48 := by
  simp [cycleStatusSegs, segWidth_append, segWidth_cons]

@[simp] theorem width_senseStatus : segWidth (senseStatusSegs s) = 40 := by
  simp [senseStatusSegs, segWidth_append]

@[simp] theorem width_outputStatus : segWidth (outputStatusSegs s) = 21 := by
  simp [outputStatusSegs, segWidth_append]

theorem length_snapshot : (snapshot s).length = 154 := by
  simp [snapshot_eq, length_segBytes, segWidth_append]

end

end Sys2Proof.Machine

namespace Sys2Proof.Proofs

open Sys2Proof.Machine Sys2Proof.Safety

/-- Settles O21: each part of the snapshot stands where the parts before it end. -/
theorem snapshotLayout : Obligations.SnapshotLayout := by
  unfold Obligations.SnapshotLayout
  intro s
  rw [snapshot_eq]
  obtain ⟨hcycle, hrest⟩ := (stands_self (cycleStatusSegs s ++ (senseStatusSegs s ++ (outputStatusSegs s ++
    (mainsSegs s ++ (journalSegs s ++ (lineSegs s ++ unitSegs s))))))).split 48 (by simp)
  obtain ⟨hsense, hrest⟩ := hrest.split 88 (by simp)
  obtain ⟨houtput, hrest⟩ := hrest.split 109 (by simp)
  obtain ⟨hmains, hrest⟩ := hrest.split 115 (by simp)
  obtain ⟨hjournal, hrest⟩ := hrest.split 131 (by simp)
  obtain ⟨hline, hunit⟩ := hrest.split 139 (by simp)
  obtain ⟨hhead, hcycle⟩ := hcycle.split 3 (by simp)
  obtain ⟨hrecord, hcycle⟩ := hcycle.split 24 (by simp)
  obtain ⟨hreasons, hdescriptor⟩ := hcycle.split 25 rfl
  obtain ⟨hfaults, hsense⟩ := hsense.split 49 (by simp)
  obtain ⟨hmoist, hsense⟩ := hsense.split 60 (by simp)
  obtain ⟨hexh, hsense⟩ := hsense.split 71 (by simp)
  obtain ⟨hinl, hwindow⟩ := hsense.split 82 (by simp)
  obtain ⟨hstage1, houtput⟩ := houtput.split 92 (by simp)
  obtain ⟨hstage2, houtput⟩ := houtput.split 96 (by simp)
  have hhead' := laidOut_append hhead.laidOut
    (laidOut_append hreasons.laidOut (laidOut_append hfaults.laidOut hwindow.laidOut))
  have hunit' := laidOut_append hjournal.laidOut (laidOut_append hline.laidOut hunit.laidOut)
  refine laidOut_append (laidOut_append ?_ ?_) hunit'
  · exact laidOut_append (laidOut_append (laidOut_append (laidOut_append (laidOut_append hhead' hrecord.laidOut)
      hdescriptor.laidOut) hmoist.laidOut) hexh.laidOut) hinl.laidOut
  · exact laidOut_append (laidOut_append (laidOut_append houtput.laidOut hmains.laidOut) hstage1.laidOut) hstage2.laidOut

/-- Settles O20: a read answers and changes nothing else. -/
theorem reads : Obligations.Reads := by
  unfold Obligations.Reads
  refine ⟨fun s hpow hres => ?_, fun p => ⟨?_, planBytes_laidOut p⟩, fun p => ⟨?_, peerBytes_laidOut p⟩,
    fun s => ⟨?_, countersBytes_laidOut s, ?_, identBytes_laidOut s⟩⟩
  · have judged : ∀ body : State → List Byte → State,
        command s [0] 0 false body = .next (body (openFrame s [0] false) []) := fun body =>
      command_judged (l := 0) (p := []) false body hpow rfl rfl hres
    have answers : ∀ (body : State → List Byte → State) (st : Status) (payload : List Byte),
        body (openFrame s [0] false) [] = respond (openFrame s [0] false) st payload →
        command s [0] 0 false body = .next (answered s 1 false st payload) := fun body st payload h =>
      command_answers (l := 0) (p := []) hpow hres rfl rfl h
    refine ⟨judged _, length_snapshot s, fun h => answers _ _ _ (if_pos h), fun h => ?_, fun h => ?_, answers _ _ _ rfl,
      answers _ _ _ rfl, fun h => ?_, fun h => ?_⟩
    · refine answers _ _ _ ((if_neg (by rw [show (openFrame s [0] false).rpl = s.rpl from rfl, h]; decide)).trans ?_)
      rw [shownPlan, if_neg (by rw [show (openFrame s [0] false).rpl = s.rpl from rfl, h]; decide)]
      rfl
    · refine answers _ _ _ ((if_neg (by rw [show (openFrame s [0] false).rpl = s.rpl from rfl, h]; decide)).trans ?_)
      rw [shownPlan, if_pos (by exact h)]
      rfl
    · exact ⟨answers _ _ _ (if_neg (by rw [show (openFrame s [0] false).pjr = s.pjr from rfl, h]; decide)),
        answers _ _ _ (if_neg (by rw [show (openFrame s [0] false).pjr = s.pjr from rfl, h]; decide))⟩
    · refine ⟨answers _ _ _ ((if_pos h).trans ?_), answers _ _ _ (if_pos h)⟩
      rw [show (openFrame s [0] false).pjr = s.pjr from rfl]
      cases s.pjr.newest <;> rfl
  · simp [planBytes]
  · simp [peerBytes]
  · simp [countersBytes]
  · simp [identBytes]

end Sys2Proof.Proofs
end

section
/-! PROOFS. Layouts that read back (R97, R152, R153, R161, R192, R193): a record through its slot, and a notice through its
characters. -/

namespace Sys2Proof.Machine

open Safety (flags LaidOut recordFits cycleFits descriptorFits noticeFits)

/-! ## The flash reads what was written -/

theorem Memory.bytes_writeBytes (bs : List Byte) : ∀ (m : List Host.Cell) (a : Nat), Memory.wf m = true →
    Memory.bytes (Memory.writeBytes m a bs) a bs.length = bs := by
  induction bs with
  | nil => exact fun _ _ _ => rfl
  | cons v rest ih =>
    intro m a h
    rw [List.length_cons, Memory.bytes, Memory.writeBytes,
      Memory.read_writeBytes_outside rest _ _ _ (Memory.write_wf h a v) (by omega), Memory.read_write h, if_pos rfl,
      ih _ _ (Memory.write_wf h a v)]

theorem Memory.read_within (m : List Host.Cell) {a n x : Nat} (hx : a ≤ x ∧ x < a + n) :
    Memory.read (Memory.within m a n) x = Memory.read m x := by
  unfold Memory.within
  induction m with
  | nil => rfl
  | cons c rest ih =>
    obtain ⟨b, w⟩ := c
    by_cases hb : a ≤ b ∧ b < a + n
    · rw [List.filter_cons_of_pos (by simpa using hb), Memory.read, Memory.read, ih]
    · have hne : b ≠ x := fun h => hb (h ▸ hx)
      rw [List.filter_cons_of_neg (by simpa using hb), ih, Memory.read, if_neg hne]

theorem Memory.bytes_within (m : List Host.Cell) (a n : Nat) : ∀ (k x : Nat), a ≤ x → x + k ≤ a + n →
    Memory.bytes (Memory.within m a n) x k = Memory.bytes m x k
  | 0, _, _, _ => rfl
  | k + 1, x, h1, h2 => by
    rw [Memory.bytes, Memory.bytes, Memory.read_within m ⟨h1, by omega⟩,
      Memory.bytes_within m a n k (x + 1) (by omega) (by omega)]

theorem bytes_empty : ∀ (n x : Nat), Memory.bytes [] x n = List.replicate n 0xFF
  | 0, _ => rfl
  | n + 1, x => by rw [Memory.bytes, bytes_empty n, List.replicate_succ]; rfl

/-- A slot is read by its 64 bytes (R97). -/
theorem readSlot_eq (m : List Host.Cell) (k i : Nat) :
    readSlot m k i = readSlotBytes (Memory.bytes m (slotBase k i) 64) := by
  have hbytes := Memory.bytes_within m (slotBase k i) 64 64 (slotBase k i) (Nat.le_refl _) (Nat.le_refl _)
  unfold readSlot
  split
  case h_1 hnone =>
    rw [← hbytes, hnone, bytes_empty]
    rfl
  case h_2 cells => rw [hbytes]

/-- A slot reads as the bytes put there. -/
theorem readSlot_putSlot {m : List Host.Cell} (h : Memory.wf m = true) (k i : Nat) {bs : List Byte} (hl : bs.length = 64) :
    readSlot (putSlot m k i bs) k i = readSlotBytes bs := by
  have hread := Memory.bytes_writeBytes bs (Memory.erase m (slotBase k i) 64) (slotBase k i) (Memory.erase_wf h _ _)
  rw [hl] at hread
  rw [readSlot_eq, putSlot, hread]

/-! ## The record's bytes -/

theorem fieldAt_drop (bs : List Byte) (n off w : Nat) : fieldAt (bs.drop n) off w = fieldAt bs (n + off) w := by
  unfold fieldAt
  rw [List.drop_drop]

/-- The fields of a record before its Cycle Record (R192). -/
def recordHead (r : Record) : List (Nat × Nat) :=
  [(4, r.sequence), (4, r.stamp), (1, Safety.kindNumber r.kind),
   (1, [EndReason.none, .complete, .cancelled, .doorEnd, .declined, .hostReset, .abandoned].idxOf r.endReason)]

/-- The fields of a record between its Cycle Record and its descriptor (R192). -/
def recordMiddle (r : Record) : List (Nat × Nat) := [(1, r.exh), (1, r.inl), (1, Safety.reasonFlags r.cyc.reasons)]

/-- The fields of a record in their order, but for the CRC-16 (R192). -/
def recordSegs (r : Record) : List (Nat × Nat) :=
  recordHead r ++ (cycleSegs r.cyc ++ (recordMiddle r ++ (descriptorSegs r.desc ++ [(5, 0)])))

section
variable (r : Record)

theorem recordBody_eq : recordBody r = segBytes (recordSegs r) := by
  have hfill : leBytes 5 0 = List.replicate 5 0 := rfl
  simp only [recordBody, recordSegs, segBytes_append, ← cycleBytes_eq, ← descriptorBytes_eq, recordHead, recordMiddle,
    kindCode_eq, endCode_eq, reasonsCode_eq, segBytes, hfill, List.append_assoc, List.append_nil]

theorem recordBytes_laidOut : LaidOut (recordBytes r) (Safety.recordFields r) := by
  have hall : recordBytes r = segBytes (recordSegs r ++ [(2, (crc16 (recordBody r)).toNat)]) := by
    rw [segBytes_append, ← recordBody_eq, recordBytes, segBytes, segBytes, List.append_nil]
  obtain ⟨hsegs, -⟩ := (hall ▸ stands_self _ : Stands (recordBytes r) 0 (recordSegs r ++ _)).append
  obtain ⟨hhead, hsegs⟩ := hsegs.split 10 rfl
  obtain ⟨hcycle, hsegs⟩ := hsegs.split 31 (by simp)
  obtain ⟨hmiddle, hsegs⟩ := hsegs.split 34 rfl
  obtain ⟨hdescriptor, hfill⟩ := hsegs.split 57 (by simp)
  exact laidOut_append (laidOut_append (laidOut_append hhead.laidOut (laidOut_append hmiddle.laidOut hfill.laidOut))
    hcycle.laidOut) hdescriptor.laidOut

theorem take_recordBytes : (recordBytes r).take 62 = recordBody r := by
  rw [recordBytes, List.take_left' (length_recordBody r)]

theorem drop_recordBytes : (recordBytes r).drop 62 = leBytes 2 (crc16 (recordBody r)).toNat := by
  rw [recordBytes, List.drop_left' (length_recordBody r)]

theorem crc_recordBytes : leNat ((recordBytes r).drop 62) = (crc16 ((recordBytes r).take 62)).toNat := by
  rw [take_recordBytes, drop_recordBytes, leNat_leBytes]
  exact Nat.mod_eq_of_lt (crc16 (recordBody r)).isLt

end

/-! ## The codes read back -/

theorem kindOfCode_number (x : RecordKind) : kindOfCode (Safety.kindNumber x % 256) = some x := by cases x <;> rfl

theorem phaseOfCode_number (x : Phase) : phaseOfCode (Safety.phaseNumber x % 256) = x := by cases x <;> rfl

theorem burstOfCode_number (x : Burst) : burstOfCode ([Burst.rest, .tumble].idxOf x % 256) = x := by cases x <;> rfl

theorem endOfCode_number (x : EndReason) : endOfCode
    ([EndReason.none, .complete, .cancelled, .doorEnd, .declined, .hostReset, .abandoned].idxOf x % 256) = x := by
  cases x <;> rfl

theorem reasonsOfCode_flags (r : Reasons) : reasonsOfCode (Safety.reasonFlags r % 256) = r := by
  obtain ⟨a, b, c, d, e, f⟩ := r
  revert a b c d e f
  decide

theorem laidOut_iff (bs : List Byte) (fs : List (Nat × Nat × Nat)) :
    LaidOut bs fs ↔ ∀ f ∈ fs, fieldAt bs f.1 f.2.1 = f.2.2 % 256 ^ f.2.1 :=
  ⟨fun h f hf => h f.1 f.2.1 f.2.2 hf, fun h off w v hf => h (off, w, v) hf⟩

/-- Bytes in which a Cycle Record stands carry it, with its reason flags 23 bytes on. -/
theorem cycleOfBytes_drop {bs : List Byte} {n : Nat} {c : CycleRecord} (h : LaidOut bs (Safety.cycleFields n c))
    (hr : fieldAt bs (n + 23) 1 = Safety.reasonFlags c.reasons % 256 ^ 1) (hfits : cycleFits c) :
    cycleOfBytes (bs.drop n) = c := by
  obtain ⟨f0, f1, f2, f3, f4, f5, f6, f7, f8⟩ := hfits
  simp only [laidOut_iff, Safety.cycleFields, List.forall_mem_cons] at h
  obtain ⟨h0, h2, h3, h4, h5, h7, h9, h11, h13, h15, h17, h19, -⟩ := h
  simp only [cycleOfBytes, fieldAt_drop, Nat.add_zero, h0, h2, h3, h4, h5, h7, h9, h11, h13, h15, h17, h19, hr,
    phaseOfCode_number, burstOfCode_number, reasonsOfCode_flags, Nat.reducePow, Nat.mod_eq_of_lt f0, Nat.mod_eq_of_lt f1,
    Nat.mod_eq_of_lt f2, Nat.mod_eq_of_lt f3, Nat.mod_eq_of_lt f4, Nat.mod_eq_of_lt f5, Nat.mod_eq_of_lt f6,
    Nat.mod_eq_of_lt f7, Nat.mod_eq_of_lt f8]

/-- Bytes in which a Cycle Descriptor stands carry it. -/
theorem descriptorOfBytes_drop {bs : List Byte} {n : Nat} {d : Descriptor} (h : LaidOut bs (Safety.descriptorFields n d))
    (hfits : descriptorFits d) : descriptorOfBytes (bs.drop n) = d := by
  obtain ⟨f0, f1, f2, f3, f4, f5, f6, f7, f8, f9, f10, f11, f12, f13, f14⟩ := hfits
  simp only [laidOut_iff, Safety.descriptorFields, List.forall_mem_cons] at h
  obtain ⟨h0, h1, h3, h5, h6, h7, h9, h11, h13, h15, h16, h18, h19, h20, h21, -⟩ := h
  simp only [descriptorOfBytes, fieldAt_drop, Nat.add_zero, h0, h1, h3, h5, h6, h7, h9, h11, h13, h15, h16, h18, h19, h20,
    h21, Nat.reducePow, Nat.mod_eq_of_lt f0, Nat.mod_eq_of_lt f1, Nat.mod_eq_of_lt f2, Nat.mod_eq_of_lt f3,
    Nat.mod_eq_of_lt f4, Nat.mod_eq_of_lt f5, Nat.mod_eq_of_lt f6, Nat.mod_eq_of_lt f7, Nat.mod_eq_of_lt f8,
    Nat.mod_eq_of_lt f9, Nat.mod_eq_of_lt f10, Nat.mod_eq_of_lt f11, Nat.mod_eq_of_lt f12, Nat.mod_eq_of_lt f13,
    Nat.mod_eq_of_lt f14]

/-- The record that the bytes of a record carry. -/
theorem recordOfBytes_recordBytes {r : Record} (h : recordFits r) : recordOfBytes (recordBytes r) = some r := by
  obtain ⟨hseq, hstamp, hcyc, hexh, hinl, hdesc⟩ := h
  have hlaid := recordBytes_laidOut r
  have hcycle : LaidOut (recordBytes r) (Safety.cycleFields 10 r.cyc) := fun off w v hm =>
    hlaid off w v (List.mem_append_left _ (List.mem_append_right _ hm))
  have hdescriptor : LaidOut (recordBytes r) (Safety.descriptorFields 34 r.desc) := fun off w v hm =>
    hlaid off w v (List.mem_append_right _ hm)
  have hhead : ∀ off w v, _ → fieldAt (recordBytes r) off w = v % 256 ^ w := fun off w v hm =>
    hlaid off w v (List.mem_append_left _ (List.mem_append_left _ hm))
  simp only [List.mem_cons] at hhead
  have h0 := hhead 0 4 r.sequence (by simp)
  have h4 := hhead 4 4 r.stamp (by simp)
  have h8 := hhead 8 1 (Safety.kindNumber r.kind) (by simp)
  have h9 := hhead 9 1 _ (.inr (.inr (.inr (.inl rfl))))
  have h31 := hhead 31 1 r.exh (by simp)
  have h32 := hhead 32 1 r.inl (by simp)
  have h33 := hhead 33 1 (Safety.reasonFlags r.cyc.reasons) (by simp)
  simp only [recordOfBytes, h0, h4, h8, h9, h31, h32, kindOfCode_number, endOfCode_number,
    cycleOfBytes_drop hcycle h33 hcyc, descriptorOfBytes_drop hdescriptor hdesc, Nat.reducePow, Nat.mod_eq_of_lt hseq,
    Nat.mod_eq_of_lt hstamp, Nat.mod_eq_of_lt hexh, Nat.mod_eq_of_lt hinl]

/-- The bytes of a record are VALID with it (R97). -/
theorem readSlotBytes_recordBytes {r : Record} (h : recordFits r) : readSlotBytes (recordBytes r) = .valid r := by
  have hfill : (recordBytes r).all (· = 0xFF) = false := by
    have hmem : (0 : Byte) ∈ recordBytes r := by simp [recordBytes, recordBody]
    rw [List.all_eq_false]
    exact ⟨0, hmem, by decide⟩
  unfold readSlotBytes
  rw [hfill, if_neg (by decide), if_pos (crc_recordBytes r), recordOfBytes_recordBytes h]

/-! ## The notice -/

theorem byteOf_mod (v : Nat) : byteOf (v % 256) = byteOf v := by
  apply BitVec.eq_of_toNat_eq
  simp [byteOf]

section
variable {n : Notice} (h : noticeFits n)
include h

theorem noticeBody_eq : noticeBody n = segBytes
    [(1, n.id + 32 * (if n.farewell then 2 else 1)), (1, n.held), (1, n.want + 64 * flags [n.resume]), (2, n.key),
      (1, n.budget), (1, n.phase)] := by
  obtain ⟨h1, h2, h3, h4, h5, h6, -, h8⟩ := h
  have hid : n.id % 32 + bitAt (!n.farewell) 5 + bitAt n.farewell 6 = n.id + 32 * (if n.farewell then 2 else 1) := by
    rw [Nat.mod_eq_of_lt (by omega)]
    cases n.farewell <;> rfl
  unfold noticeBody
  rw [hid, Nat.mod_eq_of_lt h3, Nat.mod_eq_of_lt h4, byteOf_mod, Nat.mod_eq_of_lt (by omega : n.key / 256 < 128),
    Nat.mod_eq_of_lt h6, Nat.mod_eq_of_lt h8, sixtyfour_flags]
  rfl

theorem noticeBytes_laidOut : LaidOut (noticeBytes n) (Safety.noticeFields n) := by
  have hall : ∀ c : Byte, Stands (noticeBody n ++ [c]) 0 [(1, n.id + 32 * (if n.farewell then 2 else 1)), (1, n.held),
      (1, n.want + 64 * flags [n.resume]), (2, n.key), (1, n.budget), (1, n.phase)] := fun c =>
    ⟨[c], by rw [noticeBody_eq h]; rfl⟩
  exact (hall _).laidOut

end

theorem length_characterBits (c : Byte × Bool) : (characterBits c).length = 11 := by simp [characterBits]

theorem drop_flatMap {α β : Type} {f : α → List β} {k : Nat} (hf : ∀ x, (f x).length = k) :
    ∀ (i : Nat) (l : List α), (l.flatMap f).drop (k * i) = (l.drop i).flatMap f
  | 0, _ => rfl
  | i + 1, [] => by simp
  | i + 1, x :: l => by
    have hk : k * (i + 1) = (f x).length + k * i := by rw [hf, Nat.mul_succ, Nat.add_comm]
    rw [List.flatMap_cons, hk, ← List.drop_drop, List.drop_left, List.drop_succ_cons, drop_flatMap hf i l]

theorem getElem_frameCharacters (bs : List Byte) (i : Nat) :
    (frameCharacters bs)[i]? = bs[i]?.map fun b => (b, decide (i = 0)) := by
  cases bs with
  | nil => rfl
  | cons b rest =>
    cases i with
    | zero => rfl
    | succ i => simp [frameCharacters]

/-- The bits of a frame are its bytes' characters, the address flag set in the first alone (R152). -/
theorem frameBits_character (n : Notice) {i : Nat} {d : Byte} (h : (noticeBytes n)[i]? = some d) :
    ((frameBits n).drop (11 * i)).take 11 = characterBits (d, decide (i = 0)) := by
  have hchar : (frameCharacters (noticeBytes n))[i]? = some (d, decide (i = 0)) := by
    rw [getElem_frameCharacters, h]
    rfl
  obtain ⟨hi, hget⟩ := List.getElem?_eq_some_iff.1 hchar
  rw [frameBits, drop_flatMap length_characterBits, List.drop_eq_getElem_cons hi, List.flatMap_cons, hget,
    List.take_left' (length_characterBits _)]

theorem getLsbD_byteOf (v i : Nat) (hi : i < 8) : (byteOf v).getLsbD i = decide (v / 2 ^ i % 2 = 1) := by
  rw [byteOf, BitVec.getLsbD_ofNat, Nat.testBit_eq_decide_div_mod_eq]
  simp [hi]

theorem toNat_byteOf {v : Nat} (h : v < 256) : (byteOf v).toNat = v := by
  rw [byteOf, BitVec.toNat_ofNat]
  exact Nat.mod_eq_of_lt h

/-- A notice received is the notice sent, but for the sender's own marks (R161). -/
theorem noticeOfBytes_noticeBytes {n : Notice} (h : noticeFits n) : noticeOfBytes (noticeBytes n) = some (Safety.blurNotice n) := by
  obtain ⟨h1, h2, h3, h4, h5, h6, h7, h8⟩ := h
  obtain ⟨farewell, id, held, want, key, budget, phase, resume, a1, a2, a3⟩ := n
  dsimp only at h1 h2 h3 h4 h5 h6 h7 h8
  have hhead : ∀ f : Bool, id % 32 + bitAt (!f) 5 + bitAt f 6 = id + 32 * (if f then 2 else 1) := by
    intro f
    rw [Nat.mod_eq_of_lt (by omega)]
    cases f <;> rfl
  have hwant : want % 64 + bitAt resume 6 = want + 64 * (if resume then 1 else 0) := by
    rw [Nat.mod_eq_of_lt h4]
    cases resume <;> rfl
  have hkey : key % 256 + 256 * (key / 256 % 128) = key := by omega
  have hresume : decide ((want + 64 * (if resume then 1 else 0)) / 2 ^ 6 % 2 = 1) = resume := by
    cases resume <;> simp <;> omega
  have hmark : (if resume then 1 else 0) < 2 := by cases resume <;> decide
  have hbit : (want + 64 * (if resume then 1 else 0)) % 64 = want := by omega
  have h5bit : ∀ f : Bool, decide ((id + 32 * (if f then 2 else 1)) / 2 ^ 5 % 2 = 1) = !f := by
    intro f
    cases f <;> simp <;> omega
  have h6bit : ∀ f : Bool, decide ((id + 32 * (if f then 2 else 1)) / 2 ^ 6 % 2 = 1) = f := by
    intro f
    cases f <;> simp <;> omega
  have hid : ∀ f : Bool, (byteOf (id + 32 * (if f then 2 else 1))).toNat % 32 = id := by
    intro f
    cases f <;> rw [toNat_byteOf (by simp; omega)] <;> simp <;> omega
  have hidne : id ≠ 0 := by omega
  unfold noticeBytes noticeBody
  simp only [List.cons_append, List.nil_append, noticeOfBytes, ne_eq, not_true_eq_false, if_false, hhead, hwant, hid,
    getLsbD_byteOf _ 5 (by decide), getLsbD_byteOf _ 6 (by decide), h5bit, h6bit, hresume, hidne,
    toNat_byteOf (show held < 256 by omega), toNat_byteOf (show want + 64 * (if resume then 1 else 0) < 256 by omega),
    toNat_byteOf (show key % 256 < 256 by omega), toNat_byteOf (show key / 256 % 128 < 256 by omega),
    toNat_byteOf (show budget < 256 by omega), toNat_byteOf (show phase < 256 by omega), Nat.mod_mod, hkey,
    hbit, Nat.mod_eq_of_lt h3, Nat.mod_eq_of_lt h6, Nat.mod_eq_of_lt h8]
  cases farewell
  · simp [h7 rfl, Safety.blurNotice]
  · simp [Safety.blurNotice]

end Sys2Proof.Machine

namespace Sys2Proof.Proofs

open Sys2Proof.Machine Sys2Proof.Safety

/-- Settles O53. -/
theorem recordRoundTrip : Obligations.RecordRoundTrip := by
  unfold Obligations.RecordRoundTrip
  intro r hfits
  refine ⟨length_recordBytes r, recordBytes_laidOut r, ?_, readSlotBytes_recordBytes hfits, fun m k i hwf => ?_⟩
  · rw [← crc_recordBytes, fieldAt, drop_recordBytes]
    rfl
  · rw [readSlot_putSlot hwf k i (length_recordBytes r), readSlotBytes_recordBytes hfits]

/-- Settles O52. -/
theorem noticeRoundTrip : Obligations.NoticeRoundTrip := by
  unfold Obligations.NoticeRoundTrip
  refine fun n hfits => ⟨rfl, noticeBytes_laidOut hfits, rfl, rfl, fun i d hd => ?_, noticeOfBytes_noticeBytes hfits⟩
  rw [frameBits_character n hd]
  rfl

end Sys2Proof.Proofs
end

section
/-! PROOFS. The grant test (R176), and the plan that the Resume Planner decides (R135 to R143). -/

namespace Sys2Proof.Machine

variable {s t u : State}

/-! ## Granting -/

theorem mem_freeWanted {s : State} {k : CoverStep} : k ∈ freeWanted s ↔ wanted s k = true ∧ stepOf s.fsu k = .free := by
  have hall : k ∈ [CoverStep.start, .stage1, .stage2] := by cases k <;> decide
  rw [freeWanted, List.mem_filter, and_iff_right hall, Bool.and_eq_true, decide_eq_true_eq]

theorem freeWanted_nodup (s : State) : (freeWanted s).Nodup := List.Pairwise.filter _ (by decide)

/-- A free step that ceases to be free adds its worth to held (R167). -/
theorem held_setStep {s : State} {k : CoverStep} {x : StepState} (hk : stepOf s.fsu k = .free) (hx : x ≠ .free) :
    held (setStep s k x) = held s + worth s k := by
  have hx' : (x != .free) = true := bne_iff_ne.2 hx
  have hunits : ∀ j, unitsIf (setStep s k x) (· != .free) j =
      if j = k then worth s j else unitsIf s (· != .free) j := by
    intro j
    have hworth : worth (setStep s k x) j = worth s j := by cases k <;> cases j <;> rfl
    rw [unitsIf, stepOf_setStep, hworth]
    by_cases hj : j = k
    · rw [if_pos hj, if_pos hj, if_pos hx']
    · rw [if_neg hj, if_neg hj, unitsIf]
  have hfree : unitsIf s (· != .free) k = 0 := by simp [unitsIf, hk]
  rw [held, held, hunits, hunits, hunits]
  cases k <;> simp only [hfree, reduceCtorEq, if_true, if_false] <;> omega

/-- Nothing but the three steps differs between two states. -/
def StepsOnly (s t : State) : Prop :=
  t = { s with fsu := { s.fsu with start := t.fsu.start, stage1 := t.fsu.stage1, stage2 := t.fsu.stage2 } }

theorem StepsOnly.trans (h : StepsOnly s t) (h' : StepsOnly t u) : StepsOnly s u := by
  unfold StepsOnly at h h' ⊢
  rw [h] at h'
  exact h'

theorem stepsOnly_setStep (s : State) (k : CoverStep) (x : StepState) : StepsOnly s (setStep s k x) := by cases k <;> rfl

theorem stepsOnly_grantSteps (x : StepState) : ∀ (ks : List CoverStep) (s : State) (r : Nat),
    StepsOnly s (grantSteps s x r ks)
  | [], _, _ => rfl
  | k :: rest, s, r => by
    unfold grantSteps
    split
    · exact (stepsOnly_setStep s k x).trans (stepsOnly_grantSteps x rest _ _)
    · rfl

/-- What is granted stays within the room. -/
theorem held_grantSteps {x : StepState} (hx : x ≠ .free) : ∀ (ks : List CoverStep) (s : State) (r : Nat), ks.Nodup →
    (∀ k ∈ ks, stepOf s.fsu k = .free) → held (grantSteps s x r ks) ≤ held s + r
  | [], _, _, _, _ => Nat.le_add_right _ _
  | k :: rest, s, r, hnodup, hfree => by
    obtain ⟨hk, hrest⟩ := List.nodup_cons.1 hnodup
    unfold grantSteps
    split
    case isTrue hfits =>
      have hfree' : ∀ j ∈ rest, stepOf (setStep s k x).fsu j = .free := fun j hj => by
        have hjk : j ≠ k := ne_of_mem_of_not_mem hj hk
        rw [stepOf_setStep, if_neg hjk]
        exact hfree j (List.mem_cons_of_mem _ hj)
      have ih := held_grantSteps hx rest (setStep s k x) (r - worth s k) hrest hfree'
      rw [held_setStep (hfree k List.mem_cons_self) hx] at ih
      omega
    case isFalse => exact Nat.le_add_right _ _

/-- A step that a grant moves has the state granted. -/
theorem moved_grantSteps (x : StepState) {j : CoverStep} : ∀ (ks : List CoverStep) (s : State) (r : Nat),
    stepOf (grantSteps s x r ks).fsu j ≠ stepOf s.fsu j → stepOf (grantSteps s x r ks).fsu j = x
  | [], _, _, h => absurd rfl h
  | k :: rest, s, r, h => by
    unfold grantSteps at h ⊢
    split at h
    case isFalse => exact absurd rfl h
    case isTrue hfits =>
      rw [if_pos hfits]
      by_cases hmoved : stepOf (grantSteps (setStep s k x) x (r - worth s k) rest).fsu j = stepOf (setStep s k x).fsu j
      · rw [hmoved, stepOf_setStep] at h ⊢
        by_cases hj : j = k
        · rw [if_pos hj]
        · rw [if_neg hj] at h
          exact absurd rfl h
      · exact moved_grantSteps x rest _ _ hmoved

/-- The last step is granted after all before it. -/
theorem before_last_grantSteps (x : StepState) {k : CoverStep} : ∀ (ks : List CoverStep) (s : State) (r : Nat),
    (ks ++ [k]).Nodup → stepOf (grantSteps s x r (ks ++ [k])).fsu k ≠ stepOf s.fsu k →
    ∀ j ∈ ks, stepOf (grantSteps s x r (ks ++ [k])).fsu j = x
  | [], _, _, _, _, _, hj => absurd hj List.not_mem_nil
  | i :: rest, s, r, hnodup, hmoved, j, hj => by
    rw [List.cons_append] at hnodup hmoved ⊢
    obtain ⟨hi, hrest⟩ := List.nodup_cons.1 hnodup
    have hki : k ≠ i := fun h => hi (h ▸ List.mem_append_right _ List.mem_cons_self)
    unfold grantSteps at hmoved ⊢
    split at hmoved
    case isFalse => exact absurd rfl hmoved
    case isTrue hfits =>
      rw [if_pos hfits]
      rcases List.mem_cons.1 hj with rfl | hj
      · rw [stepOf_grantSteps x _ _ _ hi, stepOf_setStep, if_pos rfl]
      · refine before_last_grantSteps x rest _ _ hrest ?_ j hj
        rw [stepOf_setStep s, if_neg hki]
        exact hmoved

/-- The state of a step that is granted (R168). -/
def grantedState (s : State) : StepState := if s.fsu.isolated.isSome then .cover else .pending

theorem grantedState_ne_free (s : State) : grantedState s ≠ .free := by
  unfold grantedState
  split <;> decide

/-- A grant test grants in READY, within the room, or changes nothing. -/
theorem grantTest_cases (s : State) : grantTest s = s ∨
    ∃ r, grantTest s = grantSteps s (grantedState s) r (freeWanted s) ∧
      held s + r + committed s.fsu.peers + ahead s.fsu.key s.fsu.peers = s.fsu.effective := by
  unfold grantTest room
  by_cases hready : unitState s = .ready
  · rw [if_pos hready]
    by_cases hroom : committed s.fsu.peers + ahead s.fsu.key s.fsu.peers + held s ≤ s.fsu.effective
    · rw [if_pos hroom]
      refine .inr ⟨_, rfl, ?_⟩
      omega
    · rw [if_neg hroom]
      exact .inl rfl
  · rw [if_neg hready]
    exact .inl rfl

/-- A step that a grant test moves is free and wanted. -/
theorem mem_freeWanted_of_moved {x : StepState} {r : Nat} {k : CoverStep}
    (h : stepOf (grantSteps s x r (freeWanted s)).fsu k ≠ stepOf s.fsu k) : k ∈ freeWanted s := by
  refine Classical.byContradiction fun hk => ?_
  exact h (stepOf_grantSteps x _ s r hk)

/-- Where STAGE2 is among the steps considered it is their last. -/
theorem freeWanted_of_stage2 (h : CoverStep.stage2 ∈ freeWanted s) : freeWanted s =
    [CoverStep.start, .stage1].filter (fun k => wanted s k && stepOf s.fsu k = .free) ++ [.stage2] := by
  obtain ⟨hwanted, hfree⟩ := mem_freeWanted.1 h
  have hlast : [CoverStep.stage2].filter (fun k => wanted s k && stepOf s.fsu k = .free) = [.stage2] := by
    simp [hwanted, hfree]
  rw [← hlast, ← List.filter_append]
  rfl

/-! ## The plan -/

theorem cooledDown_iff {r : Record} {tRet : Nat} {unknown : Bool} : cooledDown r tRet unknown = true ↔
    unknown = false ∧ tRet ≤ r.desc.coolTarget ∧ r.desc.coolMin ≤ r.cyc.coolElapsed := by
  simp [cooledDown, Bool.and_eq_true, and_assoc]

/-- UNCLEAN without a source (R136). -/
theorem planUnclean_of_none (h : planSource s = none) :
    planUnclean s = (s.rpl.plan.blink && s.csq.cyc.phase.active) := by
  rw [planUnclean, h]

/-- UNCLEAN by the kind of the source (R136). -/
theorem planUnclean_of_some {r : Record} (h : planSource s = some r) : planUnclean s = (r.kind != .loss) := by
  rw [planUnclean, h]

/-- Resuming by the phase at the loss (R139 to R143). -/
theorem resumeFrom_of_cool {r : Record} {rate : Nat} {p : Plan} (h : r.cyc.phase = .cool) : resumeFrom r rate p =
    if p.tempUnknown = false ∧ p.tRet ≤ r.desc.coolTarget ∧ r.desc.coolMin ≤ r.cyc.coolElapsed then
      { p with outcome := .resumeGuard, newGuard := r.desc.guardTotal }
    else { p with outcome := .resumeCool } := by
  simp only [resumeFrom, h, cooledDown_iff]

end Sys2Proof.Machine

namespace Sys2Proof.Proofs

open Sys2Proof.Machine Sys2Proof.Safety

/-- Settles O51, by the steps that a grant considers, in their order. -/
theorem grantKeepsBudget : Obligations.GrantKeepsBudget := by
  unfold Obligations.GrantKeepsBudget
  rintro s t rfl
  rcases grantTest_cases s with h | ⟨r, h, hroom⟩
  · rw [h]
    exact ⟨fun hne => absurd rfl hne, rfl, fun _ _ => rfl, fun _ hne => absurd rfl hne, fun hne => absurd rfl hne⟩
  · rw [h]
    have hfree : ∀ k ∈ freeWanted s, stepOf s.fsu k = .free := fun k hk => (mem_freeWanted.1 hk).2
    refine ⟨fun _ => ?_, stepsOnly_grantSteps _ _ s r, fun k hk => ?_, fun k hne => ?_, fun hne => ?_⟩
    · have hheld := held_grantSteps (grantedState_ne_free s) _ s r (freeWanted_nodup s) hfree
      omega
    · exact stepOf_grantSteps _ _ s r fun hmem => hk (hfree k hmem)
    · exact ⟨(mem_freeWanted.1 (mem_freeWanted_of_moved hne)).1, moved_grantSteps _ _ s r hne⟩
    · have hsplit := freeWanted_of_stage2 (mem_freeWanted_of_moved hne)
      have hnodup := freeWanted_nodup s
      rw [hsplit] at hnodup hne ⊢
      have hbefore := before_last_grantSteps (grantedState s) _ s r hnodup hne
      have hgranted : ∀ k, k ≠ .stage2 → wanted s k = true → stepOf (grantSteps s (grantedState s) r
          ([CoverStep.start, .stage1].filter (fun k => wanted s k && stepOf s.fsu k = .free) ++ [.stage2])).fsu k ≠ .free := by
        intro k hk hwanted
        by_cases hkfree : stepOf s.fsu k = .free
        · rw [hbefore k (by cases k <;> simp_all)]
          exact grantedState_ne_free s
        · rw [stepOf_grantSteps _ _ s r (by cases k <;> simp_all)]
          exact hkfree
      exact ⟨hgranted .start (by decide), hgranted .stage1 (by decide)⟩

/-- Settles O36, by the source and by the phase at the loss. -/
theorem planDecided : Obligations.PlanDecided := by
  unfold Obligations.PlanDecided
  refine ⟨fun s valid => ⟨?_, fun hnone => ?_, fun r hsome => ?_⟩, fun r rate p => ?_⟩
  · rfl
  · rw [decidePlan, planUnclean_of_none hnone, hnone]
    rfl
  · rw [decidePlan, planUnclean_of_some hsome, hsome]
    rfl
  · refine ⟨fun h => ?_, fun h => ?_, fun h => resumeFrom_of_cool h, fun h => ?_, fun h => ⟨fun hb => ?_, fun hb => ?_,
      fun he hg => ?_⟩, ?_, ?_, ?_⟩
    · rw [resumeFrom, h]
    · rw [resumeFrom, h]
      rfl
    · rw [resumeFrom, h]
      rfl
    · simp only [resumeFrom, h, hb]
      rfl
    · simp only [resumeFrom, h, hb]
      rfl
    · simp only [resumeFrom, h]
    · exact Nat.le_trans (Nat.min_le_left _ _) (Nat.min_le_right _ _)
    · exact Nat.min_le_right _ _
    · exact Nat.min_le_right _ _

end Sys2Proof.Proofs
end

section
/-! PROOFS. The microsecond of an empty queue (log entry 1). -/

namespace Sys2Proof.Machine

open Safety (holdoverLater crystalDue frameBegins frameBegun drivenLow readerLater levelLater portLater)

/-! ## Timers -/

theorem countDown_eq (t : Option Nat) : countDown t = t.map (· - 1) := by cases t <;> rfl

theorem countUp_eq (limit : Nat) (t : Option Nat) : countUp limit t = t.map (satInc limit) := by cases t <;> rfl

theorem converter_tick (c : Converter) : c.tick =
    { c with periodTimer := if c.meas = .period then satInc 65535 c.periodTimer else c.periodTimer,
             gateTimer := if c.meas = .period then c.gateTimer else satInc 20000 c.gateTimer } := by
  unfold Converter.tick
  by_cases h : c.meas = .period
  · rw [if_pos h, if_pos h, if_pos h]
  · rw [if_neg h, if_neg h, if_neg h]

/-! ## The Holdover Domain -/

theorem cycleDue_iff (h : Holdover) : h.cycleDue = true ↔ crystalDue h := by
  simp [Holdover.cycleDue, crystalDue]

theorem holdover_tick (h : Holdover) (comes : Bool) : h.tick comes = holdoverLater h comes := by
  unfold Holdover.tick holdoverLater Holdover.noCycle
  simp only [Bool.not_eq_true', Bool.and_eq_true, cycleDue_iff]
  rfl

/-! ## The port -/

theorem mayBegin_iff (p : Port) : p.mayBegin = true ↔ frameBegins p := by
  simp only [Port.mayBegin, Bool.and_eq_true, decide_eq_true_eq, Bool.not_eq_true', and_assoc]
  rfl

theorem beginFrame_eq (p : Port) : p.beginFrame = if frameBegins p then frameBegun p else p := by
  unfold Port.beginFrame
  simp only [mayBegin_iff]
  rfl

theorem sendsZero_eq {p : Port} (h : p.tx = .sending) : p.sendsZero = drivenLow p.line p.sent := by
  unfold Port.sendsZero drivenLow bitIndex
  rw [h]
  cases p.line with
  | none => rfl
  | some n =>
    simp only [decide_true, Bool.true_and, List.getD_eq_getElem?_getD]
    cases (frameBits n)[p.sent * 12 / 625]? with
    | none => rfl
    | some b => cases b <;> rfl

/-- The output through a microsecond (R152). -/
theorem advance_eq (p : Port) : p.advance =
    { p with drives := if p.tx = .sending then drivenLow p.line p.sent else p.drives,
             sent := if p.tx = .sending then satInc 4583 p.sent else p.sent } := by
  unfold Port.advance
  by_cases h : p.tx = .sending
  · rw [if_pos h, if_pos h, if_pos h, sendsZero_eq h]
    rfl
  · rw [if_neg h, if_neg h, if_neg h]

/-- The line has the value of two at least of the latest three samples (R151). -/
theorem value_eq (r : LineReader) (wire : Bool) :
    r.value wire = decide (2 ≤ [wire, r.last, r.before].count true) := by
  unfold LineReader.value
  cases wire <;> cases r.last <;> cases r.before <;> rfl

theorem levelRead_eq (p : Port) (wire : Bool) : p.levelRead wire = levelLater p.reader p.lineHigh wire := by
  unfold Port.levelRead levelLater LineReader.sampleDue
  rw [value_eq]
  by_cases h : 625 ≤ p.reader.phase + 192
  · rw [if_pos (by simpa using h), if_neg (by omega)]
  · rw [if_neg (by simpa using h), if_pos (by omega)]

/-- The sampling through a microsecond, with the bits read at their middles (R151, R152). -/
theorem follow_tick_eq (r : LineReader) (wasHigh wire : Bool) :
    (if r.sampleDue then (r.tick wire).follow (wasHigh && !(levelLater r wasHigh wire)) (levelLater r wasHigh wire)
      else r.tick wire) = readerLater r wasHigh wire := by
  by_cases h : r.phase + 192 < 625
  · have hdue : ¬ r.sampleDue = true := by
      simp only [LineReader.sampleDue, decide_eq_true_eq]
      omega
    rw [if_neg hdue, LineReader.tick, if_neg hdue, readerLater, if_pos h]
  · have hdue : r.sampleDue = true := by
      simp only [LineReader.sampleDue, decide_eq_true_eq]
      omega
    rw [if_pos hdue, LineReader.tick, if_pos hdue, readerLater, if_neg h, levelLater, if_neg h]
    unfold LineReader.follow LineReader.readBit
    have hmiddle : ∀ n, (n + 1) % 16 = 8 ↔ ¬ n % 16 ≠ 7 := fun n => by omega
    cases hplace : r.place with
    | none => simp
    | some n =>
      simp only [hmiddle, ite_not, Bool.and_eq_true, decide_eq_true_eq, decide_eq_true_eq]

theorem port_tick (p : Port) (warning pulls : Bool) : p.tick warning pulls = portLater p warning pulls := by
  unfold Port.tick
  rw [beginFrame_eq, advance_eq]
  unfold Port.listen portLater
  simp only [levelRead_eq, countDown_eq, Bool.not_or, follow_tick_eq]
  rfl

end Sys2Proof.Machine

namespace Sys2Proof.Proofs

open Sys2Proof.Machine Sys2Proof.Safety

/-- Settles O2, block by block. -/
theorem idleStepIsOneMicrosecond : Obligations.IdleStepIsOneMicrosecond := by
  unfold Obligations.IdleStepIsOneMicrosecond
  intro s hempty
  have hstep : step s = .next (tick s) := by
    unfold step
    rw [hempty]
  dsimp only
  simp only [hstep, ← holdover_tick, ← port_tick, ← countDown_eq, ← countUp_eq, ← converter_tick]
  refine ⟨fun h => ?_, fun h => ?_⟩
  · unfold tick
    rw [if_neg (by rw [h]; decide)]
    rfl
  · unfold tick
    rw [if_pos h]
    rfl

end Sys2Proof.Proofs
end

section
/-! PROOFS. Rows that are due, the events that change the Mains Watch alone (R86, R88, R89, R92), and the Holdover Domain's own
events (R123 to R128, R145). -/

namespace Sys2Proof.Machine

variable {s t : State} {due ev : Bool} {body : State → State}

/-! ## Rows -/

theorem mainEvent_of_due (hpow : s.mainPowered = true) (hdue : due = true) :
    mainEvent due ev body s = .next (finish ev s (body s)) := by
  rw [mainEvent, hpow, hdue]
  rfl

theorem mainEvent_of_not_due (hdue : due = false) : mainEvent due ev body s = .next s := by
  rw [mainEvent, hdue, Bool.and_false]
  rfl

theorem quietEvent_of_due (hpow : s.mainPowered = true) (hdue : due = true) :
    quietEvent due body s = .next (body s) := by
  rw [quietEvent, hpow, hdue]
  rfl

/-- A row that is due, settled. -/
theorem mainEvent_settled (hpow : s.mainPowered = true) (hdue : due = true) :
    ∃ t, mainEvent due ev body s = .next t ∧ Safety.Settled (body s) t :=
  ⟨_, mainEvent_of_due hpow hdue, Safety.finish_settled ev s (body s)⟩

/-! ## The Mains Watch alone -/

theorem missingCrossing_of_block (h : s.mwt.state = .measuring ∨ s.mwt.state = .lineFault) : missingCrossing s =
    s.setMwt { s.mwt with missing := max s.mwt.missing blockLimitUs, blockOpen := false, blockCount := 0,
                          blockSum := 0 } := by
  unfold missingCrossing
  rcases h with h | h <;> rw [h]

theorem missingCrossing_of_returning (h : s.mwt.state = .returning) : missingCrossing s =
    s.setMwt { s.mwt with missing := max s.mwt.missing (missingLimit s.mwt.cls), returnCount := 0 } := by
  unfold missingCrossing
  rw [h]

theorem missingLimit_eq (c : LineClass) : missingLimit c = if c = .hz60 then 12500 else 15000 := by cases c <;> rfl

theorem railTripped_of_tripped (h : s.mwt.railTripped = true) :
    railTripped s = s.setMwt { s.mwt with railHealthy := 0 } := by
  rw [railTripped, if_pos h]

/-- The Mains Watch at a fresh trip, before LOSS_WARNING is entered (R89, R92). -/
def Mains.tripped (m : Mains) : Mains :=
  { m with railTripped := true, railHealthy := 0, causeRail := true,
           returnCount := if m.state = .returning then 0 else m.returnCount,
           returnCrossings := if m.state = .returning then 0 else m.returnCrossings }

theorem tripped_eq (m : Mains) : { m.tripCounts with railTripped := true, railHealthy := 0, causeRail := true } = m.tripped := by
  unfold Mains.tripCounts Mains.tripped
  by_cases h : m.state = .returning
  · rw [if_pos h, if_pos h, if_pos h]
  · rw [if_neg h, if_neg h, if_neg h]

/-- A fresh trip (R89). -/
theorem railTripped_of_healthy (h : s.mwt.railTripped = false) : railTripped s =
    if s.mwt.state = .lossWarning then s.setMwt s.mwt.tripped else enterLossWarning (s.setMwt s.mwt.tripped) false := by
  rw [railTripped, if_neg (by rw [h]; decide), tripped_eq]
  rfl

theorem enterLossWarning_of_warned (h : s.mwt.warning = true) (opens : Bool) :
    enterLossWarning s opens = s.setMwt { s.mwt with state := .lossWarning } := by
  unfold enterLossWarning
  exact if_pos h

/-- A trip under an outstanding warning raises none anew (R89). -/
theorem railTripped_of_warned (h : s.mwt.railTripped = false) (hw : s.mwt.state = .lossWarning ∨ s.mwt.warning = true) :
    railTripped s = s.setMwt { s.mwt.tripped with state := .lossWarning } := by
  rw [railTripped_of_healthy h]
  by_cases hstate : s.mwt.state = .lossWarning
  · rw [if_pos hstate, ← hstate]
    rfl
  · rw [if_neg hstate, enterLossWarning_of_warned (by exact hw.resolve_left hstate)]
    rfl

/-! ## The Holdover Domain's events -/

/-- The Holdover Domain at a second (R123). -/
def Holdover.second (h : Holdover) : Holdover :=
  { h with prescaler := 0, crystalPhase := 0, crystalRuns := true, crystalQuiet := 0,
           clock := if h.clock < 4294967295 then h.clock + 1 else h.clock }

/-- The plan with one more second waited (R145). -/
def Plan.waiting (p : Plan) : Plan := { p with waited := satInc 65535 p.waited }

theorem holdoverSecond_eq (h : s.hdm.powered = true) : holdoverSecond s =
    if s.mainPowered && s.hdm.clock < clockLimit then waitSecond (s.setHdm s.hdm.second) else s.setHdm s.hdm.second := by
  rw [holdoverSecond, if_pos h]
  rfl

theorem waitSecond_of_not_planReady (h : s.csq.state ≠ .planReady) : waitSecond s = s := by
  rw [waitSecond, if_neg h]

theorem waitSecond_eq (h : s.csq.state = .planReady) : waitSecond s =
    if windowPassed s s.rpl.plan.waiting && !(s.pnl.resetPending && s.rpl.plan.disposition = .abandoned) then
      windowExpires (raisePlan (s.setRpl { s.rpl with plan := s.rpl.plan.waiting.expired }))
    else s.setRpl { s.rpl with plan := s.rpl.plan.waiting } := by
  rw [waitSecond, if_pos h]
  rfl

theorem windowPassed_iff (p : Plan) : windowPassed s p = true ↔ s.settings.resumeWindow < p.outage.getD 0 + p.waited := by
  rw [windowPassed, decide_eq_true_eq]

theorem waitSecond_of_passed (h : s.csq.state = .planReady)
    (hpassed : s.settings.resumeWindow < s.rpl.plan.outage.getD 0 + satInc 65535 s.rpl.plan.waited)
    (hnew : s.pnl.resetPending = false ∨ s.rpl.plan.disposition ≠ .abandoned) :
    waitSecond s = windowExpires (raisePlan (s.setRpl { s.rpl with plan := s.rpl.plan.waiting.expired })) := by
  have hnot : (s.pnl.resetPending && s.rpl.plan.disposition = .abandoned) = false := by
    rw [Bool.and_eq_false_iff, decide_eq_false_iff_not]
    exact hnew
  rw [waitSecond_eq h, if_pos (by rw [(windowPassed_iff _).2 hpassed, hnot]; rfl)]

theorem waitSecond_of_stays (h : s.csq.state = .planReady)
    (hstays : ¬ s.settings.resumeWindow < s.rpl.plan.outage.getD 0 + satInc 65535 s.rpl.plan.waited ∨
      (s.pnl.resetPending = true ∧ s.rpl.plan.disposition = .abandoned)) :
    waitSecond s = s.setRpl { s.rpl with plan := s.rpl.plan.waiting } := by
  rw [waitSecond_eq h, if_neg]
  intro hand
  obtain ⟨hpassed, hnot⟩ := Bool.and_eq_true_iff.1 hand
  rcases hstays with hwithin | ⟨hreset, hdisp⟩
  · exact hwithin ((windowPassed_iff _).1 hpassed)
  · rw [hreset, decide_eq_true hdisp] at hnot
    exact absurd hnot (by decide)

/-- ABANDONED entered from another state (R23, R131). -/
theorem enterAbandoned_eq (h : s.csq.state ≠ .abandoned) : enterAbandoned s = requestRecord
    (Safety.entered (orderClear { s with csq := { s.csq with endReason := .abandoned } }) .abandoned
      { s.csq.cyc with phase := .ended }) .finish .abandoned := by
  rw [enterAbandoned, setCycle_of_ne (by exact h)]
  rfl

end Sys2Proof.Machine

namespace Sys2Proof.Proofs

open Sys2Proof.Machine Sys2Proof.Safety

/-- Settles O43, row by row. -/
theorem mainsWatchAlone : Obligations.MainsWatchAlone := by
  unfold Obligations.MainsWatchAlone
  intro s hpow
  refine ⟨fun h => ?_, fun h => ?_, fun h => ?_, fun h => ⟨?_, ?_⟩, fun h hw => ?_⟩
  · have hset := mainEvent_settled (ev := false) (body := missingCrossing) hpow
      (due := s.mwt.state != .lossWarning) (by rcases h with h | h <;> rw [h] <;> rfl)
    rw [missingCrossing_of_block h] at hset
    exact hset
  · have hset := mainEvent_settled (ev := false) (body := missingCrossing) hpow
      (due := s.mwt.state != .lossWarning) (by rw [h]; rfl)
    rw [missingCrossing_of_returning h, missingLimit_eq] at hset
    exact hset
  · exact mainEvent_of_not_due (by rw [h]; rfl)
  · have hset := mainEvent_settled (ev := false) (body := railTripped) hpow (due := true) rfl
    rw [railTripped_of_tripped h] at hset
    exact hset
  · exact (quietEvent_of_due hpow h).trans (by rw [railHealthyAgain, if_pos h]; rfl)
  · have hset := mainEvent_settled (ev := false) (body := railTripped) hpow (due := true) rfl
    rw [railTripped_of_warned h hw] at hset
    exact hset

/-- Settles O37, by the state in which the second comes. -/
theorem holdoverEvents : Obligations.HoldoverEvents := by
  unfold Obligations.HoldoverEvents
  intro s hpow
  have hcrystal : exec .crystalStop s = .next { s with
      hdm := { s.hdm with clockLost := true, crystalRuns := false, crystalQuiet := 8000 },
      pnl := { s.pnl with evFault := s.pnl.evFault || (s.mainPowered && !s.hdm.clockLost) } } := by
    refine congrArg Host.Outcome.next ?_
    rw [crystalStops, if_pos hpow]
    cases hnew : s.mainPowered && !s.hdm.clockLost
    · rw [Bool.or_false]
      rfl
    · rw [Bool.or_true]
      rfl
  have hview : ∀ isOpen, exec (.doorViewChange isOpen) s = .next (s.setHdm (s.hdm.changeView (doorWatch s) isOpen)) :=
    fun isOpen => congrArg Host.Outcome.next (by rw [viewChanges, if_pos hpow])
  have hsecond : exec .holdoverSecond s = .next (if s.mainPowered && s.hdm.clock < clockLimit then
      waitSecond (s.setHdm s.hdm.second) else s.setHdm s.hdm.second) :=
    congrArg Host.Outcome.next (holdoverSecond_eq hpow)
  have hwaiting : s.mainPowered = true ∧ s.csq.state = .planReady ∧ s.hdm.clock < 4294967295 →
      exec .holdoverSecond s = .next (waitSecond (s.setHdm s.hdm.second)) := fun hwaits => by
    rw [hsecond]
    exact congrArg _ (if_pos (Bool.and_eq_true_iff.2 ⟨hwaits.1, decide_eq_true hwaits.2.2⟩))
  have hplanned : s.mainPowered = true ∧ s.csq.state = .planReady ∧ s.hdm.clock < 4294967295 →
      s.csq.state ≠ .abandoned := fun hwaits => by
    rw [hwaits.2.1]
    decide
  refine ⟨fun hnot => ?_, fun hwaits hstay => ?_, fun hwaits hpassed hreset hdisp => ?_, fun hwaits hpassed hreset => ?_,
    hcrystal, (hview false).trans ?_, (hview true).trans ?_⟩
  · rw [hsecond]
    split
    case isTrue hcounts =>
      obtain ⟨hmain, hclock⟩ := Bool.and_eq_true_iff.1 hcounts
      rw [waitSecond_of_not_planReady (by exact fun hst => hnot ⟨hmain, hst, of_decide_eq_true hclock⟩)]
      rfl
    case isFalse => rfl
  · rw [hwaiting hwaits, waitSecond_of_stays (by exact hwaits.2.1) (by exact hstay)]
    rfl
  · rw [hwaiting hwaits, waitSecond_of_passed (by exact hwaits.2.1) (by exact hpassed) (by exact .inr hdisp), windowExpires,
      if_pos (by exact hreset)]
    rfl
  · rw [hwaiting hwaits, waitSecond_of_passed (by exact hwaits.2.1) (by exact hpassed) (by exact .inl hreset),
      windowExpires, if_neg (by exact ne_true_of_eq_false hreset), enterAbandoned_eq (by exact hplanned hwaits)]
    rfl
  · rw [Holdover.changeView, Bool.and_false, Bool.false_and, Bool.or_false]
    rfl
  · rw [Holdover.changeView, Bool.and_true]
    rfl

end Sys2Proof.Proofs
end

section
/-! PROOFS. What settling makes of a step that is not wanted, and of a due motor stop (R71, R76, R168, R169); the motor's timers
and the door (R14, R15, R74, R75, R78, R81). -/

namespace Sys2Proof.Machine

variable {s t : State}

/-! ## Evaluations -/

/-- What the forming of an evaluation and one evaluation keep, all evaluations of an event keep (R175). -/
theorem evaluateTimes_induction {P : State → Prop} (hform : ∀ v, P v → P (formEvaluation v))
    (honce : ∀ v, P v → P (evaluateOnce v)) (n : Nat) : ∀ v, P v → P (evaluateTimes n v) := by
  induction n with
  | zero => exact hform
  | succ n ih =>
    intro v h
    unfold evaluateTimes
    split
    · exact ih _ (honce v h)
    · exact honce v h

/-- What an evaluation keeps, the settling after an event keeps once the own entry follows the want. -/
theorem settleAndEvaluate_induction {P : State → Prop} (hform : ∀ v, P v → P (formEvaluation v))
    (honce : ∀ v, P v → P (evaluateOnce v)) (ev : Bool) (s0 : State) (h : P (settleEntry s)) :
    P (settleAndEvaluate ev s0 s) := by
  unfold settleAndEvaluate
  split
  · exact evaluateTimes_induction hform honce 4 _ h
  · exact h

/-! ## The due motor stop and the states of the stages -/

/-- What of the Output Stage follows what is asked, and nothing after that touches (R65, R76). -/
def Output.follows (o : Output) : Bool × StageState × StageState := (o.stopDue, o.stage1.state, o.stage2.state)

section
variable (s)

@[simp] theorem setStep_ost (k : CoverStep) (x : StepState) : (setStep s k x).ost = s.ost := by cases k <;> rfl

@[simp] theorem unmarkStep_ost (k : CoverStep) : (unmarkStep s k).ost = s.ost := rfl

@[simp] theorem loseHold_follows (k : CoverStep) : (loseHold s k).ost.follows = s.ost.follows := by cases k <;> rfl

@[simp] theorem giveUp_follows (k : CoverStep) : (giveUp s k).ost.follows = s.ost.follows := by
  unfold giveUp
  split <;> simp

@[simp] theorem dropAll_follows : (dropAll s).ost.follows = s.ost.follows := by
  have drop : ∀ (v : State) (k : CoverStep), (dropUnwanted v k).ost.follows = v.ost.follows := fun v k => by
    unfold dropUnwanted
    split <;> simp
  simp [dropAll, drop]

@[simp] theorem confirmAll_ost : (confirmAll s).ost = s.ost := by
  have confirm : ∀ (v : State) (k : CoverStep), (confirmStep v k).ost = v.ost := fun v k => by
    unfold confirmStep
    split <;> simp
  simp [confirmAll, confirm]

@[simp] theorem takeWant_ost : (takeWant s).ost = s.ost := rfl

@[simp] theorem settleClass_ost : (settleClass s).ost = s.ost := by
  unfold settleClass
  split <;> rfl

@[simp] theorem formEvaluation_ost : (formEvaluation s).ost = s.ost := by
  unfold formEvaluation
  dsimp only
  split <;> rfl

@[simp] theorem shedTest_follows : (shedTest s).ost.follows = s.ost.follows := by
  have shed : ∀ (v : State) (k : CoverStep), (shedStep v k).ost.follows = v.ost.follows := fun v k => by
    unfold shedStep
    split <;> simp
  unfold shedTest
  split <;> simp [shed]

@[simp] theorem grantSteps_ost (x : StepState) (ks : List CoverStep) : ∀ (s : State) (r : Nat),
    (grantSteps s x r ks).ost = s.ost := by
  induction ks with
  | nil => exact fun _ _ => rfl
  | cons k rest ih =>
    intro s r
    unfold grantSteps
    split <;> simp [ih]

@[simp] theorem grantTest_ost : (grantTest s).ost = s.ost := by
  rcases grantTest_cases s with h | ⟨r, h, -⟩ <;> simp [h]

@[simp] theorem evaluateOnce_follows : (evaluateOnce s).ost.follows = s.ost.follows := by
  have tests : ∀ v : State, (applyTests v).ost.follows = v.ost.follows := fun v => by
    unfold applyTests
    split <;> simp
  simp [evaluateOnce, tests]

@[simp] theorem announce_ost (s0 : State) (g : Bool) : (announce s0 g s).ost = s.ost := by
  unfold announce stopNotice
  repeat' split
  all_goals simp

end

theorem settleEntry_follows (s : State) : (settleEntry s).ost.follows = (syncOutputs s).ost.follows := by
  simp [settleEntry]

theorem stopDue_of_follows {o p : Output} (h : p.follows = o.follows) : p.stopDue = o.stopDue := congrArg Prod.fst h

theorem giveUp_stopDue (s : State) (k : CoverStep) : (giveUp s k).ost.stopDue = s.ost.stopDue :=
  stopDue_of_follows (giveUp_follows s k)

theorem settleEntry_stopDue (s : State) : (settleEntry s).ost.stopDue = (syncOutputs s).ost.stopDue :=
  stopDue_of_follows (settleEntry_follows s)

/-- After an event the due stop and the states of the stages are those that follow what is asked (R65, R76). -/
theorem finish_follows (ev : Bool) (s0 s : State) : (finish ev s0 s).ost.follows = (syncOutputs s).ost.follows := by
  have h : (settleAndEvaluate ev s0 s).ost.follows = (syncOutputs s).ost.follows :=
    settleAndEvaluate_induction (P := fun v => v.ost.follows = (syncOutputs s).ost.follows)
      (fun v hv => by rw [formEvaluation_ost]; exact hv) (fun v hv => by rw [evaluateOnce_follows]; exact hv) ev s0
      (settleEntry_follows s)
  rw [finish_eq, announce_ost, h]

/-- A stop is due after an event where one was, and where the motor turns against a STOP request or an open door (R76). -/
theorem finish_stopDue (ev : Bool) (s0 s : State) : (finish ev s0 s).ost.stopDue =
    (s.ost.stopDue || (s.ost.motor != .stopped && (!motorRun s || s.ost.doorOpen))) := by
  exact stopDue_of_follows (finish_follows ev s0 s)

/-! ## What is wanted -/

/-- What is wanted is untouched by settling, but for a due motor stop (R7, R167). -/
theorem wanted_of_settled (h : Safety.Settled s t) (hstop : t.ost.stopDue = s.ost.stopDue) (k : CoverStep) :
    wanted t k = wanted s k := by
  have hmotor : t.ost.motor = s.ost.motor := by
    have e : Safety.blur t = Safety.blur s := h
    exact congrArg (·.ost.motor) e
  cases k
  · simp only [wanted, startWant, startPending, motorRun_of_settled h, hmotor, hstop, h.settings]
    rfl
  · simp only [wanted, heaterWant_of_settled h]
  · simp only [wanted, heaterWant_of_settled h, h.settings]

/-- What is wanted after an event is what is wanted as its outputs follow (R167). -/
theorem finish_wanted (ev : Bool) (s0 s : State) (k : CoverStep) :
    wanted (finish ev s0 s) k = wanted (syncOutputs s) k := by
  have hset : Safety.Settled (syncOutputs s) (finish ev s0 s) :=
    Eq.trans (Safety.finish_settled ev s0 s) (Eq.symm (Safety.syncOutputs_settled s))
  refine wanted_of_settled hset ?_ k
  rw [finish_stopDue]
  rfl

theorem settleEntry_wanted (s : State) (k : CoverStep) : wanted (settleEntry s) k = wanted (syncOutputs s) k := by
  have hset : Safety.Settled (syncOutputs s) (settleEntry s) :=
    Eq.trans (Safety.settleEntry_settled s) (Eq.symm (Safety.syncOutputs_settled s))
  exact wanted_of_settled hset (settleEntry_stopDue s) k

/-! ## A step that is not wanted -/

/-- What giving up makes of a step (R168, R169). -/
def StepState.givenUp : StepState → StepState
  | .pending => .free
  | .cover => .release
  | .free => .free
  | .release => .release

theorem stepOf_giveUp (s : State) (j k : CoverStep) :
    stepOf (giveUp s j).fsu k = if k = j then (stepOf s.fsu k).givenUp else stepOf s.fsu k := by
  have hunmark : ∀ (v : State) (i : CoverStep), (unmarkStep v i).fsu = v.fsu := fun _ _ => rfl
  have hlose : ∀ (v : State) (i : CoverStep), (loseHold v i).fsu = v.fsu := fun _ i => by cases i <;> rfl
  by_cases hkj : k = j
  · subst hkj
    unfold giveUp
    split <;> rename_i h
    · rw [hunmark, stepOf_setStep, h]
      rfl
    · rw [hlose, stepOf_setStep, h]
      rfl
    · rw [if_pos rfl]
      cases hx : stepOf s.fsu k with
      | pending => contradiction
      | cover => contradiction
      | free => rfl
      | release => rfl
  · rw [if_neg hkj]
    unfold giveUp
    split
    · rw [hunmark, stepOf_setStep, if_neg hkj]
    · rw [hlose, stepOf_setStep, if_neg hkj]
    · rfl

theorem wanted_giveUp (s : State) (j k : CoverStep) : wanted (giveUp s j) k = wanted s k :=
  wanted_of_settled (giveUp_keeps s j).settled (giveUp_stopDue s j) k

theorem stepOf_dropAll (s : State) (k : CoverStep) :
    stepOf (dropAll s).fsu k = if wanted s k then stepOf s.fsu k else (stepOf s.fsu k).givenUp := by
  have drop : ∀ (v : State) (j : CoverStep), stepOf (dropUnwanted v j).fsu k =
      if k = j ∧ wanted v k = false then (stepOf v.fsu k).givenUp else stepOf v.fsu k := fun v j => by
    unfold dropUnwanted
    by_cases hj : wanted v j = true
    · rw [if_pos hj, if_neg]
      rintro ⟨rfl, h⟩
      exact absurd (hj.symm.trans h) (by decide)
    · rw [if_neg hj, stepOf_giveUp]
      by_cases hkj : k = j
      · subst hkj
        rw [if_pos rfl, if_pos ⟨rfl, Bool.eq_false_iff.2 hj⟩]
      · rw [if_neg hkj, if_neg fun h => hkj h.1]
  have keep : ∀ (v : State) (j : CoverStep), wanted (dropUnwanted v j) k = wanted v k := fun v j => by
    unfold dropUnwanted
    split
    · rfl
    · exact wanted_giveUp v j k
  unfold dropAll
  simp only [drop, keep]
  cases k <;> cases wanted s _ <;> simp

theorem stepOf_confirmAll (s : State) (k : CoverStep) : stepOf (confirmAll s).fsu k =
    if stepOf s.fsu k = .release ∧ drawsNothing s k = true then .free else stepOf s.fsu k := by
  have hunmark : ∀ (v : State) (i : CoverStep), (unmarkStep v i).fsu = v.fsu := fun _ _ => rfl
  have confirm : ∀ (v : State) (j : CoverStep), stepOf (confirmStep v j).fsu k =
      if k = j ∧ stepOf v.fsu k = .release ∧ drawsNothing v k = true then .free else stepOf v.fsu k := fun v j => by
    unfold confirmStep
    by_cases hj : (stepOf v.fsu j = .release && drawsNothing v j) = true
    · obtain ⟨hrel, hdraws⟩ := Bool.and_eq_true_iff.1 hj
      rw [if_pos hj, hunmark, stepOf_setStep]
      by_cases hkj : k = j
      · subst hkj
        rw [if_pos rfl, if_pos ⟨rfl, of_decide_eq_true hrel, hdraws⟩]
      · rw [if_neg hkj, if_neg fun h => hkj h.1]
    · rw [if_neg hj, if_neg]
      rintro ⟨rfl, hrel, hdraws⟩
      exact hj (Bool.and_eq_true_iff.2 ⟨decide_eq_true hrel, hdraws⟩)
  have draws : ∀ (v : State) (j : CoverStep), drawsNothing (confirmStep v j) k = drawsNothing v k := fun v j =>
    settled_draws (confirmStep_keeps v j).settled k
  unfold confirmAll
  simp only [confirm, draws]
  cases k <;> simp

/-- What settling the own entry makes of a step (R168, R169, R71). -/
theorem stepOf_settleEntry (s : State) (k : CoverStep) : stepOf (settleEntry s).fsu k =
    let x := if wanted (syncOutputs s) k then stepOf s.fsu k else (stepOf s.fsu k).givenUp
    if x = .release ∧ drawsNothing s k = true then .free else x := by
  have hclass : ∀ v : State, stepOf (settleClass v).fsu k = stepOf v.fsu k := fun v =>
    stepOf_of_steps (by unfold settleClass; split <;> rfl) k
  have hwant : ∀ v : State, stepOf (takeWant v).fsu k = stepOf v.fsu k := fun v => stepOf_of_steps rfl k
  have hdraws : drawsNothing (dropAll (syncOutputs s)) k = drawsNothing s k :=
    settled_draws ((Safety.syncOutputs_settled s).trans (dropAll_keeps _).settled) k
  have hsync : (syncOutputs s).fsu = s.fsu := rfl
  dsimp only
  rw [settleEntry, hclass, hwant, stepOf_confirmAll, hdraws, stepOf_dropAll, hsync]

/-- A step that is not wanted, and is free or waits for its load to stop. -/
structure Rests (k : CoverStep) (x : StepState) (v : State) : Prop where
  unwanted : wanted v k = false
  step : stepOf v.fsu k = x
  rests : x = .free ∨ x = .release ∧ drawsNothing v k = false

variable {k : CoverStep} {x : StepState}

theorem Rests.keeps {v w : State} (h : Rests k x v) (hk : Keeps v w) (hstop : w.ost.stopDue = v.ost.stopDue)
    (hstep : stepOf w.fsu k = stepOf v.fsu k) : Rests k x w :=
  ⟨by rw [wanted_of_settled hk.settled hstop]; exact h.unwanted, hstep.trans h.step, by
    rw [settled_draws hk.settled]
    exact h.rests⟩

theorem Rests.formEvaluation {v : State} (h : Rests k x v) : Rests k x (formEvaluation v) := by
  refine h.keeps (formEvaluation_keeps v) (by rw [formEvaluation_ost]) (stepOf_of_steps ?_ k)
  unfold Machine.formEvaluation
  dsimp only
  split <;> rfl

theorem Rests.shedStep {v : State} (h : Rests k x v) (j : CoverStep) : Rests k x (shedStep v j) := by
  have hgiven : (stepOf v.fsu k).givenUp = stepOf v.fsu k := by
    rw [h.step]
    rcases h.rests with rfl | ⟨rfl, -⟩ <;> rfl
  have hstep : stepOf (giveUp v j).fsu k = stepOf v.fsu k := by
    rw [stepOf_giveUp, hgiven, ite_self]
  unfold Machine.shedStep
  split
  · exact h.keeps ((giveUp_keeps v j).trans (keeps_of_steps rfl rfl)) (giveUp_stopDue v j) ((stepOf_of_steps rfl k).trans hstep)
  · exact h

theorem Rests.grantTest {v : State} (h : Rests k x v) : Rests k x (grantTest v) := by
  refine h.keeps (grantTest_keeps v) (by rw [grantTest_ost]) ?_
  rcases grantTest_cases v with hg | ⟨r, hg, -⟩
  · rw [hg]
  · rw [hg, stepOf_grantSteps _ _ _ _ fun hmem => ?_]
    exact absurd ((mem_freeWanted.1 hmem).1.symm.trans h.unwanted) (by decide)

theorem Rests.evaluateOnce {v : State} (h : Rests k x v) : Rests k x (evaluateOnce v) := by
  have htests : Rests k x (applyTests (Machine.formEvaluation v)) := by
    unfold applyTests
    split
    · exact h.formEvaluation
    · refine Rests.grantTest ?_
      unfold shedTest
      split
      · exact (h.formEvaluation.shedStep .stage2).shedStep .stage1
      · exact h.formEvaluation
  have hconfirm : Rests k x (confirmAll (applyTests (Machine.formEvaluation v))) := by
    refine htests.keeps (confirmAll_keeps _) (by rw [confirmAll_ost]) ?_
    rw [stepOf_confirmAll, if_neg]
    rintro ⟨hrel, hdraws⟩
    rcases htests.rests with hx | ⟨-, hd⟩
    · rw [htests.step, hx] at hrel
      exact absurd hrel (by decide)
    · exact absurd (hdraws.symm.trans hd) (by decide)
  have hclass : ∀ w : State, (settleClass w).fsu.steps = w.fsu.steps := fun w => by
    unfold settleClass
    split <;> rfl
  exact hconfirm.keeps (settleClass_keeps _) (congrArg Output.stopDue (settleClass_ost _)) (stepOf_of_steps (hclass _) k)

theorem announce_steps (s0 : State) (g : Bool) (s : State) : (announce s0 g s).fsu.steps = s.fsu.steps := by
  unfold announce
  repeat' split
  all_goals simp

/-- A step that is not wanted after an event is under release until its load has stopped, if it was in the cover, and
else free (R168, R169, R71). -/
theorem finish_unwanted (ev : Bool) (s0 s : State) (k : CoverStep) (h : wanted (syncOutputs s) k = false) :
    stepOf (finish ev s0 s).fsu k =
      if (stepOf s.fsu k = .cover ∨ stepOf s.fsu k = .release) ∧ drawsNothing s k = false then .release else .free := by
  have hentry : stepOf (settleEntry s).fsu k =
      if (stepOf s.fsu k = .cover ∨ stepOf s.fsu k = .release) ∧ drawsNothing s k = false then .release else .free := by
    rw [stepOf_settleEntry, h]
    cases stepOf s.fsu k <;> cases drawsNothing s k <;> rfl
  have hrests : Rests k (stepOf (settleEntry s).fsu k) (settleEntry s) := by
    refine ⟨?_, rfl, ?_⟩
    · rw [settleEntry_wanted, h]
    · rw [hentry, settled_draws (settleEntry_keeps s).settled]
      split
      case isTrue hd => exact .inr ⟨rfl, hd.2⟩
      case isFalse => exact .inl rfl
  have hend := settleAndEvaluate_induction (P := Rests k (stepOf (settleEntry s).fsu k)) (fun _ hv => hv.formEvaluation)
    (fun _ hv => hv.evaluateOnce) ev s0 hrests
  rw [finish_eq, stepOf_of_steps (announce_steps _ _ _), hend.step, hentry]

/-! ## The motor and the door -/

theorem startWant_of_running (h : s.ost.motor = .running) : startWant s = 0 := by
  have hnot : startPending s = false := by simp [startPending, h]
  rw [startWant, hnot]
  rfl

theorem motor_of_settled (h : Safety.Settled s t) : t.ost.motor = s.ost.motor := by
  have e : Safety.blur t = Safety.blur s := h
  exact congrArg (·.ost.motor) e

theorem heaterWant_of_door (h : s.ost.doorOpen = true) : heaterWant s = 0 := by
  have hnot : heaterWanted s = false := by simp [heaterWanted, h]
  rw [heaterWant, hnot]
  rfl

/-- With the motor RUNNING the START step is free after an event (R71, R168, R169). -/
theorem finish_start_of_running (h : s.ost.motor = .running) (ev : Bool) (s0 : State) :
    (finish ev s0 s).fsu.start = .free ∧ startWant (finish ev s0 s) = 0 := by
  have hunwanted : wanted (syncOutputs s) .start = false :=
    decide_eq_false (by rw [startWant_of_running (s := syncOutputs s) h]; decide)
  have hdraws : drawsNothing s .start = true := by simp [drawsNothing, h]
  have hstep := finish_unwanted ev s0 s .start hunwanted
  rw [hdraws, if_neg (fun hd => absurd hd.2 (by decide))] at hstep
  exact ⟨hstep, startWant_of_running (by rw [motor_of_settled (Safety.finish_settled ev s0 s), h])⟩

theorem startWindowEnd_of_due (h1 : s.ost.motor = .starting) (h2 : s.ost.stopDue = false) (h3 : s.fsu.start ≠ .release) :
    startWindowEnd s = s.setOst { s.ost with motor := .running, startWindow := none } := by
  unfold startWindowEnd
  rw [if_pos]
  rw [h2, Bool.not_false, Bool.and_true, Bool.and_eq_true]
  exact ⟨decide_eq_true h1, bne_iff_ne.2 h3⟩

theorem railDropEnd_of_due (h : s.ost.dropTimer.isSome = true) : railDropEnd s = s.setOst s.ost.drop := by
  rw [railDropEnd, if_pos h]

theorem drop_eq (o : Output) : o.drop = { o with
    runRelay := false, coast := if o.runRelay then some 2000000 else o.coast, dropTimer := none,
    stage1 := { o.stage1 with on := false }, stage2 := { o.stage2 with on := false } } := by
  unfold Output.drop Output.openRelay
  cases hrelay : o.runRelay
  · rw [if_neg (by decide), if_neg (by decide)]
    simp [hrelay]
  · rw [if_pos rfl, if_pos rfl]
    rfl

/-- What the door's opening makes of the cycle, by the state in which it opens (R14, R15, R26). -/
theorem doorCycle_stays (h : s.pnl.resetPending = true ∨ s.csq.state.runs = false) : doorCycle s = s := by
  unfold doorCycle
  split
  case isTrue => rfl
  case isFalse hnot =>
    have hruns := h.resolve_left hnot
    split
    case h_5 => rfl
    all_goals
      next hst =>
        rw [hst] at hruns
        exact absurd hruns (by decide)

theorem doorCycle_pauses (hreset : s.pnl.resetPending = false)
    (h : s.csq.state = .heat ∨ s.csq.state = .extend ∨ s.csq.state = .cool) : doorCycle s = enterPaused s := by
  unfold doorCycle
  rw [if_neg (by rw [hreset]; decide)]
  rcases h with h | h | h <;> rw [h]

theorem doorCycle_ends (hreset : s.pnl.resetPending = false) (h : s.csq.state = .guard) :
    doorCycle s = enterDone (setReasons s fun r => { r with doorEnd := true }) .doorEnd := by
  unfold doorCycle
  rw [if_neg (by rw [hreset]; decide), h]

theorem doorOpens_pauses (hreset : s.pnl.resetPending = false)
    (h : s.csq.state = .heat ∨ s.csq.state = .extend ∨ s.csq.state = .cool) : doorOpens s = requestRecord
      (Safety.entered { s with ost := { s.ost with doorOpen := true } } .paused
        { s.csq.cyc with before := s.csq.cyc.phase, phase := .paused }) .phase .none := by
  have hne : s.csq.state ≠ .paused := by rcases h with h | h | h <;> rw [h] <;> decide
  rw [doorOpens, doorCycle_pauses (by exact hreset) (by exact h), enterPaused_eq (by exact hne)]
  rfl

theorem doorOpens_ends (hreset : s.pnl.resetPending = false) (h : s.csq.state = .guard) : doorOpens s = requestRecord
    (Safety.ended { s with ost := { s.ost with doorOpen := true } } .doorEnd
      { s.csq.cyc with reasons := { s.csq.cyc.reasons with doorEnd := true } }) .finish .doorEnd := by
  have hne : s.csq.state ≠ .done := by rw [h]; decide
  rw [doorOpens, doorCycle_ends (by exact hreset) (by exact h), enterDone_eq (by exact hne)]
  rfl

end Sys2Proof.Machine

namespace Sys2Proof.Proofs

open Sys2Proof.Machine Sys2Proof.Safety

theorem isSome_of_ne_none {α : Type} {o : Option α} (h : o ≠ none) : o.isSome = true := Option.isSome_iff_ne_none.2 h

/-- Settles O44, row by row. -/
theorem motorAndDoor : Obligations.MotorAndDoor := by
  unfold Obligations.MotorAndDoor
  intro s hpow
  refine ⟨fun h1 h2 h3 => ?_, fun h => ?_, fun h => ?_, ?_, fun h => ?_, fun h => ?_⟩
  · have hbody := startWindowEnd_of_due h1 h2 h3
    have hdue : windowDue s = true := by
      rw [windowDue, h2, Bool.not_false, Bool.and_true, Bool.and_eq_true]
      exact ⟨decide_eq_true h1, bne_iff_ne.2 h3⟩
    have hrun := finish_start_of_running (s := startWindowEnd s) (by rw [hbody]; rfl) false s
    refine ⟨_, mainEvent_of_due hpow hdue, ?_, hrun.1, hrun.2⟩
    rw [← State.setOst, ← hbody]
    exact finish_settled _ _ _
  · exact quietEvent_of_due hpow (isSome_of_ne_none h)
  · refine (quietEvent_of_due hpow (isSome_of_ne_none h)).trans ?_
    rw [railDropEnd_of_due (isSome_of_ne_none h), drop_eq]
    rfl
  · exact quietEvent_of_due hpow rfl
  · exact mainEvent_settled (body := doorCloses) hpow h
  · have hfinish := finish_settled false s (doorOpens s)
    have hdoor : (doorOpens s).ost = { s.ost with doorOpen := true } := (doorCycle_frame _).2.2.2.1
    refine ⟨_, mainEvent_of_due hpow (by rw [h]; rfl), ?_, fun hmotor => ?_, fun hreset hst => ?_, fun hreset hst => ?_,
      fun hstays => ?_⟩
    · rw [heaterWant_of_settled hfinish, heaterWant_of_door (by rw [hdoor])]
    · rw [finish_stopDue, hdoor]
      simp [hmotor]
    · rw [← doorOpens_pauses hreset hst]
      exact hfinish
    · rw [← doorOpens_ends hreset hst]
      exact hfinish
    · have hbody : doorOpens s = _ := doorCycle_stays (s := s.setOst { s.ost with doorOpen := true }) hstays
      rw [hbody] at hfinish ⊢
      exact hfinish

end Sys2Proof.Proofs
end

section
/-! PROOFS. The loss of the mains (R19, R20, R39, R81, R90, R111, R112, R163, R181). -/

namespace Sys2Proof.Machine

open Safety (Settled dropped)

variable {s t : State}

/-! ## The loads and the line -/

/-- The Output Stage, the converter, the port and the unit at a loss warning. -/
def lostBlocks (s : State) (opens : Bool) : State :=
  { s with ost := s.ost.lose opens (nominalHalf s.mwt.cls), scv := s.scv.abandon, plp := s.plp.lose, fsu := s.fsu.lose }

theorem raiseWarning_eq (s : State) (opens : Bool) : raiseWarning s opens =
    lossCycle (journalLoss (lostBlocks (s.setMwt { s.mwt with warning := true }) opens)) := rfl

/-- The Output Stage but for the states of the stages, as `blur` leaves it. -/
def Output.blurred (o : Output) : Output :=
  { o with stopDue := false, stage1 := Safety.blurStage o.stage1, stage2 := Safety.blurStage o.stage2 }

theorem lose_blurred (s : State) (opens : Bool) (half : Nat) :
    (s.ost.lose opens half).blurred = (dropped s opens half).ost.blurred := by
  have hcoast : coastUs = 2000000 := rfl
  unfold Output.lose dropped
  by_cases hmotor : s.ost.motor = .stopped <;> cases opens <;> cases hrelay : s.ost.runRelay
  all_goals
    simp only [hmotor, hrelay, Output.openRelay, Output.stopMotor, Output.blurred, Stage.lose, Safety.blurStage, hcoast,
      if_true, if_false, Bool.not_true, Bool.not_false, Bool.and_true, Bool.and_false, Bool.true_or, Bool.false_or,
      Bool.false_eq_true, ne_eq, not_true_eq_false, not_false_eq_true, ite_self]
  all_goals
    cases hon : s.ost.stage1.on || s.ost.stage2.on
    · rfl
    · rfl

theorem nominalHalf_eq (c : LineClass) : nominalHalf c = if c = .hz60 then 8333 else 10000 := by cases c <;> rfl

theorem lostBlocks_settled (s : State) (opens : Bool) :
    Settled (dropped s opens (nominalHalf s.mwt.cls)) (lostBlocks s opens) := by
  have host := lose_blurred s opens (nominalHalf s.mwt.cls)
  unfold Settled Safety.blur
  exact congrArg (fun o : Output => ({ Safety.blur (dropped s opens (nominalHalf s.mwt.cls)) with ost := o } : State)) host

/-! ## The journal and the sequencer -/

theorem Aside.journalLoss {f : State → State} (h : Aside f) (s : State) : f (journalLoss s) = Machine.journalLoss (f s) := by
  unfold Machine.journalLoss
  rw [h.pjr]
  split
  · rw [h.journalSettle, h.setPjr]
  · exact h.setPjr _ _

theorem Aside.lossCycle {f : State → State} (h : Aside f) (s : State) : f (lossCycle s) = Machine.lossCycle (f s) := by
  have hnote : ∀ v, f (clearNote v) = clearNote (f v) := fun v => by rw [clearNote, clearNote, h.setCsq, h.csq]
  have hmove : ∀ v, f (lossMove v) = lossMove (f v) := fun v => by
    unfold lossMove
    rw [h.csq]
    split <;> simp only [h.requestRecord, h.recordDone, h.setCycle]
  unfold Machine.lossCycle
  rw [h.resetPending, ← hnote, ← hmove]
  split <;> rfl

/-- A loss warning after states that settling alone tells apart. -/
theorem warned_settled (h : Settled s t) : Settled (lossCycle (journalLoss s)) (lossCycle (journalLoss t)) := by
  unfold Settled
  rw [aside_blur.lossCycle, aside_blur.lossCycle, aside_blur.journalLoss, aside_blur.journalLoss,
    show Safety.blur t = Safety.blur s from h]

/-- Outside LOSS the loss warning leaves the sequencer's state through the journal (R112, R20). -/
theorem journalLoss_stays (h : s.csq.state ≠ .loss) : (journalLoss s).csq.state = s.csq.state := by
  unfold journalLoss
  dsimp only
  split
  · exact (journalSettle_stays (s := s.setPjr s.pjr.warned) h).2.2.1
  · rfl

@[simp] theorem journalLoss_resetPending (s : State) : (journalLoss s).pnl.resetPending = s.pnl.resetPending := by
  have h : (journalLoss s).pnl.link.resetPending = s.pnl.link.resetPending := by rw [journalLoss_link]
  exact h

theorem recordDone_eq (hs : s.csq.state ≠ .loss) (ha : s.csq.endAwaited = false) : recordDone s = s := by
  unfold recordDone
  rw [if_neg (by rw [ha]; decide), if_neg hs, ite_self]

/-- Outside LOSS, with no END awaited, the loss warning changes the journal alone (R111, R112). -/
theorem journalLoss_pjr (hs : s.csq.state ≠ .loss) (ha : s.csq.endAwaited = false) :
    journalLoss s = s.setPjr (journalLoss s).pjr := by
  have abandon : ∀ v : State, v.csq.state ≠ .loss → v.csq.endAwaited = false →
      abandonPending v = v.setPjr (abandonPending v).pjr := fun v hv hw => by
    unfold abandonPending
    split
    · rw [recordDone_eq (by exact hv) (by exact hw)]
      rfl
    · rfl
  have settle : ∀ v : State, v.csq.state ≠ .loss → v.csq.endAwaited = false →
      journalSettle v = v.setPjr (journalSettle v).pjr := fun v hv hw => by
    unfold journalSettle
    split
    · rfl
    · dsimp only
      rw [abandon v hv hw]
      rfl
  unfold journalLoss
  dsimp only
  split
  · rw [settle (s.setPjr s.pjr.warned) hs ha]
    rfl
  · rfl

/-! ## The Cycle Record and the mains-back note -/

/-- The Cycle Record is `c`, and no mains-back note stands. -/
structure Noted (c : CycleRecord) (s : State) : Prop where
  cyc : s.csq.cyc = c
  note : s.csq.mainsBack = false

theorem setCycle_note (s : State) (st : CycleState) : (setCycle s st).csq.mainsBack = s.csq.mainsBack := by
  unfold setCycle
  split <;> rfl

@[simp] theorem recordDone_cyc (s : State) : (recordDone s).csq.cyc = s.csq.cyc := by
  unfold recordDone leaveLoss enterPlanning
  repeat' split
  all_goals simp

@[simp] theorem journalLoss_cyc (s : State) : (journalLoss s).csq.cyc = s.csq.cyc := by
  unfold journalLoss journalSettle abandonPending
  dsimp only
  repeat' split
  all_goals simp

theorem Noted.frame {c : CycleRecord} (h : Noted c s) (e : t.csq = s.csq) : Noted c t :=
  ⟨by rw [e]; exact h.cyc, by rw [e]; exact h.note⟩

theorem Noted.setCycle {c : CycleRecord} (h : Noted c s) (st : CycleState) : Noted c (setCycle s st) :=
  ⟨by rw [setCycle_cyc]; exact h.cyc, by rw [setCycle_note]; exact h.note⟩

theorem Noted.recordDone {c : CycleRecord} (h : Noted c s) : Noted c (recordDone s) := by
  unfold Machine.recordDone leaveLoss
  split
  · exact ⟨h.cyc, h.note⟩
  · split
    · exact h
    · split
      · rw [if_neg (by rw [h.note]; decide)]
        exact h.setCycle .holdoverWait
      · exact h

theorem Noted.requestRecord {c : CycleRecord} (h : Noted c s) (kind : RecordKind) (reason : EndReason) :
    Noted c (requestRecord s kind reason) := by
  have hcsq : ∀ v : State, v.csq = { s.csq with progress := 0 } → Noted c v := fun v e =>
    ⟨by rw [e]; exact h.cyc, by rw [e]; exact h.note⟩
  unfold Machine.requestRecord journalSettle abandonPending
  dsimp only
  split
  · exact (hcsq _ rfl).recordDone
  · split
    · exact hcsq _ rfl
    · split
      · exact (hcsq _ rfl).recordDone.frame rfl
      · exact hcsq _ rfl

/-- The loss warning takes the note and leaves the Cycle Record (R20). -/
theorem lossCycle_noted (s : State) : Noted s.csq.cyc (lossCycle s) := by
  have hclear : Noted s.csq.cyc (clearNote s) := ⟨rfl, rfl⟩
  unfold lossCycle
  split
  · exact hclear
  · unfold lossMove
    have hactive : Noted s.csq.cyc (requestRecord (setCycle (clearNote s) .loss) .loss .none) :=
      (hclear.setCycle .loss).requestRecord .loss .none
    have hpasses : Noted s.csq.cyc (recordDone (setCycle (clearNote s) .loss)) := (hclear.setCycle .loss).recordDone
    split
    · exact hactive
    · exact hactive
    · exact hactive
    · exact hactive
    · exact hactive
    · exact hpasses
    · exact hpasses
    · exact hpasses
    · exact hpasses
    · exact hclear
    · exact hclear
    · exact hclear
    · exact hclear

/-! ## The steps under the loss warning -/

/-- Every step is free, and no evaluation tests anything (R175, R181). -/
structure AllFree (v : State) : Prop where
  warning : v.mwt.warning = true
  start : v.fsu.start = .free
  stage1 : v.fsu.stage1 = .free
  stage2 : v.fsu.stage2 = .free

theorem AllFree.frame (h : AllFree s) (hm : t.mwt = s.mwt) (hf : t.fsu.steps = s.fsu.steps) : AllFree t := by
  simp only [Feeder.steps, Prod.mk.injEq] at hf
  obtain ⟨h0, h1, h2⟩ := hf
  exact ⟨by rw [hm]; exact h.warning, h0.trans h.start, h1.trans h.stage1, h2.trans h.stage2⟩

theorem AllFree.stepOf (h : AllFree s) (k : CoverStep) : stepOf s.fsu k = .free := by
  cases k
  · exact h.start
  · exact h.stage1
  · exact h.stage2

theorem allFree_iff : AllFree s ↔ s.mwt.warning = true ∧ ∀ k, stepOf s.fsu k = .free :=
  ⟨fun h => ⟨h.warning, h.stepOf⟩, fun h => ⟨h.1, h.2 .start, h.2 .stage1, h.2 .stage2⟩⟩

/-- Under the loss warning, with every step free, an event leaves every step free (R175, R181). -/
theorem finish_allFree (h : AllFree s) (ev : Bool) (s0 : State) : AllFree (finish ev s0 s) := by
  have hentry : AllFree (settleEntry s) := by
    refine allFree_iff.2 ⟨by rw [(settleEntry_keeps s).settled.mwt]; exact h.warning, fun k => ?_⟩
    rw [stepOf_settleEntry, h.stepOf k]
    simp [StepState.givenUp]
  have hform : ∀ v, AllFree v → AllFree (formEvaluation v) := fun v hv => by
    refine hv.frame (formEvaluation_keeps v).settled.mwt ?_
    unfold formEvaluation
    dsimp only
    split <;> rfl
  have honce : ∀ v, AllFree v → AllFree (evaluateOnce v) := fun v hv => by
    have hv' := hform v hv
    have htests : applyTests (formEvaluation v) = formEvaluation v := by
      unfold applyTests
      rw [hv'.warning, Bool.or_true]
      exact if_pos rfl
    refine allFree_iff.2 ⟨by rw [(evaluateOnce_keeps v).settled.mwt]; exact hv.warning, fun k => ?_⟩
    have hclass : ∀ w : State, Machine.stepOf (settleClass w).fsu k = Machine.stepOf w.fsu k := fun w =>
      stepOf_of_steps (by unfold settleClass; split <;> rfl) k
    unfold evaluateOnce
    rw [hclass, htests, stepOf_confirmAll, hv'.stepOf k]
    simp
  have hend := settleAndEvaluate_induction hform honce ev s0 hentry
  rw [finish_eq]
  exact hend.frame (Safety.announce_settled _ _ _).mwt (announce_steps _ _ _)

theorem held_of_allFree (h : AllFree s) : held s = 0 := by
  simp [held, unitsIf, h.stepOf]

/-! ## The loss as a whole -/

/-- The state that a fresh loss of the mains leaves, before its settling (R81, R90). -/
def mainsLost (v : State) (opens : Bool) : State := lossCycle (journalLoss (lostBlocks v opens))

theorem mainsLost_settled (v s0 : State) (opens : Bool) (half : Nat) (h : half = nominalHalf v.mwt.cls) :
    Settled (lossCycle (journalLoss (dropped v opens half))) (finish false s0 (mainsLost v opens)) := by
  subst h
  exact (warned_settled (lostBlocks_settled v opens)).trans (Safety.finish_settled false s0 _)

theorem mainsLost_allFree {v : State} (h : v.mwt.warning = true) (s0 : State) (opens : Bool) :
    AllFree (finish false s0 (mainsLost v opens)) := by
  have hbody : AllFree (lostBlocks v opens) := ⟨h, rfl, rfl, rfl⟩
  refine finish_allFree (hbody.frame ?_ ?_) false s0
  · simp [mainsLost]
  · simp [mainsLost]

/-- A missing crossing in PRESENT (R88). -/
theorem missingCrossing_of_present (h : s.mwt.state = .present) (hw : s.mwt.warning = false) : missingCrossing s =
    mainsLost (s.setMwt { s.mwt with state := .lossWarning, warning := true, causeCrossing := true,
                                     missing := max s.mwt.missing (missingLimit s.mwt.cls) }) true := by
  unfold missingCrossing
  rw [h]
  exact if_neg (ne_true_of_eq_false hw)

/-- A fresh trip outside LOSS_WARNING, with no warning outstanding (R89). -/
theorem railTripped_of_fresh (h : s.mwt.railTripped = false) (hs : s.mwt.state ≠ .lossWarning)
    (hw : s.mwt.warning = false) : railTripped s =
    mainsLost (s.setMwt { s.mwt.tripped with state := .lossWarning, warning := true }) false := by
  rw [railTripped_of_healthy h, if_neg hs]
  exact if_neg (ne_true_of_eq_false hw)

/-! ## What the loss makes of the cycle -/

theorem lossCycle_of_moves (hr : s.pnl.resetPending = false) (h : s.csq.state.runs = true ∨ s.csq.state = .paused) :
    lossCycle s = requestRecord { s with csq := { s.csq with state := .loss, ready := .none, mainsBack := false },
                                         pnl := { s.pnl with evPhase := true } } .loss .none := by
  have hne : s.csq.state ≠ .loss := by
    rintro hl
    rw [hl] at h
    exact absurd h (by decide)
  have hmove : lossMove (clearNote s) = requestRecord (setCycle (clearNote s) .loss) .loss .none := by
    unfold lossMove
    cases hst : s.csq.state <;> simp_all [clearNote, CycleState.runs]
  rw [lossCycle, if_neg (by rw [hr]; decide), hmove, setCycle_of_ne (by exact hne)]
  rfl

theorem lossCycle_of_waits (hr : s.pnl.resetPending = false) (ha : s.csq.endAwaited = false)
    (h : s.csq.state = .idle ∨ s.csq.state = .done ∨ s.csq.state = .abandoned ∨ s.csq.state = .planReady) :
    lossCycle s = { s with csq := { s.csq with state := .holdoverWait, ready := .none, mainsBack := false },
                           pnl := { s.pnl with evPhase := true } } := by
  have hne : s.csq.state ≠ .loss := by rcases h with h | h | h | h <;> rw [h] <;> decide
  have hmove : lossMove (clearNote s) = recordDone (setCycle (clearNote s) .loss) := by
    unfold lossMove
    rcases h with h | h | h | h <;> simp [clearNote, h]
  rw [lossCycle, if_neg (by rw [hr]; decide), hmove, setCycle_of_ne (by exact hne)]
  unfold recordDone leaveLoss
  rw [if_neg (by exact ne_true_of_eq_false ha), if_neg (by exact ne_true_of_eq_false hr), if_pos (by rfl),
    if_neg (by exact Bool.false_ne_true), setCycle_of_ne (by exact CycleState.noConfusion)]
  rfl

theorem lossCycle_of_keeps (h : s.csq.state = .config ∨ s.csq.state = .planning ∨ s.csq.state = .holdoverWait ∨
    s.pnl.resetPending = true) : lossCycle s = clearNote s := by
  rcases h with h | h | h | h
  · exact lossCycle_stays (.inl h)
  · exact lossCycle_stays (.inr (.inl h))
  · exact lossCycle_stays (.inr (.inr (.inl h)))
  · exact if_pos h

/-! ## The journal at the loss -/

theorem warned_of_not_orderly {j : Journal} (h : j.holdsOrderly = false) : j.warned = { j with lossMark := true } := by
  unfold Journal.holdsOrderly at h
  cases hp : j.pend with
  | none => simp [Journal.warned, hp]
  | some p =>
    have ho : p.orderly = false := by simpa [hp] using h
    simp [Journal.warned, hp, ho]

theorem journalLoss_of_not_orderly (h : s.pjr.holdsOrderly = false) :
    journalLoss s = s.setPjr { s.pjr with lossMark := true } := by
  unfold journalLoss
  rw [warned_of_not_orderly h, if_neg (by rw [h]; decide)]

/-- The journal with the orderly mark of its record cleared (R112). -/
def Journal.hurries (j : Journal) (p : PendingRecord) : Journal :=
  { j with lossMark := true, pend := some { p with orderly := false, hurried := true } }

theorem journalLoss_of_orderly {p : PendingRecord} (hp : s.pjr.pend = some p) (ho : p.orderly = true) :
    journalLoss s = journalSettle (s.setPjr (s.pjr.hurries p)) := by
  have hwarned : s.pjr.warned = s.pjr.hurries p := by
    simp [Journal.warned, Journal.hurries, hp, ho]
  unfold journalLoss
  rw [hwarned, if_pos (by rw [Journal.holdsOrderly, hp]; exact ho)]

theorem hurries_abandons (j : Journal) (p : PendingRecord) : (j.hurries p).abandons = (j.usable p.urgent).isNone := by
  have hu : (j.hurries p).usable p.urgent = j.usable p.urgent := usable_congr (fun _ => rfl) rfl rfl _
  unfold Journal.abandons
  simp [Journal.hurries] at hu ⊢
  rw [hu]

end Sys2Proof.Machine

namespace Sys2Proof.Proofs

open Sys2Proof.Machine Sys2Proof.Safety

/-- What a loss of the mains makes of every block, from the state whose Mains Watch it has moved. -/
theorem lossOfMains_of_moved {v : State} (hw : v.mwt.warning = true) (s0 : State) (opens : Bool) :
    let j := journalLoss (dropped v opens (if v.mwt.cls = .hz60 then 8333 else 10000))
    let u := { j with csq := { j.csq with mainsBack := false } }
    let t := finish false s0 (mainsLost v opens)
    held t = 0 ∧ (t.fsu.start = .free ∧ t.fsu.stage1 = .free ∧ t.fsu.stage2 = .free) ∧
      t.csq.mainsBack = false ∧ t.csq.cyc = v.csq.cyc ∧
      (v.pnl.resetPending = false → v.csq.state.runs = true ∨ v.csq.state = .paused →
        Settled (requestRecord
          { u with csq := { u.csq with state := .loss, ready := .none },
                   pnl := { u.pnl with evPhase := true } } .loss .none) t) ∧
      (v.pnl.resetPending = false → v.csq.endAwaited = false →
        v.csq.state = .idle ∨ v.csq.state = .done ∨ v.csq.state = .abandoned ∨ v.csq.state = .planReady →
        Settled { u with csq := { u.csq with state := .holdoverWait, ready := .none },
                         pnl := { u.pnl with evPhase := true } } t) ∧
      (v.csq.state = .config ∨ v.csq.state = .planning ∨ v.csq.state = .holdoverWait ∨ v.pnl.resetPending = true →
        Settled u t) ∧
      (v.csq.state = .loss → v.pjr.holdsOrderly = false → t.csq.state = .loss ∧ Settled u t) := by
  intro j u t
  have hset : Settled (lossCycle j) t := mainsLost_settled v s0 opens _ (nominalHalf_eq _).symm
  have hfree := mainsLost_allFree hw s0 opens
  have hnoted := lossCycle_noted j
  have hcyc : j.csq.cyc = v.csq.cyc := journalLoss_cyc _
  have hreset : j.pnl.resetPending = v.pnl.resetPending := journalLoss_resetPending _
  have hstate : v.csq.state ≠ .loss → j.csq.state = v.csq.state := fun h => journalLoss_stays (by exact h)
  refine ⟨held_of_allFree hfree, ⟨hfree.start, hfree.stage1, hfree.stage2⟩, ?_, ?_, fun hr h => ?_, fun hr ha h => ?_,
    fun h => ?_, fun h ho => ?_⟩
  · rw [hset.csq, hnoted.note]
  · rw [hset.csq, hnoted.cyc, hcyc]
  · have hne : v.csq.state ≠ .loss := by
      rintro hl
      rw [hl] at h
      exact absurd h (by decide)
    rw [lossCycle_of_moves (by rw [hreset, hr]) (by rw [hstate hne]; exact h)] at hset
    exact hset
  · have hne : v.csq.state ≠ .loss := by rcases h with h | h | h | h <;> rw [h] <;> decide
    have hj : j = (dropped v opens _).setPjr j.pjr := journalLoss_pjr (by exact hne) (by exact ha)
    have hawaited : j.csq.endAwaited = false := by
      rw [hj]
      exact ha
    rw [lossCycle_of_waits (by rw [hreset, hr]) hawaited (by rw [hstate hne]; exact h)] at hset
    exact hset
  · have hkeeps : j.csq.state = .config ∨ j.csq.state = .planning ∨ j.csq.state = .holdoverWait ∨
        j.pnl.resetPending = true := by
      rw [hreset]
      by_cases hne : v.csq.state = .loss
      · rw [hne] at h
        exact .inr (.inr (.inr (by simpa using h)))
      · rw [hstate hne]
        exact h
    rw [lossCycle_of_keeps hkeeps] at hset
    exact hset
  · have hj : j.csq.state = .loss := by
      have hpjr : j = _ := journalLoss_of_not_orderly (by exact ho)
      rw [hpjr]
      exact h
    rw [lossCycle_stays (.inr (.inr (.inr hj)))] at hset
    exact ⟨by rw [hset.csq]; exact hj, hset⟩

/-- Settles O42: the two causes lead to one loss, and the journal's part is judged by its pending record. -/
theorem lossOfMains : Obligations.LossOfMains := by
  unfold Obligations.LossOfMains
  refine ⟨fun s c hpow hwarn => ?_, fun s => ⟨fun h => ?_, fun p hp ho => ?_, fun p hp ho hslot => ?_, fun p hp ho hprog hnone => ?_⟩⟩
  · dsimp only
    rintro (⟨rfl, hpresent⟩ | ⟨rfl, hhealthy, hstate⟩)
    · have hlost := lossOfMains_of_moved (v := s.setMwt { s.mwt with
        state := .lossWarning, warning := true, causeCrossing := true,
        missing := max s.mwt.missing (missingLimit s.mwt.cls) }) rfl s true
      rw [← missingCrossing_of_present hpresent hwarn, missingLimit_eq] at hlost
      exact ⟨_, mainEvent_of_due hpow (by rw [hpresent]; rfl), hlost⟩
    · have hlost := lossOfMains_of_moved (v := s.setMwt { s.mwt.tripped with state := .lossWarning, warning := true })
        rfl s false
      rw [← railTripped_of_fresh hhealthy hstate hwarn] at hlost
      exact ⟨_, mainEvent_of_due hpow rfl, hlost⟩
  · exact journalLoss_empty h
  · exact journalLoss_of_not_orderly (by rw [Journal.holdsOrderly, hp]; exact ho)
  · rw [journalLoss_of_orderly hp ho]
    cases hprog : s.pjr.op.programs with
    | true =>
      rw [journalSettle_of_programs (by exact hprog)]
      exact ⟨rfl, rfl, rfl⟩
    | false =>
      have hsome : (s.pjr.usable p.urgent).isSome = true := hslot.resolve_left (by rw [hprog]; decide)
      have hkept : (s.pjr.hurries p).abandons = false := by rw [hurries_abandons, ← Option.not_isSome, hsome]; rfl
      rw [journalSettle_of_kept (by exact hprog) (by exact hkept)]
      exact ⟨(settleErase_rest (s.pjr.hurries p)).2, (settleErase_pend (s.pjr.hurries p)).1, rfl⟩
  · have habandons : (s.pjr.hurries p).abandons = true := by rw [hurries_abandons, hnone]; rfl
    rw [journalLoss_of_orderly hp ho, journalSettle_of_abandoned (by exact hprog) (by exact habandons), (settleErase_pend _).1,
      (settleErase_rest _).1]
    exact ⟨rfl, rfl⟩

end Sys2Proof.Proofs
end

section
/-! PROOFS. The measurements of a pair (R32 to R38, R50, R52, R72), and the plan that is made at the end of an EXH pair (R22,
R134, R144). -/

namespace Sys2Proof.Machine

open Safety (Settled afterResult afterInvalid faultAfter codeAfter tripAfter recordAfter)

variable {s t : State}

/-! ## The fault event -/

/-- The state with the fault event raised, or not. -/
def withFault (s : State) (b : Bool) : State := s.setPnl { s.pnl with evFault := s.pnl.evFault || b }

theorem aside_withFault (b : Bool) : Aside (withFault · b) :=
  ⟨fun _ => rfl, fun _ => rfl, fun _ => rfl, fun _ => rfl, fun _ => rfl, fun _ _ => rfl, fun _ _ => rfl, fun _ _ => rfl,
    fun _ => rfl⟩

theorem withFault_settled (s : State) (b : Bool) : Settled s (withFault s b) := rfl

theorem withFault_true (s : State) : withFault s true = raiseFault s := by
  rw [withFault, Bool.or_true]
  rfl

theorem withFault_false (s : State) : withFault s false = s := by
  rw [withFault, Bool.or_false]
  rfl

theorem ite_raiseFault (s : State) (b : Bool) : (if b then raiseFault s else s) = withFault s b := by
  cases b
  · rw [withFault_false]
    rfl
  · rw [withFault_true]
    rfl

/-! ## The result of a pair -/

theorem faultOf_eq (w : Option Nat) : faultOf w = faultAfter w := by
  cases w with
  | none => rfl
  | some x => rfl

theorem faultAfter_none_iff (x : Nat) : faultAfter (some x) = .none ↔ 160 ≤ x ∧ x ≤ 30000 := by
  unfold faultAfter
  dsimp only
  split
  · simp; omega
  · split <;> simp <;> omega

/-- A result of EXH raises the fault event: its flag turns OPEN or SHORT (R38, R44). -/
def exhRaises (s : State) (w : Option Nat) : Bool := faultAfter w != .none && faultAfter w != s.scv.exhFault

/-- A result of INL raises the fault event: its flag turns OPEN or SHORT, or the high limit trips (R38, R44, R72). -/
def inlRaises (s : State) (w : Option Nat) : Bool :=
  (faultAfter w != .none && faultAfter w != s.scv.inlFault) || (!s.ost.tripped && tripAfter s.ost.tripped w)

/-- A result of a pair raises the fault event. -/
def resultRaises (s : State) (w : Option Nat) : Bool :=
  if s.scv.pair = 2 then exhRaises s w else if s.scv.pair = 4 then inlRaises s w else false

theorem settleFault_eq {ch : Channel} (hch : ch ≠ .moist) (s : State) (f : ThermFault) : settleFault s ch f =
    withFault (s.setScv (s.scv.setFault ch f)) (f != .none && f != s.scv.fault ch) := by
  unfold settleFault
  rw [bne_iff_ne.2 hch, Bool.true_and, ite_raiseFault]

theorem codeAfter_of_fault {x : Nat} (h : ¬ (160 ≤ x ∧ x ≤ 30000)) (old : Nat) : codeAfter old (some x) = old := if_neg h

theorem codeAfter_of_good {x : Nat} (h : 160 ≤ x ∧ x ≤ 30000) (old : Nat) : codeAfter old (some x) = codeOfRatio x := if_pos h

theorem deliver_exh {w : Option Nat} (h : s.scv.exhFault = faultAfter w) :
    deliver s .exh w = s.setDwn { s.dwn with exh := codeAfter s.dwn.exh w } := by
  cases w with
  | none => rfl
  | some x =>
    rw [deliver, deliverTherm, show s.scv.fault .exh = faultAfter (some x) from h]
    by_cases hx : 160 ≤ x ∧ x ≤ 30000
    · rw [if_pos ((faultAfter_none_iff x).2 hx), codeAfter_of_good hx]
    · rw [if_neg (mt (faultAfter_none_iff x).1 hx), codeAfter_of_fault hx]
      rfl
    all_goals exact Channel.noConfusion

/-- The high limit after a new INL code (R72). -/
theorem judgeHighLimit_eq (s : State) {x : Nat} (h : 160 ≤ x ∧ x ≤ 30000) : judgeHighLimit s (codeOfRatio x) =
    withFault (s.setOst { s.ost with tripped := tripAfter s.ost.tripped (some x) })
      (!s.ost.tripped && tripAfter s.ost.tripped (some x)) := by
  have htrip : tripAfter s.ost.tripped (some x) =
      if s.ost.tripped then decide (180 < codeOfRatio x) else decide (220 ≤ codeOfRatio x) := if_pos h
  have hsame : s.setOst { s.ost with tripped := s.ost.tripped } = s := rfl
  rw [htrip, judgeHighLimit]
  cases ht : s.ost.tripped
  · rw [ht] at hsame
    by_cases hc : 220 ≤ codeOfRatio x
    · simp [hc, withFault_true]
    · simp [hc, withFault_false, hsame]
  · rw [ht] at hsame
    by_cases hc : codeOfRatio x ≤ 180
    · simp [hc, withFault_false, Nat.not_lt.2 hc]
    · simp [hc, withFault_false, Nat.lt_of_not_le hc, hsame]

theorem deliver_inl {w : Option Nat} (h : s.scv.inlFault = faultAfter w) : deliver s .inl w =
    withFault ((s.setDwn { s.dwn with inl := codeAfter s.dwn.inl w }).setOst
      { s.ost with tripped := tripAfter s.ost.tripped w }) (!s.ost.tripped && tripAfter s.ost.tripped w) := by
  cases w with
  | none =>
    rw [show tripAfter s.ost.tripped none = s.ost.tripped from rfl, Bool.not_and_self, withFault_false]
    rfl
  | some x =>
    rw [deliver, deliverTherm, show s.scv.fault .inl = faultAfter (some x) from h]
    by_cases hx : 160 ≤ x ∧ x ≤ 30000
    · rw [if_pos ((faultAfter_none_iff x).2 hx), codeAfter_of_good hx]
      exact judgeHighLimit_eq _ hx
    · have htrip : tripAfter s.ost.tripped (some x) = s.ost.tripped := if_neg hx
      rw [if_neg (mt (faultAfter_none_iff x).1 hx), codeAfter_of_fault hx, htrip, Bool.not_and_self, withFault_false]
      rfl
    all_goals exact Channel.noConfusion

theorem deliver_moist (s : State) (w : Option Nat) : deliver s .moist w =
    if s.ost.motor = .running then
      s.setDwn { s.dwn with resultSeen := true, hitSeen := s.dwn.hitSeen || w.any (s.csq.desc.wetThreshold ≤ ·) }
    else s := by
  cases w <;> rfl

section
variable (m : Bool) (count period : Nat) (w : Option Nat)

/-- A result, delivered: the state that completes the pair. -/
def delivered (s : State) (m : Bool) (count period : Nat) (w : Option Nat) : State :=
  let ch := channelOf s.scv.pair
  let r : ChannelRecord :=
    { periodMode := m, count := count, period := period, ref := s.scv.nRef, oscillation := w.isSome,
      w := keptRatio ch (s.scv.record ch).w w, results := satInc 255 (s.scv.record ch).results }
  let v := deliver (settleFault (s.setScv (s.scv.setRecord ch r)) ch (faultOf w)) ch w
  v.setScv v.scv.nextPair

theorem endMeasurement_eq_delivered (s : State) : endMeasurement s m count period w =
    if channelOf s.scv.pair = .exh then makePlan (delivered s m count period w) true else delivered s m count period w := rfl

theorem keptRatio_eq (ch : Channel) (old : Nat) (w : Option Nat) :
    keptRatio ch old w = w.getD (if ch = .moist then 0 else old) := by
  cases w <;> rfl

theorem delivered_exh (h : s.scv.pair = 2) :
    delivered s m count period w = withFault (afterResult s m count period w) (exhRaises s w) := by
  have hch : channelOf s.scv.pair = .exh := if_pos h
  unfold delivered afterResult
  rw [if_pos h]
  dsimp only
  rw [hch, faultOf_eq, settleFault_eq (by decide), deliver_exh (by rfl), keptRatio_eq]
  rfl

theorem withFault_withFault (s : State) (a b : Bool) : withFault (withFault s a) b = withFault s (a || b) := by
  unfold withFault
  rw [← Bool.or_assoc]
  rfl

theorem delivered_inl (h : s.scv.pair = 4) :
    delivered s m count period w = withFault (afterResult s m count period w) (inlRaises s w) := by
  have hch : channelOf s.scv.pair = .inl := by
    rw [channelOf, h]
    rfl
  unfold delivered afterResult
  rw [if_neg (by rw [h]; decide), if_pos h]
  dsimp only
  rw [hch, faultOf_eq, settleFault_eq (by decide), deliver_inl (by rfl), keptRatio_eq, inlRaises, ← withFault_withFault]
  rfl

theorem delivered_moist (h2 : s.scv.pair ≠ 2) (h4 : s.scv.pair ≠ 4) :
    delivered s m count period w = afterResult s m count period w := by
  have hch : channelOf s.scv.pair = .moist := by
    rw [channelOf, if_neg h2, if_neg h4]
  unfold delivered afterResult
  rw [if_neg h2, if_neg h4]
  dsimp only
  rw [hch, keptRatio_eq, deliver_moist]
  by_cases hmotor : s.ost.motor = .running
  · rw [if_pos hmotor, if_pos (by exact hmotor)]
    rfl
  · rw [if_neg hmotor, if_neg (by exact hmotor)]
    rfl

/-- The result of a pair, delivered (R36 to R38, R50, R52, R72). -/
theorem delivered_eq (s : State) :
    delivered s m count period w = withFault (afterResult s m count period w) (resultRaises s w) := by
  unfold resultRaises
  by_cases h2 : s.scv.pair = 2
  · rw [if_pos h2, delivered_exh m count period w h2]
  · rw [if_neg h2]
    by_cases h4 : s.scv.pair = 4
    · rw [if_pos h4, delivered_inl m count period w h4]
    · rw [if_neg h4, withFault_false, delivered_moist m count period w h2 h4]

/-- A measurement of a valid pair ends (R37): its result is delivered, and an EXH pair makes a plan that waits for it. -/
theorem endMeasurement_eq (s : State) : endMeasurement s m count period w =
    if s.scv.pair = 2 then makePlan (withFault (afterResult s m count period w) (resultRaises s w)) true
    else withFault (afterResult s m count period w) (resultRaises s w) := by
  rw [endMeasurement_eq_delivered, delivered_eq]
  by_cases h2 : s.scv.pair = 2
  · have hch : channelOf s.scv.pair = .exh := if_pos h2
    rw [if_pos h2, if_pos hch]
  · have hch : channelOf s.scv.pair ≠ .exh := by
      rw [channelOf, if_neg h2]
      split <;> decide
    rw [if_neg h2, if_neg hch]

end

/-! ## The plan and the fault event -/

section
variable (s : State) (b : Bool)

theorem planEntry_withFault (p : Plan) : planEntry (withFault s b) p = withFault (planEntry s p) b := by
  unfold planEntry executeHeat executeExtend executeCool executeGuard executePaused
  have hcycle := (aside_withFault b).setCycle
  have hremembered : applyRemembered (withFault s b) p = withFault (applyRemembered s p) b := by
    unfold applyRemembered
    rw [show (withFault s b).csq = s.csq from rfl]
    split <;> rfl
  split
  case h_5 =>
    dsimp only
    rw [hremembered, hcycle]
    rfl
  case h_6 | h_7 | h_8 | h_9 => rfl
  all_goals
    dsimp only
    rw [hcycle]
    rfl

theorem executePlan_withFault (p : Plan) : executePlan (withFault s b) p = withFault (executePlan s p) b := by
  rw [executePlan_eq, executePlan_eq]
  have hclear : orderClear (withFault s b) = withFault (orderClear s) b := rfl
  have hends : planEnds (withFault (orderClear s) b) p = planEnds (orderClear s) p := rfl
  rw [hclear, hends]
  split
  · rw [(aside_withFault b).enterDone, (aside_withFault b).requestRecord]
    rfl
  · rw [(aside_withFault b).requestRecord, planEntry_withFault]

theorem enterPlanReady_withFault (reason : ReadyReason) :
    enterPlanReady (withFault s b) reason = withFault (enterPlanReady s reason) b := by
  unfold enterPlanReady
  dsimp only
  rw [← (aside_withFault b).setCycle]
  rfl

theorem enterAbandoned_withFault : enterAbandoned (withFault s b) = withFault (enterAbandoned s) b := by
  unfold enterAbandoned
  dsimp only
  rw [(aside_withFault b).requestRecord, (aside_withFault b).setCycle]
  rfl

theorem actOnPlan_withFault : actOnPlan (withFault s b) = withFault (actOnPlan s) b := by
  have hdisp : ∀ (v : State) (d : Disposition), setDisposition (withFault v b) d = withFault (setDisposition v d) b :=
    fun _ _ => rfl
  have hclear : orderClear (withFault s b) = withFault (orderClear s) b := rfl
  unfold actOnPlan
  rw [show (withFault s b).rpl = s.rpl from rfl, show (withFault s b).settings = s.settings from rfl,
    show (withFault s b).ost = s.ost from rfl, hclear]
  split
  case h_1 => rw [← (aside_withFault b).setCycle, hdisp]
  case h_2 =>
    rw [show setReasons (withFault (orderClear s) b) _ = withFault (setReasons (orderClear s) _) b from rfl,
      ← (aside_withFault b).enterDone, hdisp]
  case h_3 | h_4 =>
    rw [enterAbandoned_withFault, hdisp]
  all_goals
    rw [enterPlanReady_withFault, enterPlanReady_withFault, executePlan_withFault, hdisp]
    split
    · rfl
    · split <;> rfl

/-- The plan does not see the fault event, and does not touch it. -/
theorem makePlan_withFault (valid : Bool) : makePlan (withFault s b) valid = withFault (makePlan s valid) b := by
  have hload : ∀ (v : State) (src : Option Record), loadSource (withFault v b) src = withFault (loadSource v src) b :=
    fun _ src => by cases src <;> rfl
  have hdeliver : ∀ (v : State) (src : Option Record), deliverPlan (withFault v b) src = withFault (deliverPlan v src) b :=
    fun v src => by
      unfold deliverPlan
      rw [hload, actOnPlan_withFault, show (withFault v b).pnl.resetPending = v.pnl.resetPending from rfl]
      split <;> rfl
  unfold makePlan
  rw [show (withFault s b).rpl = s.rpl from rfl]
  split
  · dsimp only
    rw [← hdeliver]
    rfl
  · rfl

end

/-! ## The rows -/

theorem refEnd_eq (h : s.scv.meas = .ref) (n : Nat) : refEnd s n =
    withFault (s.setScv { s.scv with meas := .gate, refValid := refOk (gateCount n), nRef := gateCount n,
                                     refFault := !refOk (gateCount n), gateTimer := 0 })
      (!refOk (gateCount n) && !s.scv.refFault) := by
  unfold refEnd
  rw [if_pos h]
  dsimp only
  rw [ite_raiseFault]

theorem makePlan_stays (h : s.rpl.state ≠ .making) (valid : Bool) : makePlan s valid = s := if_neg h

theorem completePair_eq (s : State) (valid : Bool) : completePair s (channelOf s.scv.pair) valid =
    if s.scv.pair = 2 then makePlan (afterInvalid s) valid else afterInvalid s := by
  unfold completePair
  by_cases h2 : s.scv.pair = 2
  · have hch : channelOf s.scv.pair = .exh := if_pos h2
    rw [if_pos h2, hch, if_pos rfl]
    rfl
  · have hch : channelOf s.scv.pair ≠ .exh := by
      rw [channelOf, if_neg h2]
      split <;> decide
    rw [if_neg h2, if_neg hch]
    rfl

theorem gateEnd_of_invalid (h : s.scv.meas = .gate) (hv : s.scv.refValid = false) (n : Nat) :
    gateEnd s n = if s.scv.pair = 2 then makePlan (afterInvalid s) false else afterInvalid s := by
  unfold gateEnd
  rw [if_pos h, hv]
  exact completePair_eq s false

theorem le_gateCount {n : Nat} : 64 ≤ gateCount n ↔ 64 ≤ n := by
  unfold gateCount
  omega

theorem gateEnd_of_count (h : s.scv.meas = .gate) (hv : s.scv.refValid = true) {n : Nat} (hn : 64 ≤ n) :
    gateEnd s n = endMeasurement s false (gateCount n) 0 (some (ratioOfCount (gateCount n) s.scv.nRef)) := by
  unfold gateEnd
  rw [if_pos h, hv]
  exact if_pos (le_gateCount.2 hn)

theorem gateEnd_of_few (h : s.scv.meas = .gate) (hv : s.scv.refValid = true) {n : Nat} (hn : n < 64) :
    gateEnd s n = s.setScv { s.scv with meas := .period, nSensor := n, gateTimer := 0, periodTimer := 0 } := by
  have hcount : gateCount n = n := by
    unfold gateCount
    omega
  unfold gateEnd
  rw [if_pos h, hv]
  dsimp only
  rw [hcount, if_neg (by decide), if_neg (by omega)]

theorem periodEnds_eq (h : s.scv.meas = .period) (us : Nat) :
    periodEnds s us = endMeasurement s true s.scv.nSensor us (some (ratioOfPeriod us s.scv.nRef)) := if_pos h

theorem periodExpires_eq (h : s.scv.meas = .period) :
    periodExpires s = endMeasurement s true s.scv.nSensor 0 none := if_pos h

@[simp] theorem afterResult_rpl (s : State) (m : Bool) (count period : Nat) (w : Option Nat) :
    (afterResult s m count period w).rpl = s.rpl := by
  unfold afterResult
  dsimp only
  split
  · rfl
  · split <;> rfl

/-- A result with no planner waiting for it. -/
theorem endMeasurement_of_no_plan (h : ¬ Safety.planWaits s) (m : Bool) (count period : Nat) (w : Option Nat) :
    endMeasurement s m count period w = withFault (afterResult s m count period w) (resultRaises s w) := by
  rw [endMeasurement_eq]
  by_cases h2 : s.scv.pair = 2
  · rw [if_pos h2, makePlan_withFault, makePlan_stays fun hm => h ⟨by rwa [afterResult_rpl] at hm, h2⟩]
  · rw [if_neg h2]

/-! ## What a plan leaves of the codes -/

theorem executePlan_codes (s : State) (p : Plan) :
    (executePlan s p).dwn.exh = s.dwn.exh ∧ (executePlan s p).dwn.inl = s.dwn.inl := by
  have hentry : ∀ v, (planEntry v p).dwn.exh = v.dwn.exh ∧ (planEntry v p).dwn.inl = v.dwn.inl := fun v => by
    unfold planEntry
    split <;> simp [executeHeat, executeExtend, executeCool, executeGuard, executePaused, fullDuties, clearFaultCount,
      clearWindow]
  rw [executePlan_eq]
  split
  · simp
  · simpa using hentry (orderClear s)

theorem makePlan_codes (s : State) (valid : Bool) :
    (makePlan s valid).dwn.exh = s.dwn.exh ∧ (makePlan s valid).dwn.inl = s.dwn.inl := by
  have hact : ∀ v : State, (actOnPlan v).dwn.exh = v.dwn.exh ∧ (actOnPlan v).dwn.inl = v.dwn.inl := fun v => by
    unfold actOnPlan
    split
    case h_1 => simp
    case h_2 => simp
    case h_3 | h_4 => simp
    all_goals
      split
      · simp [enterPlanReady]
      · split
        · simp [enterPlanReady]
        · exact executePlan_codes v _
  unfold makePlan
  split
  · dsimp only
    unfold deliverPlan
    split
    · exact ⟨rfl, rfl⟩
    · refine ⟨(hact _).1.trans ?_, (hact _).2.trans ?_⟩ <;> unfold loadSource <;> split <;> rfl
  · exact ⟨rfl, rfl⟩

/-! ## Faults and the heater -/

theorem heaterWant_of_sensorFault (h : sensorFault s = true) : heaterWant s = 0 := by
  have hnot : heaterWanted s = false := by simp [heaterWanted, h]
  rw [heaterWant, hnot]
  rfl

theorem heaterWant_of_tripped (h : s.ost.tripped = true) : heaterWant s = 0 := by
  have hnot : heaterWanted s = false := by simp [heaterWanted, h]
  rw [heaterWant, hnot]
  rfl

theorem tripped_of_settled (h : Settled s t) : t.ost.tripped = s.ost.tripped := by
  have e : Safety.blur t = Safety.blur s := h
  exact congrArg (·.ost.tripped) e

/-- A ratio outside the band of the thermistor check that its flag does not show yet (R38, R48). -/
def TurnsBad (w : Nat) (f : ThermFault) : Prop := (w < 160 ∧ f ≠ .opened) ∨ (30000 < w ∧ f ≠ .short)

theorem TurnsBad.fault {w : Nat} {f : ThermFault} (h : TurnsBad w f) :
    faultAfter (some w) = (if w < 160 then .opened else .short) ∧ faultAfter (some w) ≠ .none ∧
    faultAfter (some w) ≠ f ∧ ∀ old, codeAfter old (some w) = old := by
  have hcode : ∀ old, codeAfter old (some w) = old := codeAfter_of_fault (by rcases h with h | h <;> omega)
  unfold faultAfter
  dsimp only
  rcases h with ⟨hw, hf⟩ | ⟨hw, hf⟩
  · rw [if_pos hw, if_pos hw]
    exact ⟨rfl, by decide, hf.symm, hcode⟩
  · have hnot : ¬ w < 160 := by omega
    rw [if_neg hnot, if_neg hnot, if_pos hw]
    exact ⟨rfl, by decide, hf.symm, hcode⟩

/-- An EXH thermistor turns OPEN or SHORT at its gate's end, whether or not a plan is made (R38, R44, R50). -/
theorem exh_turns_bad (h2 : s.scv.pair = 2) {w : Nat} (hbad : TurnsBad w s.scv.exhFault) (m : Bool) (count period : Nat) :
    let v := endMeasurement s m count period (some w)
    v.pnl.evFault = true ∧ v.scv.exhFault = (if w < 160 then .opened else .short) ∧ v.dwn.exh = s.dwn.exh := by
  obtain ⟨hfault, hne, hnew, hcode⟩ := hbad.fault
  have hraises : resultRaises s (some w) = true := by
    rw [resultRaises, if_pos h2, exhRaises, bne_iff_ne.2 hne, bne_iff_ne.2 hnew]
    rfl
  have hresult : (afterResult s m count period (some w)).scv.exhFault = faultAfter (some w) ∧
      (afterResult s m count period (some w)).dwn.exh = codeAfter s.dwn.exh (some w) := by
    unfold afterResult
    rw [if_pos h2]
    exact ⟨rfl, rfl⟩
  dsimp only
  rw [endMeasurement_eq, if_pos h2, hraises, makePlan_withFault]
  refine ⟨Bool.or_true _, ?_, ?_⟩
  · rw [← hfault, ← hresult.1]
    exact congrArg Converter.exhFault (makePlan_frame _ true).2.1
  · rw [← hcode s.dwn.exh, ← hresult.2]
    exact (makePlan_codes _ true).1

/-- A result of INL (R38, R50, R72). -/
theorem inl_result (h4 : s.scv.pair = 4) (m : Bool) (count period : Nat) (w : Option Nat) :
    let v := endMeasurement s m count period w
    (inlRaises s w = true → v.pnl.evFault = true) ∧ v.scv.inlFault = faultAfter w ∧ v.dwn.inl = codeAfter s.dwn.inl w ∧
    v.ost.tripped = tripAfter s.ost.tripped w := by
  have h2 : ¬ s.scv.pair = 2 := by rw [h4]; decide
  dsimp only
  rw [endMeasurement_eq, if_neg h2, resultRaises, if_neg h2, if_pos h4]
  unfold afterResult
  rw [if_neg h2, if_pos h4]
  refine ⟨fun hraises => ?_, rfl, rfl, rfl⟩
  rw [hraises]
  exact Bool.or_true _

end Sys2Proof.Machine

namespace Sys2Proof.Proofs

open Sys2Proof.Machine Sys2Proof.Safety

section
variable {s : State} {n : Nat} (hpow : s.mainPowered = true)
include hpow

/-- The end of a reference (R32, R44). -/
theorem refGateEnd_settles (h : s.scv.meas = .ref) :
    ∃ t, exec (.refGateEnd n) s = .next t ∧
      (refOk (gateCount n) = false → s.scv.refFault = false → t.pnl.evFault = true) ∧
      Settled (s.setScv { s.scv with meas := .gate, refValid := refOk (gateCount n), nRef := gateCount n,
                                     refFault := !refOk (gateCount n), gateTimer := 0 }) t := by
  have hset := finish_settled false s (refEnd s n)
  refine ⟨finish false s (refEnd s n), mainEvent_of_due hpow (decide_eq_true h), fun hok hold => finish_evFault _ _ ?_, ?_⟩
  · rw [refEnd_eq h n, hok, hold]
    exact Bool.or_true _
  · rw [refEnd_eq h n] at hset ⊢
    exact (withFault_settled _ _).trans hset

theorem sensorGateEnd_settles (h : s.scv.meas = .gate) :
    ∃ t, exec (.sensorGateEnd n) s = .next t ∧ t = finish false s (gateEnd s n) ∧ Settled (gateEnd s n) t :=
  ⟨_, mainEvent_of_due hpow (decide_eq_true h), rfl, finish_settled _ _ _⟩

/-- A row of a measurement with no planner waiting (R33 to R37). -/
theorem measured_settles {due : Bool} {body : State → State} (hdue : due = true) (hno : ¬ planWaits s) {m : Bool}
    {count period : Nat} {w : Option Nat} (hbody : body s = endMeasurement s m count period w) :
    ∃ t, mainEvent due false body s = .next t ∧ Settled (afterResult s m count period w) t := by
  obtain ⟨t, ht, hset⟩ := mainEvent_settled (ev := false) (body := body) hpow hdue
  rw [hbody, endMeasurement_of_no_plan hno] at hset
  exact ⟨t, ht, (withFault_settled _ _).trans hset⟩

end

/-- Settles O33: each ending of a measurement delivers its result, and a fault or a trip raises its event. -/
theorem sensorMeasurements : Obligations.SensorMeasurements := by
  unfold Obligations.SensorMeasurements
  intro s n hpow
  refine ⟨fun h => refGateEnd_settles hpow h, fun h hv hn => ?_, fun hno => ⟨fun h hv => ?_, fun h hv hn => ?_, fun h => ⟨?_, ?_⟩⟩,
    fun h hv hn => ?_⟩
  · obtain ⟨t, ht, -, hset⟩ := sensorGateEnd_settles (n := n) hpow h
    rw [gateEnd_of_few h hv hn] at hset
    exact ⟨t, ht, hset⟩
  · obtain ⟨t, ht, -, hset⟩ := sensorGateEnd_settles (n := n) hpow h
    have hbody : gateEnd s n = afterInvalid s := by
      rw [gateEnd_of_invalid h hv]
      by_cases h2 : s.scv.pair = 2
      · rw [if_pos h2, makePlan_stays (by exact fun hm => hno ⟨hm, h2⟩)]
      · rw [if_neg h2]
    rw [hbody] at hset
    exact ⟨t, ht, hset⟩
  · exact measured_settles hpow (decide_eq_true h) hno (gateEnd_of_count h hv hn)
  · exact measured_settles hpow (decide_eq_true h) hno (periodEnds_eq h n)
  · exact measured_settles hpow (decide_eq_true h) hno (periodExpires_eq h)
  · obtain ⟨t, ht, hfin, hset⟩ := sensorGateEnd_settles (n := n) hpow h
    have hbody := gateEnd_of_count h hv hn
    have hfault : (gateEnd s n).pnl.evFault = true → t.pnl.evFault = true := fun hev => by
      rw [hfin]
      exact finish_evFault _ _ hev
    rw [hbody] at hfault hset
    refine ⟨fun h2 hbad => ?_, fun h4 hbad => ?_, fun h4 hlow hhigh hcode htrip => ?_⟩
    · have hbadExh : TurnsBad (ratioOfCount (gateCount n) s.scv.nRef) s.scv.exhFault := hbad
      obtain ⟨hev, hexh, hdwn⟩ := exh_turns_bad h2 hbadExh false (gateCount n) 0
      refine ⟨t, ht, hfault hev, by rw [hset.scv]; exact hexh, by rw [hset.dwn]; exact hdwn, ?_⟩
      rw [heaterWant_of_settled hset]
      refine heaterWant_of_sensorFault ?_
      rw [sensorFault, hexh]
      split <;> simp
    · have hbadInl : TurnsBad (ratioOfCount (gateCount n) s.scv.nRef) s.scv.inlFault := hbad
      obtain ⟨hvalue, hne, hnew, hcode⟩ := hbadInl.fault
      obtain ⟨hev, hinl, hdwn, -⟩ := inl_result h4 false (gateCount n) 0 (some (ratioOfCount (gateCount n) s.scv.nRef))
      refine ⟨t, ht, hfault (hev ?_), by rw [hset.scv]; exact hinl.trans hvalue,
        by rw [hset.dwn]; exact hdwn.trans (hcode _), ?_⟩
      · rw [inlRaises, bne_iff_ne.2 hne, bne_iff_ne.2 hnew]
        rfl
      · rw [heaterWant_of_settled hset]
        refine heaterWant_of_sensorFault ?_
        rw [sensorFault, hinl, bne_iff_ne.2 hne, Bool.or_true]
    · have hgood : 160 ≤ ratioOfCount (gateCount n) s.scv.nRef ∧ ratioOfCount (gateCount n) s.scv.nRef ≤ 30000 :=
        ⟨hlow, hhigh⟩
      obtain ⟨hev, hinl, hdwn, htripped⟩ :=
        inl_result h4 false (gateCount n) 0 (some (ratioOfCount (gateCount n) s.scv.nRef))
      have htrips : tripAfter s.ost.tripped (some (ratioOfCount (gateCount n) s.scv.nRef)) = true := by
        rw [tripAfter, if_pos hgood, htrip]
        exact decide_eq_true hcode
      refine ⟨t, ht, hfault (hev ?_), by rw [tripped_of_settled hset]; exact htripped.trans htrips,
        by rw [hset.dwn]; exact hdwn.trans (codeAfter_of_good hgood _), ?_⟩
      · rw [inlRaises, htrips, htrip]
        exact Bool.or_true _
      · rw [heaterWant_of_settled hset]
        exact heaterWant_of_tripped (htripped.trans htrips)

end Sys2Proof.Proofs
end

section
/-! PROOFS. A plan made in LOSS, whose execution leaves LOSS by the dropped RESUME record (R20, R24, R100, R106). -/

namespace Sys2Proof.Machine

/-- The kept record of a guard with nothing left. -/
def spentGuard : Record :=
  { sequence := 1, stamp := 0, kind := .phase, endReason := .none, cyc := { Sequencer.reset.cyc with cycleId := 1, phase := .guard },
    exh := 0, inl := 0, desc := Sequencer.reset.desc }

/-- A planner that waits for its EXH pair in LOSS, with *mains back* noted and JOURNAL_FAULT set: the plan executed at the
pair's end requests a RESUME record, whose dropping is reported done, by which LOSS is left for PLANNING and the planner
discards the plan just made. -/
def planningInLoss : State :=
  { State.reset with
    mainPowered := true,
    csq := { Sequencer.reset with state := .loss, mainsBack := true },
    scv := { Converter.reset with meas := .gate, pair := 2, refValid := false },
    ost := { Output.reset with doorOpen := false },
    hdm := { State.reset.hdm with powered := true, clockLost := false, doorLatch := false },
    pjr := { Journal.reset with newest := some spentGuard, activeFound := true, fault := true },
    rpl := { Planner.reset with state := .making },
    settings := { State.reset.settings with autoResume := true } }

theorem planningInLoss_discards : (exhEnds planningInLoss (.gate 0)).rpl.state = .making := by decide

end Sys2Proof.Machine

namespace Sys2Proof.Proofs

open Sys2Proof.Machine Sys2Proof.Safety

/-- Refutes O35: made in LOSS, the plan of a guard with nothing left is discarded by its own execution, while the statement
asks that every plan stands made after its row, whatever state the sequencer is in. -/
theorem not_planMade : ¬ Obligations.PlanMade := by
  unfold Obligations.PlanMade
  intro h
  obtain ⟨t, ht, -, hmade, -⟩ := h planningInLoss (afterInvalid planningInLoss) (.gate 0) false rfl ⟨rfl, rfl⟩
    ⟨rfl, .inl ⟨rfl, rfl, rfl⟩⟩
  obtain ⟨u, hu, hset⟩ := mainEvent_settled (s := planningInLoss) (due := planDue planningInLoss (.gate 0)) (ev := false)
    (body := (exhEnds · (.gate 0))) rfl rfl
  have htu : t = u := by
    have hnext : Host.Outcome.next t = Host.Outcome.next u := ht.symm.trans hu
    injection hnext
  have hmaking : t.rpl.state = .making := by
    rw [htu, hset.rpl]
    exact planningInLoss_discards
  exact absurd (hmade.symm.trans hmaking) (by decide)

end Sys2Proof.Proofs
end

section
/-! PROOFS. The strap phase (R40, R41, R43). -/

namespace Sys2Proof.Machine

open Safety (Settled)

variable {s t : State}

/-! ## The straps settled -/

/-- The station id of two strap levels (R43). -/
def idOf : Option Nat → Option Nat → Nat
  | some x, some y => if 8 * x + y ≤ 31 then 8 * x + y else 0
  | _, _ => 0

/-- STRAP_FAULT of two strap levels (R43). -/
def strapsBad : Option Nat → Option Nat → Bool
  | some x, some y => decide (31 < 8 * x + y)
  | _, _ => true

theorem stationOf_eq (a b : Option Nat) : stationOf a b = (idOf a b, strapsBad a b) := by
  unfold stationOf idOf strapsBad
  cases a with
  | none => rfl
  | some x =>
    cases b with
    | none => rfl
    | some y =>
      dsimp only
      rw [Nat.mul_comm x 8]
      by_cases h : 8 * x + y ≤ 31
      · rw [if_pos h, if_pos h, decide_eq_false (by omega)]
      · rw [if_neg h, if_neg h, decide_eq_true (by omega)]

theorem strapDone_eq (s : State) (levels : List (Option Nat)) : strapDone s levels =
    let c := s.scv.settleStraps levels
    let v := withFault ((s.setScv c).setPlp { s.plp with lfsr := lfsrSeed s.pjr.serial c.stationId }) c.strapFault
    if s.pnl.setupDone && c.stationId = 0 then isolate v .noId else v := by
  unfold strapDone
  dsimp only
  rw [ite_raiseFault]
  rfl

theorem isolate_evFault (s : State) (c : IsoCause) : (isolate s c).pnl.evFault = s.pnl.evFault := by
  have hcover : ∀ (v : State) (b : Bool) (k : CoverStep), (coverIf v b k).pnl = v.pnl := fun v b k => by
    unfold coverIf
    split
    · cases k <;> rfl
    · rfl
  have hpending : ∀ v : State, (coverPending v).pnl = v.pnl := fun v => by
    unfold coverPending
    rw [hcover, hcover, hcover]
  unfold isolate
  split
  · rfl
  · rfl
  · rw [raiseLine, State.setPnl_pnl, hpending]
    rfl

/-- The end of the strap phase (R43, R44, R157, R179). -/
theorem strapDone_settled (s : State) (levels : List (Option Nat)) :
    let c := s.scv.settleStraps levels
    let alone := s.pnl.setupDone && c.stationId = 0
    (c.strapFault = true → (strapDone s levels).pnl.evFault = true) ∧
    Settled { s with
      scv := c, plp := { s.plp with lfsr := lfsrSeed s.pjr.serial c.stationId },
      fsu := { s.fsu with isolated := if alone then some .noId else s.fsu.isolated },
      pnl := { s.pnl with evLine := s.pnl.evLine || (alone && s.fsu.isolated.isNone) } } (strapDone s levels) := by
  rw [strapDone_eq]
  dsimp only
  cases halone : s.pnl.setupDone && decide ((s.scv.settleStraps levels).stationId = 0)
  · refine ⟨fun hbad => ?_, ?_⟩
    · rw [if_neg (by decide), hbad]
      exact Bool.or_true _
    · simp only [Bool.false_eq_true, if_false, Bool.false_and, Bool.or_false]
      exact withFault_settled _ _
  · refine ⟨fun hbad => ?_, ?_⟩
    · rw [if_pos rfl, isolate_evFault, hbad]
      exact Bool.or_true _
    · have hset := isolate_settled (withFault ((s.setScv (s.scv.settleStraps levels)).setPlp
        { s.plp with lfsr := lfsrSeed s.pjr.serial (s.scv.settleStraps levels).stationId })
        (s.scv.settleStraps levels).strapFault) .noId
      rw [ite_self] at hset
      simp only [if_true, Bool.true_and]
      exact hset

/-- The converter with its straps settled from the levels of two passes (R43). -/
theorem settleStraps_eq (c : Converter) (a b d e : Option Nat) : c.settleStraps [a, b, d, e] = { c with
    meas := .ref, pair := 1, attempt := 1, refValid := false, gateTimer := 0, passLevels := [a, b, d, e],
    levelA := agreedLevel a d, levelB := agreedLevel b e, stationId := idOf (agreedLevel a d) (agreedLevel b e),
    strapFault := strapsBad (agreedLevel a d) (agreedLevel b e), strapDone := true } := by
  unfold Converter.settleStraps
  simp only [List.getD_cons_zero, List.getD_cons_succ, stationOf_eq]

theorem lfsrSeed_eq (serial id : Nat) : lfsrSeed serial id =
    if BitVec.ofNat 16 serial ^^^ BitVec.ofNat 16 (2053 * id) = 0 then 1
    else BitVec.ofNat 16 serial ^^^ BitVec.ofNat 16 (2053 * id) := by
  rw [lfsrSeed, Nat.mul_comm id]

/-! ## The rows -/

/-- The level that a strap measurement gives (R40, R42). -/
def levelOf (s : State) (n : Nat) : Option Nat :=
  if s.scv.refValid && 64 ≤ gateCount n then strapLevel (ratioOfCount (gateCount n) s.scv.nRef) else none

theorem strapRefEnd_eq (h : s.scv.meas = .strapRef) (n : Nat) : strapRefEnd s n =
    s.setScv { s.scv with meas := .strapGate, refValid := refOk (gateCount n), nRef := gateCount n, gateTimer := 0 } :=
  if_pos h

theorem strapEnd_of_retaken (h : s.scv.meas = .strapGate) (hv : s.scv.refValid = false) (ha : s.scv.attempt < 3) (n : Nat) :
    strapEnd s n = s.setScv { s.scv with meas := .strapRef, attempt := s.scv.attempt + 1, gateTimer := 0 } := by
  unfold strapEnd
  rw [if_pos h]
  dsimp only
  rw [if_neg (by rw [hv]; decide), if_pos ha]
  unfold Converter.strapNext
  rw [← hv]

theorem strapEnd_of_ended (h : s.scv.meas = .strapGate) (he : s.scv.refValid = true ∨ 3 ≤ s.scv.attempt) (n : Nat) :
    strapEnd s n = strapPairEnd s (levelOf s n) := by
  unfold strapEnd levelOf
  rw [if_pos h]
  dsimp only
  cases hv : s.scv.refValid
  · have ha : ¬ s.scv.attempt < 3 := Nat.not_lt.2 (he.resolve_left (by rw [hv]; decide))
    rw [if_neg (by decide), if_neg ha, Bool.false_and, if_neg (by decide)]
  · rw [if_pos rfl, Bool.true_and]
    by_cases hn : gateCount n < 64
    · rw [if_pos hn, if_neg (by simpa using hn)]
    · rw [if_neg hn, if_pos (by simpa using hn)]

end Sys2Proof.Machine

namespace Sys2Proof.Proofs

open Sys2Proof.Machine Sys2Proof.Safety

/-- STRAP_GATE_END, settled. -/
theorem strapGateEnd_settles {s : State} (n : Nat) (hpow : s.mainPowered = true) (h : s.scv.meas = .strapGate) :
    ∃ t, exec (.strapGateEnd n) s = .next t ∧ ((strapEnd s n).pnl.evFault = true → t.pnl.evFault = true) ∧
      Settled (strapEnd s n) t :=
  ⟨_, exec_strapGateEnd_due n hpow h, finish_evFault _ _, finish_settled _ _ _⟩

/-- Settles O32, by the part of the strap phase that ends. -/
theorem strapPhase : Obligations.StrapPhase := by
  unfold Obligations.StrapPhase
  intro s n hpow
  refine ⟨fun h => ?_, fun h hv ha => ?_, fun h he hpair => ?_, fun a b d h he hpair hlevels => ?_⟩
  · exact (quietEvent_of_due hpow (decide_eq_true h)).trans (congrArg _ (strapRefEnd_eq h n))
  · obtain ⟨t, ht, -, hset⟩ := strapGateEnd_settles n hpow h
    rw [strapEnd_of_retaken h hv ha] at hset
    exact ⟨t, ht, hset⟩
  · obtain ⟨t, ht, -, hset⟩ := strapGateEnd_settles n hpow h
    rw [strapEnd_of_ended h he, strapPairEnd, if_pos hpair] at hset
    exact ⟨t, ht, hset⟩
  · intro la lb id bad seed alone
    obtain ⟨t, ht, hev, hset⟩ := strapGateEnd_settles n hpow h
    have hbody : strapEnd s n = strapDone s [a, b, d, levelOf s n] := by
      rw [strapEnd_of_ended h he, strapPairEnd, if_neg (by omega), hlevels]
      rfl
    obtain ⟨hfault, hdone⟩ := strapDone_settled s [a, b, d, levelOf s n]
    rw [settleStraps_eq, lfsrSeed_eq, ← hbody] at hdone
    rw [settleStraps_eq, ← hbody] at hfault
    exact ⟨t, ht, fun hbad => hev (hfault hbad), hdone.trans hset⟩

end Sys2Proof.Proofs
end

section
/-! PROOFS. A zero crossing as the Output Stage takes it (R64 to R67, R71, R74 to R77, R81, R85). -/

namespace Sys2Proof.Machine

open Safety (Settled stopsNow startsNow firesNow conducts1 conducts2 motorHalted startReleased motorCrossed crossed crossedDark
  crossedLit relaysDropped positionAfter)

variable {s t u : State}

/-! ## The relays and the motor -/

theorem railDropEnd_eq (s : State) : railDropEnd s = { s with ost := relaysDropped s.ost } := by
  unfold railDropEnd relaysDropped
  split
  · rw [drop_eq]
    rfl
  · rfl

theorem motorStops_eq (s : State) : motorStops s = stopsNow s := rfl

theorem stopMotor_openRelay (o : Output) : o.stopMotor.openRelay = motorHalted o := by
  unfold Output.openRelay Output.stopMotor motorHalted
  dsimp only
  split
  case isTrue hrelay => rfl
  case isFalse hrelay => rw [Bool.eq_false_iff.2 hrelay]

theorem crossMotorStop_eq (s : State) : crossMotorStop s =
    if stopsNow s then { s with ost := motorHalted s.ost, fsu := startReleased s } else s := by
  unfold crossMotorStop
  rw [motorStops_eq]
  split
  · dsimp only
    rw [stopMotor_openRelay]
    unfold releaseStart startReleased
    split <;> rfl
  · rfl

theorem motorStarts_of_present (h : s.mwt.state = .present) : motorStarts s = startsNow s := by
  unfold motorStarts startsNow
  rw [decide_eq_true h, Bool.and_true]

theorem motorStarts_of_dark (h : s.mwt.state ≠ .present) : motorStarts s = false := by
  unfold motorStarts
  rw [decide_eq_false h, Bool.and_false]
  simp

theorem crossMotorStart_eq (s : State) : crossMotorStart s =
    if motorStarts s then
      { s with ost := { s.ost with reverse := s.csq.state = .guard && s.settings.reverseFitted && !s.ost.reverse,
                                   runRelay := true, motor := .starting, startWindow := some 3000000 } }
    else s := by
  have hdirection : startDirection s = (s.csq.state = .guard && s.settings.reverseFitted && !s.ost.reverse) := by
    unfold startDirection
    cases decide (s.csq.state = .guard) && s.settings.reverseFitted <;> rfl
  unfold crossMotorStart
  rw [hdirection]
  rfl

/-! ## The position -/

/-- The Output Stage with the position moved and the duties of a boundary loaded (R64, R67, R68). -/
def moved (s : State) : Output :=
  let d := regulate s (s.ost.stage1.pending, s.ost.stage2.pending)
  if s.pnl.setupDone then
    (if positionAfter s = 0 then
      { s.ost with position := 0, positioned := true,
                   stage1 := { s.ost.stage1 with active := s.ost.stage1.pending, pending := d.1 },
                   stage2 := { s.ost.stage2 with active := s.ost.stage2.pending, pending := d.2 } }
    else { s.ost with position := positionAfter s })
  else s.ost

theorem positioned_of_positionAfter (h : positionAfter s ≠ 0) : s.ost.positioned = true := by
  unfold positionAfter at h
  refine Classical.byContradiction fun hp => ?_
  exact h (if_neg fun hand => hp hand.1)

theorem modulates_of_present (h : s.mwt.state = .present) : modulates s = s.pnl.setupDone := by
  rw [modulates, decide_eq_true h, Bool.true_and]

theorem advancePosition_of_present (h : s.mwt.state = .present) : advancePosition s = { s with ost := moved s } := by
  unfold advancePosition moved
  rw [modulates_of_present h, nextPosition_eq]
  cases hs : s.pnl.setupDone
  · rfl
  · rw [if_pos rfl, if_pos rfl]
    by_cases hz : positionAfter s = 0
    · rw [if_pos hz, if_pos hz, hz]
      rfl
    · rw [if_neg hz, if_neg hz, ← positioned_of_positionAfter hz]
      rfl

theorem advancePosition_of_dark (h : s.mwt.state ≠ .present) : advancePosition s = s :=
  if_neg (by rw [modulates, decide_eq_false h, Bool.false_and]; decide)

/-! ## A crossing outside PRESENT -/

theorem conducts_of_dark (h : s.mwt.state ≠ .present) : conducts s = (false, false) := by
  unfold conducts
  simp [modulates, h]

/-- A crossing outside PRESENT (R81, R85). -/
theorem crossing_of_dark (h : s.mwt.state ≠ .present) : Settled (crossedDark s) (crossing s) := by
  have hdrop : (railDropEnd s).mwt.state ≠ .present := by
    rw [railDropEnd_eq]
    exact h
  have hcond : ∀ v : State, v.mwt.state ≠ .present → ∀ b, crossStages v b = { v with ost := { v.ost with
      stage1 := { (moveStage v 1 v.fsu.stage1 b v.ost.stage1) with on := false },
      stage2 := { (moveStage v 2 v.fsu.stage2 b v.ost.stage2) with on := false } } } := fun v hv b => by
    unfold crossStages setConduction
    rw [conducts_of_dark (by exact hv)]
    simp only [Bool.or_false]
    rfl
  rw [crossing_eq, advancePosition_of_dark hdrop, crossMotorStop_eq, railDropEnd_eq]
  unfold crossedDark
  dsimp only
  by_cases hstop : stopsNow { s with ost := relaysDropped s.ost } = true
  · rw [if_pos hstop, if_pos hstop, hcond _ (by exact h), crossMotorStart_eq, if_neg (by rw [motorStarts_of_dark (by exact h)]; decide)]
    unfold startReleased
    split <;> rfl
  · rw [if_neg hstop, if_neg hstop, hcond _ (by exact h), crossMotorStart_eq, if_neg (by rw [motorStarts_of_dark (by exact h)]; decide)]
    rfl

/-! ## A crossing in PRESENT -/

/-- No hold-off reason stands in PRESENT (R65). -/
theorem no_reason_of_present (h : s.mwt.state = .present) (step : StepState) : (holdOff s step).any = false ↔
    step = .cover ∧ s.ost.motor = .running ∧ s.ost.doorOpen = false ∧ s.ost.airHold = false ∧ s.ost.tripped = false ∧
    sensorFault s = false := by
  simp [holdOff, HoldOff.any, h, and_assoc]

/-- The state that a stage reaches at a crossing is FIRING where it is asked for, no reason stands, and the crossing is a
boundary or it fired before and has not been told to leave (R65). -/
theorem movedState_firing_iff {b : Bool} {k : Nat} {step : StepState} {x : Stage} : movedState s k step b x = .firing ↔
    askedFor s k = true ∧ (holdOff s step).any = false ∧ (b = true ∨ x.leaves = false ∧ x.state = .firing) := by
  unfold movedState
  cases askedFor s k with
  | false => simp
  | true =>
    cases (holdOff s step).any with
    | true => simp
    | false => cases b <;> cases x.leaves <;> simp

/-- A state with the position moved and the motor stopped where it stops, as a crossing in PRESENT leaves it before the
stages. -/
def halted (w : State) : State :=
  if stopsNow w then { w with ost := motorHalted (moved w), fsu := startReleased w } else { w with ost := moved w }

theorem moved_rest (w : State) :
    (moved w).motor = w.ost.motor ∧ (moved w).stopDue = w.ost.stopDue ∧ (moved w).doorOpen = w.ost.doorOpen ∧
    (moved w).airHold = w.ost.airHold ∧ (moved w).tripped = w.ost.tripped ∧ (moved w).coast = w.ost.coast ∧
    (moved w).runRelay = w.ost.runRelay ∧ (moved w).reverse = w.ost.reverse := by
  unfold moved
  dsimp only
  split
  · split <;> exact ⟨rfl, rfl, rfl, rfl, rfl, rfl, rfl, rfl⟩
  · exact ⟨rfl, rfl, rfl, rfl, rfl, rfl, rfl, rfl⟩

theorem crossMotorStop_moved (w : State) : crossMotorStop { w with ost := moved w } = halted w := by
  obtain ⟨hmotor, hstop, -⟩ := moved_rest w
  have hstops : stopsNow { w with ost := moved w } = stopsNow w := by
    unfold stopsNow
    rw [hmotor, hstop]
  have hstart : startReleased { w with ost := moved w } = startReleased w := by
    unfold startReleased
    rw [hmotor]
  rw [crossMotorStop_eq, hstops, hstart]
  rfl

theorem atBoundary_of_lit (h : s.mwt.state = .present) : atBoundary s = (s.pnl.setupDone && positionAfter s = 0) := by
  rw [atBoundary, modulates_of_present h, nextPosition_eq]

theorem halted_fires {w : State} (h : w.mwt.state = .present) (k : Nat) (step : StepState) (x : Stage) :
    movedState (halted w) k step (atBoundary w) x = .firing ↔ firesNow w k step x = true := by
  obtain ⟨hmotor, -, hdoor, hair, htrip, -⟩ := moved_rest w
  have hpresent : (halted w).mwt.state = .present := by
    unfold halted
    split <;> exact h
  have hasked : askedFor (halted w) k = askedFor w k := by
    unfold halted
    split <;> rfl
  have hsensor : sensorFault (halted w) = sensorFault w := by
    unfold halted
    split <;> rfl
  rw [movedState_firing_iff, no_reason_of_present hpresent, hasked, hsensor, atBoundary_of_lit h]
  unfold firesNow halted
  cases hstops : stopsNow w
  · simp only [Bool.false_eq_true, if_false, hmotor, hdoor, hair, htrip, askedFor, Bool.and_eq_true, Bool.or_eq_true,
      decide_eq_true_eq, Bool.not_eq_true', Bool.not_false, and_true]
    rw [or_comm, and_comm (a := x.leaves = false)]
    simp only [and_assoc]
  · simp [motorHalted]

/-- The stages moved at a crossing in PRESENT, before their conduction. -/
def stagesMoved (w : State) : State :=
  (halted w).setOst { (halted w).ost with
    stage1 := moveStage (halted w) 1 w.fsu.stage1 (atBoundary w) (halted w).ost.stage1,
    stage2 := moveStage (halted w) 2 w.fsu.stage2 (atBoundary w) (halted w).ost.stage2 }

theorem crossStages_halted (w : State) : crossStages (halted w) (atBoundary w) = setConduction (stagesMoved w) := by
  have h1 : (halted w).fsu.stage1 = w.fsu.stage1 := by
    unfold halted startReleased
    split
    · split <;> rfl
    · rfl
  have h2 : (halted w).fsu.stage2 = w.fsu.stage2 := by
    unfold halted startReleased
    split
    · split <;> rfl
    · rfl
  unfold crossStages stagesMoved
  rw [h1, h2]

/-- What decides the conduction of a stage stands in the moved Output Stage (R64, R67). -/
theorem halted_modulation {w : State} (hs : w.pnl.setupDone = true) :
    (halted w).ost.position = positionAfter w ∧
    (halted w).ost.stage1.active = (if positionAfter w = 0 then w.ost.stage1.pending else w.ost.stage1.active) ∧
    (halted w).ost.stage2.active = (if positionAfter w = 0 then w.ost.stage2.pending else w.ost.stage2.active) := by
  have hmoved : (moved w).position = positionAfter w ∧
      (moved w).stage1.active = (if positionAfter w = 0 then w.ost.stage1.pending else w.ost.stage1.active) ∧
      (moved w).stage2.active = (if positionAfter w = 0 then w.ost.stage2.pending else w.ost.stage2.active) := by
    unfold moved
    dsimp only
    rw [if_pos hs]
    by_cases hz : positionAfter w = 0
    · rw [if_pos hz, if_pos hz, if_pos hz, hz]
      exact ⟨rfl, rfl, rfl⟩
    · rw [if_neg hz, if_neg hz, if_neg hz]
      exact ⟨rfl, rfl, rfl⟩
  unfold halted
  split <;> exact hmoved

/-- What a crossing leaves of a stage for its move: its state and its mark (R65). -/
theorem halted_stages (w : State) :
    ((halted w).ost.stage1.state = w.ost.stage1.state ∧ (halted w).ost.stage1.leaves = w.ost.stage1.leaves) ∧
    ((halted w).ost.stage2.state = w.ost.stage2.state ∧ (halted w).ost.stage2.leaves = w.ost.stage2.leaves) := by
  have hmoved : ((moved w).stage1.state = w.ost.stage1.state ∧ (moved w).stage1.leaves = w.ost.stage1.leaves) ∧
      ((moved w).stage2.state = w.ost.stage2.state ∧ (moved w).stage2.leaves = w.ost.stage2.leaves) := by
    unfold moved
    dsimp only
    split
    · split <;> exact ⟨⟨rfl, rfl⟩, rfl, rfl⟩
    · exact ⟨⟨rfl, rfl⟩, rfl, rfl⟩
  unfold halted
  split <;> exact hmoved

theorem movedState_congr {v : State} {k : Nat} {step : StepState} {b : Bool} {x y : Stage} (hs : x.state = y.state)
    (hl : x.leaves = y.leaves) : movedState v k step b x = movedState v k step b y := by
  unfold movedState
  rw [hs, hl]

theorem stagesMoved_fires {w : State} (h : w.mwt.state = .present) :
    ((stagesMoved w).ost.stage1.state = .firing ↔ firesNow w 1 w.fsu.stage1 w.ost.stage1 = true) ∧
    ((stagesMoved w).ost.stage2.state = .firing ↔ firesNow w 2 w.fsu.stage2 w.ost.stage2 = true) := by
  obtain ⟨⟨h1, h1'⟩, h2, h2'⟩ := halted_stages w
  rw [← halted_fires h, ← halted_fires h, ← movedState_congr h1 h1', ← movedState_congr h2 h2']
  exact ⟨Iff.rfl, Iff.rfl⟩

/-- The conduction of the half-cycle that a crossing in PRESENT begins (R66). -/
theorem conducts_stagesMoved {w : State} (h : w.mwt.state = .present) :
    conducts (stagesMoved w) = (conducts1 w, conducts2 w) := by
  obtain ⟨hf1, hf2⟩ := stagesMoved_fires h
  have hmod : modulates (stagesMoved w) = w.pnl.setupDone := by
    have hpresent : (stagesMoved w).mwt.state = .present ∧ (stagesMoved w).pnl = w.pnl := by
      unfold stagesMoved halted
      split <;> exact ⟨h, rfl⟩
    rw [modulates_of_present hpresent.1, hpresent.2]
  have hset : (stagesMoved w).settings = w.settings := by
    unfold stagesMoved halted
    split <;> rfl
  have hfire1 := Bool.eq_iff_iff.2 (decide_eq_true_iff.trans hf1)
  have hfire2 := Bool.eq_iff_iff.2 (decide_eq_true_iff.trans hf2)
  unfold conducts conducts1 conducts2
  rw [hmod, hset, hfire1, hfire2]
  cases hs : w.pnl.setupDone
  · rfl
  · obtain ⟨hpos, ha1, ha2⟩ := halted_modulation hs
    rw [← ha1, ← ha2, ← hpos]
    rfl

/-- The stages at a crossing in PRESENT, moved and conducting (R65, R66). -/
def stagesCrossed (w : State) : State :=
  { stagesMoved w with
    csq := { w.csq with fired := w.csq.fired || conducts1 w || conducts2 w },
    ost := { (stagesMoved w).ost with stage1 := { (stagesMoved w).ost.stage1 with on := conducts1 w },
                                      stage2 := { (stagesMoved w).ost.stage2 with on := conducts2 w } } }

theorem setConduction_stagesMoved {w : State} (h : w.mwt.state = .present) :
    setConduction (stagesMoved w) = stagesCrossed w := by
  have hcsq : (stagesMoved w).csq = w.csq := by
    unfold stagesMoved halted
    split <;> rfl
  unfold setConduction stagesCrossed
  rw [conducts_stagesMoved h, ← hcsq]
  rfl

/-- The motor starts after the stages have moved as it would before them (R74). -/
theorem startsNow_stagesCrossed (w : State) : startsNow (stagesCrossed w) =
    startsNow (if stopsNow w then { w with ost := motorHalted w.ost, fsu := startReleased w } else w) := by
  obtain ⟨hmotor, -, hdoor, -, -, hcoast, hrelay, -⟩ := moved_rest w
  unfold stagesCrossed stagesMoved halted
  cases hstops : stopsNow w
  · simp only [Bool.false_eq_true, if_false]
    unfold startsNow
    simp only [State.setOst, hmotor, hdoor, hcoast, hrelay]
    rfl
  · simp only [if_true]
    unfold startsNow
    simp only [State.setOst, motorHalted, hdoor, hcoast, hrelay]
    rfl

theorem crossing_of_present {v : State} (h : v.mwt.state = .present) : crossing v =
    crossMotorStart (stagesCrossed { v with ost := relaysDropped v.ost }) := by
  have hw : ({ v with ost := relaysDropped v.ost } : State).mwt.state = .present := h
  rw [crossing_eq, railDropEnd_eq, advancePosition_of_present hw, crossMotorStop_moved, crossStages_halted,
    setConduction_stagesMoved hw]

/-- The Output Stage but for the states of its stages, after the stages and the motor have crossed. -/
theorem crossMotorStart_settled {w : State} (h : w.mwt.state = .present) :
    Settled (crossed w) (crossMotorStart (stagesCrossed w)) := by
  have hpresent : (stagesCrossed w).mwt.state = .present := by
    unfold stagesCrossed stagesMoved halted
    split <;> exact h
  rw [crossMotorStart_eq, motorStarts_of_present hpresent, startsNow_stagesCrossed]
  unfold crossed motorCrossed stagesCrossed stagesMoved halted moved
  dsimp only
  by_cases hs : w.pnl.setupDone = true <;> by_cases hz : positionAfter w = 0
  all_goals
    cases hstops : stopsNow w
    · simp only [hs, hz, Bool.false_eq_true, if_true, if_false]
      split <;> rfl
    · simp only [hs, hz, Bool.false_eq_true, if_true, if_false]
      unfold startReleased
      split <;> split <;> rfl

/-! ## The states of the stages after the event -/

theorem followStage_state (s : State) (k : Nat) (step : StepState) (x : Stage) :
    (followStage s k step x).state = (syncStage (askedFor s k) x).state := by
  unfold followStage
  dsimp only
  split <;> rfl

theorem syncStage_firing_iff {asked : Bool} {x : Stage} : (syncStage asked x).state = .firing ↔ x.state = .firing := by
  unfold syncStage
  cases hx : x.state <;> cases asked <;> simp [hx]

theorem syncStage_off_iff {asked : Bool} {x : Stage} (h : asked = false → x.state = .off) :
    (syncStage asked x).state = .off ↔ asked = false := by
  cases asked with
  | false => simp [syncStage, h rfl]
  | true =>
    unfold syncStage
    cases hx : x.state <;> simp [hx]

/-- A crossing in PRESENT leaves each stage FIRING where R65 says so, and OFF where it is not asked for. -/
theorem crossed_stages {v : State} (h : v.mwt.state = .present) (s0 : State) :
    let u := { v with ost := relaysDropped v.ost }
    let t := finish false s0 (crossing v)
    (t.ost.stage1.state = .firing ↔ firesNow u 1 v.fsu.stage1 v.ost.stage1 = true) ∧
    (t.ost.stage2.state = .firing ↔ firesNow u 2 v.fsu.stage2 v.ost.stage2 = true) ∧
    (t.ost.stage1.state = .off ↔ askedFor v 1 = false) ∧ (t.ost.stage2.state = .off ↔ askedFor v 2 = false) := by
  intro u t
  have hfollows : t.ost.follows = (syncOutputs (crossing v)).ost.follows := finish_follows false s0 (crossing v)
  simp only [Output.follows, Prod.mk.injEq] at hfollows
  obtain ⟨-, h1, h2⟩ := hfollows
  have hstart : (crossing v).ost.stage1.state = (stagesMoved u).ost.stage1.state ∧
      (crossing v).ost.stage2.state = (stagesMoved u).ost.stage2.state ∧
      (crossing v).csq.state = v.csq.state ∧ (crossing v).csq.desc = v.csq.desc := by
    rw [crossing_of_present h, crossMotorStart_eq]
    split <;> exact ⟨rfl, rfl, rfl, rfl⟩
  obtain ⟨hs1, hs2, hstate, hdesc⟩ := hstart
  have hasked : ∀ k, askedFor (crossing v) k = askedFor v k := fun k => by rw [askedFor, askedFor, hstate, hdesc]
  have hdropped : u.ost.stage1.state = v.ost.stage1.state ∧ u.ost.stage1.leaves = v.ost.stage1.leaves ∧
      u.ost.stage2.state = v.ost.stage2.state ∧ u.ost.stage2.leaves = v.ost.stage2.leaves := by
    dsimp only [u]
    unfold relaysDropped
    split <;> exact ⟨rfl, rfl, rfl, rfl⟩
  have hfires : ∀ k step (x y : Stage), x.state = y.state → x.leaves = y.leaves → firesNow u k step x = firesNow u k step y :=
    fun k step x y hx hl => by
      unfold firesNow
      rw [hx, hl]
  obtain ⟨hf1, hf2⟩ := stagesMoved_fires (w := u) h
  have hoff : ∀ k step b x, askedFor v k = false → movedState (halted u) k step b x = .off := fun k step b x hk => by
    have hasked : askedFor (halted u) k = false := by
      rw [← hk]
      unfold halted
      split <;> rfl
    rw [movedState, hasked]
    rfl
  have ht1 : t.ost.stage1.state = (syncStage (askedFor v 1) (crossing v).ost.stage1).state := by
    rw [h1, ← hasked]
    exact followStage_state _ _ _ _
  have ht2 : t.ost.stage2.state = (syncStage (askedFor v 2) (crossing v).ost.stage2).state := by
    rw [h2, ← hasked]
    exact followStage_state _ _ _ _
  rw [ht1, ht2, syncStage_firing_iff, syncStage_firing_iff, hs1, hs2]
  refine ⟨hf1.trans ?_, hf2.trans ?_, syncStage_off_iff fun hk => ?_, syncStage_off_iff fun hk => ?_⟩
  · rw [hfires 1 _ _ _ hdropped.1 hdropped.2.1]
  · rw [hfires 2 _ _ _ hdropped.2.2.1 hdropped.2.2.2]
  · rw [hs1]
    exact hoff _ _ _ _ hk
  · rw [hs2]
    exact hoff _ _ _ _ hk

/-! ## The edge -/

theorem edgeRejected_eq_true {us : Nat} (h : ¬ Safety.accepts s us) : edgeRejected s us = true := by
  refine Classical.byContradiction fun hr => ?_
  refine h ?_
  rw [Bool.not_eq_true, edgeRejected, edgeInterval, blankingUs, Bool.and_eq_false_iff, decide_eq_false_iff_not,
    Nat.not_le] at hr
  exact hr

theorem edgeEvent_accepted {due : Bool} {us : Nat} (hpow : s.mainPowered = true) (hdue : due = true)
    (hacc : Safety.accepts s us) : edgeEvent due us s = .next (finish false s (crossing (mainsEdge s us))) := by
  have hrej := edgeRejected_eq_false hacc
  unfold edgeEvent edge
  rw [hpow, hdue, hrej]
  rfl

theorem edgeEvent_rejected {us : Nat} (hpow : s.mainPowered = true) (hnot : ¬ Safety.accepts s us) :
    edgeEvent true us s = .next (rejectEdge s us) := by
  unfold edgeEvent
  rw [hpow, edgeRejected_eq_true hnot]
  rfl

theorem acceptEdge_eq (s : State) (us : Nat) : acceptEdge s us = s.setMwt (Safety.edgeRecorded s us) := rfl

end Sys2Proof.Machine

namespace Sys2Proof.Proofs

open Sys2Proof.Machine Sys2Proof.Safety

/-- Settles O38: a rejected edge is counted, and an accepted one is the crossing and what settles after it. -/
theorem crossingInPresent : Obligations.CrossingInPresent := by
  unfold Obligations.CrossingInPresent
  refine fun s us hpow => ⟨fun hnot => ?_, fun hacc hstate => ?_⟩
  · exact edgeEvent_rejected hpow hnot
  · have hexec := edgeEvent_accepted (due := true) hpow rfl hacc
    rw [mainsEdge_present us hstate, acceptEdge_eq] at hexec
    obtain ⟨hf1, hf2, ho1, ho2⟩ := crossed_stages (v := s.setMwt (edgeRecorded s us)) hstate s
    refine ⟨_, hexec, ?_, hf1, hf2, ho1, ho2, fun hsetup hpos => ?_⟩
    · have hset := finish_settled false s (crossing (s.setMwt (edgeRecorded s us)))
      rw [crossing_of_present (v := s.setMwt (edgeRecorded s us)) hstate] at hset ⊢
      exact (crossMotorStart_settled (w := { s.setMwt (edgeRecorded s us) with ost := relaysDropped s.ost }) hstate).trans hset
    · exact exec_periodBoundary_due hpow hacc hstate (atBoundary_of_present (s := acceptEdge s us) hstate hsetup hpos)

end Sys2Proof.Proofs
end

section
/-! PROOFS. Crossings that the Mains Watch judges: the block of 16 half-periods, and the return (R86, R87, R91 to R93). -/

namespace Sys2Proof.Machine

open Safety (Settled crossedDark crossedLit edgeRecorded mainsReturned accepts)

variable {s : State} {us : Nat}

/-! ## The edge, by where it leaves the Mains Watch -/

/-- The state after an accepted edge. -/
def afterEdge (s : State) (us : Nat) : State := finish false s (crossing (mainsEdge s us))

theorem exec_zeroCrossEdge (hpow : s.mainPowered = true) (hacc : accepts s us) :
    exec (.zeroCrossEdge us) s = .next (afterEdge s us) := edgeEvent_accepted (due := true) hpow rfl hacc

theorem afterEdge_dark {v : State} (hv : mainsEdge s us = v) (hdark : v.mwt.state ≠ .present) :
    Settled (crossedDark v) (afterEdge s us) := by
  rw [afterEdge, hv]
  exact (crossing_of_dark hdark).trans (Safety.finish_settled _ _ _)

theorem afterEdge_lit {v : State} (hv : mainsEdge s us = v) (hlit : v.mwt.state = .present) :
    Settled (crossedLit v) (afterEdge s us) := by
  have hset := Safety.finish_settled false s (crossing v)
  rw [afterEdge, hv]
  rw [crossing_of_present hlit] at hset ⊢
  exact (crossMotorStart_settled (w := { v with ost := Safety.relaysDropped v.ost }) hlit).trans hset

theorem afterEdge_evFault {v : State} (hv : mainsEdge s us = v) (hev : v.pnl.evFault = true) :
    (afterEdge s us).pnl.evFault = true := by
  rw [afterEdge, hv]
  refine finish_evFault _ _ ?_
  rw [show (crossing v).pnl = v.pnl by simp]
  exact hev

theorem mainsEdge_eq (s : State) (us : Nat) :
    mainsEdge s us = settleCrossing (s.setMwt (edgeRecorded s us)) (s.mwt.missing + us) := rfl

/-! ## The block -/

theorem mainsEdge_block (h : s.mwt.state = .measuring ∨ s.mwt.state = .lineFault) :
    mainsEdge s us = blockCrossing (s.setMwt (edgeRecorded s us)) (s.mwt.missing + us) := by
  have hstate : (s.setMwt (edgeRecorded s us)).mwt.state = s.mwt.state := rfl
  rw [mainsEdge_eq, settleCrossing, hstate]
  rcases h with h | h <;> rw [h]

theorem blockCrossing_opens {i : Nat} (h : s.mwt.blockOpen = false ∨ 16500 < i) : blockCrossing s i =
    s.setMwt { s.mwt with blockOpen := true, blockCount := 0, blockSum := 0 } := by
  refine if_pos ?_
  rw [Bool.or_eq_true, Bool.not_eq_true', decide_eq_true_eq]
  exact h

theorem blockCrossing_counts {i : Nat} (ho : s.mwt.blockOpen = true) (hi : i ≤ 16500) (hc : s.mwt.blockCount < 15) :
    blockCrossing s i = s.setMwt { s.mwt with blockCount := s.mwt.blockCount + 1, blockSum := s.mwt.blockSum + i } := by
  have hnot : (!s.mwt.blockOpen || decide (blockLimitUs < i)) = false := by
    rw [ho, blockLimitUs, decide_eq_false (Nat.not_lt.2 hi)]
    rfl
  unfold blockCrossing
  rw [hnot, if_neg (by decide), if_pos (by omega)]

theorem blockCrossing_judges {i : Nat} (ho : s.mwt.blockOpen = true) (hi : i ≤ 16500) (hc : s.mwt.blockCount = 15) :
    blockCrossing s i = judgeBlock s (s.mwt.blockSum + i) := by
  have hnot : (!s.mwt.blockOpen || decide (blockLimitUs < i)) = false := by
    rw [ho, blockLimitUs, decide_eq_false (Nat.not_lt.2 hi)]
    rfl
  unfold blockCrossing
  rw [hnot, if_neg (by decide), if_neg (by omega)]

/-- The class of an average half-period (R86). -/
theorem classOf_eq_some {avg : Nat} {c : LineClass}
    (h : (c = .hz50 ∧ 9000 ≤ avg ∧ avg ≤ 11000) ∨ (c = .hz60 ∧ 7500 ≤ avg ∧ avg ≤ 8999)) : classOf avg = some c := by
  unfold classOf
  rcases h with ⟨rfl, h1, h2⟩ | ⟨rfl, h1, h2⟩
  · rw [if_pos (by simp [h1, h2])]
  · rw [if_neg (by simp; omega), if_pos (by simp [h1, h2])]

theorem classOf_eq_none {avg : Nat} (h : avg < 7500 ∨ 11000 < avg) : classOf avg = none := by
  unfold classOf
  rw [if_neg (by simp; omega), if_neg (by simp; omega)]

/-! ## The entry to PRESENT -/

theorem enterPresent_unwarned (h : s.mwt.warning = false) (c : LineClass) : enterPresent s c =
    s.setMwt { s.mwt with state := .present, cls := c, blockOpen := false, blockCount := 0, blockSum := 0 } := by
  unfold enterPresent
  exact if_neg (ne_true_of_eq_false h)

theorem enterPlanning_eq (h : s.csq.state ≠ .planning) (blink : Bool) : enterPlanning s blink = { s with
    csq := { s.csq with state := .planning, ready := .none }, pnl := { s.pnl with evPhase := true },
    rpl := { state := .making, plan := { Plan.reset with blink := blink }, basis := none } } := by
  rw [enterPlanning, setCycle_of_ne h]
  rfl

theorem mainsBackCycle_eq (s : State) : mainsBackCycle s =
    if s.csq.state = .holdoverWait ∧ s.pnl.resetPending = false then
      { s with csq := { s.csq with state := .planning, ready := .none }, pnl := { s.pnl with evPhase := true },
               rpl := { state := .making, plan := { Plan.reset with blink := true }, basis := none } }
    else { s with csq := { s.csq with mainsBack := s.csq.mainsBack || s.csq.state = .loss } } := by
  unfold mainsBackCycle
  by_cases hloss : s.csq.state = .loss
  · rw [if_pos hloss, if_neg (by rw [hloss]; simp), decide_eq_true hloss, Bool.or_true]
    rfl
  · rw [if_neg hloss]
    by_cases hwait : s.csq.state = .holdoverWait ∧ s.pnl.resetPending = false
    · have hne : s.csq.state ≠ .planning := by rw [hwait.1]; decide
      rw [if_pos hwait, if_pos (by simp [hwait]), enterPlanning_eq hne]
    · rw [if_neg hwait, if_neg (by simpa using hwait), decide_eq_false hloss, Bool.or_false]

/-- PRESENT entered with the warning outstanding (R86, R92, R93). -/
theorem enterPresent_warned (h : s.mwt.warning = true) (c : LineClass) :
    enterPresent s c = mainsReturned s { s.mwt with cls := c } := by
  have hfeeder : ∀ v : State, feederBack v = { v with
      fsu := { v.fsu with listenIn := if v.pnl.setupDone then some 3000000 else v.fsu.listenIn } } := fun v => by
    unfold feederBack
    split <;> rfl
  unfold enterPresent
  dsimp only
  rw [if_pos (by exact h), hfeeder, mainsBackCycle_eq]
  rfl

theorem mainsReturned_state (s : State) (m : Mains) :
    (mainsReturned s m).mwt.state = .present ∧ (mainsReturned s m).mwt.warning = false ∧
    (s.csq.state = .holdoverWait → s.pnl.resetPending = false →
      (mainsReturned s m).csq.state = .planning ∧ (mainsReturned s m).rpl.state = .making) := by
  unfold mainsReturned
  dsimp only
  split
  case isTrue => exact ⟨rfl, rfl, fun _ _ => ⟨rfl, rfl⟩⟩
  case isFalse hnot => exact ⟨rfl, rfl, fun hw hr => absurd ⟨hw, hr⟩ hnot⟩

/-! ## The return -/

theorem mainsEdge_loss (h : s.mwt.state = .lossWarning) :
    mainsEdge s us = lossCrossing (s.setMwt (edgeRecorded s us)) := by
  have hstate : (s.setMwt (edgeRecorded s us)).mwt.state = s.mwt.state := rfl
  rw [mainsEdge_eq, settleCrossing, hstate, h]

theorem lossCrossing_eq (s : State) : lossCrossing s = s.setMwt
    (if s.mwt.railTripped then s.mwt
     else if s.mwt.cls = .unknown then
       { s.mwt with state := .measuring, blockOpen := true, blockCount := 0, blockSum := 0 }
     else { s.mwt with state := .returning, returnCount := 0, returnCrossings := 0 }) := by
  unfold lossCrossing
  split
  · rfl
  · split <;> rfl

theorem mainsEdge_returning (h : s.mwt.state = .returning) :
    mainsEdge s us = returnCrossing (s.setMwt (edgeRecorded s us)) (s.mwt.missing + us) := by
  have hstate : (s.setMwt (edgeRecorded s us)).mwt.state = s.mwt.state := rfl
  rw [mainsEdge_eq, settleCrossing, hstate, h]

/-- A half-period within the return band of its class (R84). -/
def GoodHalf (c : LineClass) (i : Nat) : Prop := (c = .hz50 ∧ 9000 ≤ i ∧ i ≤ 11000) ∨ (c = .hz60 ∧ 7500 ≤ i ∧ i ≤ 9166)

theorem inBand_iff (c : LineClass) (i : Nat) : inBand c i = true ↔ GoodHalf c i := by
  cases c <;> simp [inBand, GoodHalf]

/-- The Mains Watch with a crossing of the return counted (R92). -/
def Mains.returned (m : Mains) (i : Nat) : Mains :=
  { m with returnCount := if inBand m.cls i then m.returnCount + 1 else 0, returnCrossings := m.returnCrossings + 1 }

theorem returned_good {m : Mains} {i : Nat} (h : inBand m.cls i = true) : m.returned i =
    { m with returnCount := m.returnCount + 1, returnCrossings := m.returnCrossings + 1 } := by
  rw [Mains.returned, if_pos h]

theorem returned_bad {m : Mains} {i : Nat} (h : inBand m.cls i = false) : m.returned i =
    { m with returnCount := 0, returnCrossings := m.returnCrossings + 1 } := by
  rw [Mains.returned, if_neg (ne_true_of_eq_false h)]

theorem returnCrossing_eq (s : State) (i : Nat) : returnCrossing s i =
    if (s.mwt.returned i).returnCount = 8 then enterPresent (s.setMwt (s.mwt.returned i)) s.mwt.cls
    else if (s.mwt.returned i).returnCrossings = 64 then enterLineFault (s.setMwt (s.mwt.returned i))
    else s.setMwt (s.mwt.returned i) := rfl

end Sys2Proof.Machine

namespace Sys2Proof.Proofs

open Sys2Proof.Machine Sys2Proof.Safety

/-- Settles O40, by what the crossing makes of the block. -/
theorem mainsMeasured : Obligations.MainsMeasured := by
  unfold Obligations.MainsMeasured
  intro s us hpow hacc hstate i m avg full
  have hedge := mainsEdge_block (us := us) hstate
  have hexec := exec_zeroCrossEdge hpow hacc
  have hnotPresent : m.state ≠ .present := by
    change s.mwt.state ≠ .present
    rcases hstate with h | h <;> rw [h] <;> decide
  have hclassify : full → exec (.classifyBlock us) s = .next (afterEdge s us) := fun ⟨ho, hi, hc⟩ => by
    refine edgeEvent_accepted (due := blockDue s us) hpow ?_ hacc
    have hmeasures : (decide (s.mwt.state = .measuring) || decide (s.mwt.state = .lineFault)) = true := by
      rcases hstate with h | h <;> rw [h] <;> rfl
    rw [blockDue, edgeRejected_eq_false hacc, hmeasures, ho, hc, blockLimitUs, edgeInterval, decide_eq_true hi]
    rfl
  refine ⟨fun h => ⟨_, hexec, ?_⟩, fun ho hi hc => ⟨_, hexec, ?_⟩, fun c hfull hc => ?_, fun hfull hnone => ?_⟩
  · refine afterEdge_dark ?_ hnotPresent
    rw [hedge, blockCrossing_opens (by exact h)]
    rfl
  · refine afterEdge_dark ?_ hnotPresent
    rw [hedge, blockCrossing_counts (by exact ho) hi (by exact hc)]
    rfl
  · obtain ⟨ho, hi, hcount⟩ := hfull
    have hpresent : mainsEdge s us = enterPresent (s.setMwt m) c := by
      rw [hedge, blockCrossing_judges (by exact ho) hi (by exact hcount), judgeBlock, classOf_eq_some (by exact hc)]
    refine ⟨_, hclassify ⟨ho, hi, hcount⟩, hexec, fun hw => ?_, fun hw => ?_⟩
    · rw [enterPresent_unwarned (by exact hw)] at hpresent
      exact afterEdge_lit hpresent rfl
    · rw [enterPresent_warned (by exact hw)] at hpresent
      obtain ⟨hlit, -, hplans⟩ := mainsReturned_state (s.setMwt m) { m with cls := c }
      have hset := afterEdge_lit hpresent hlit
      refine ⟨hset, fun hwait hreset => ?_⟩
      rw [hset.csq]
      exact (hplans hwait hreset).1
  · obtain ⟨ho, hi, hcount⟩ := hfull
    have hjudged : mainsEdge s us = judgeBlock (s.setMwt m) (s.mwt.blockSum + i) := by
      rw [hedge, blockCrossing_judges (by exact ho) hi (by exact hcount)]
      rfl
    rw [judgeBlock, classOf_eq_none (by exact hnone)] at hjudged
    refine ⟨_, hclassify ⟨ho, hi, hcount⟩, hexec, fun hm => ?_, ?_⟩
    · exact afterEdge_evFault hjudged (by rw [if_pos (by exact hm)]; rfl)
    · by_cases hm : s.mwt.state = .measuring
      · rw [if_pos (by exact hm)] at hjudged
        have hset := afterEdge_dark hjudged MainsState.noConfusion
        rw [if_pos hm]
        exact hset
      · rw [if_neg (by exact hm)] at hjudged
        have hline : m.state = .lineFault := hstate.resolve_left hm
        rw [if_neg hm, ← hline]
        exact afterEdge_dark hjudged hnotPresent

/-- Settles O41, by what the crossing makes of the return count. -/
theorem mainsReturns : Obligations.MainsReturns := by
  unfold Obligations.MainsReturns
  intro s us hpow hacc i m good
  have hexec := exec_zeroCrossEdge hpow hacc
  have hgood : inBand s.mwt.cls i = true ↔ good := inBand_iff _ _
  refine ⟨fun h => ⟨_, hexec, ?_⟩, fun h => ?_⟩
  · have hloss := mainsEdge_loss (us := us) h
    rw [lossCrossing_eq] at hloss
    refine afterEdge_dark hloss ?_
    have hm : m.state = .lossWarning := h
    dsimp only [State.setMwt_mwt]
    split
    · rw [show (edgeRecorded s us).state = _ from hm]
      decide
    · split <;> exact MainsState.noConfusion
  · have hedge := mainsEdge_returning (us := us) h
    have hm : m.state = .returning := h
    rw [returnCrossing_eq, State.setMwt_mwt] at hedge
    refine ⟨fun hg hcount hcross => ⟨_, hexec, ?_⟩, fun hg hcross => ⟨_, hexec, ?_⟩, fun hg hcount hw => ?_,
      fun hnot hfew hcross => ?_⟩
    · have hv := hedge
      rw [returned_good (by exact hgood.2 hg), if_neg (by exact Nat.ne_of_lt (Nat.succ_lt_succ hcount)),
        if_neg (by exact Nat.ne_of_lt (Nat.succ_lt_succ hcross))] at hv
      exact afterEdge_dark hv (by exact fun h => absurd (hm.symm.trans h) (by decide))
    · have hv := hedge
      rw [returned_bad (by exact Bool.eq_false_iff.2 (mt hgood.1 hg)), if_neg (by exact Nat.zero_ne_add_one 7),
        if_neg (by exact Nat.ne_of_lt (Nat.succ_lt_succ hcross))] at hv
      exact afterEdge_dark hv (by exact fun h => absurd (hm.symm.trans h) (by decide))
    · have hdue : returnDue s us = true := by
        rw [returnDue, edgeRejected_eq_false hacc, h, hcount, edgeInterval, hgood.2 hg]
        rfl
      have hv := hedge
      rw [returned_good (by exact hgood.2 hg), if_pos (by exact congrArg (· + 1) hcount),
        enterPresent_warned (by exact hw)] at hv
      obtain ⟨hlit, hcalm, hplans⟩ := mainsReturned_state s
        { m with returnCount := 8, returnCrossings := m.returnCrossings + 1 }
      have hcount8 : m.returnCount + 1 = 8 := congrArg (· + 1) hcount
      have hback : mainsEdge s us = mainsReturned s
          { m with returnCount := 8, returnCrossings := m.returnCrossings + 1 } := by
        rw [hv, ← hcount8]
        rfl
      have hset := afterEdge_lit hback hlit
      refine ⟨afterEdge s us, edgeEvent_accepted hpow hdue hacc, hexec, ?_, ?_, fun hwait hreset => ?_, hset⟩
      · rw [hset.mwt]
        exact hlit
      · rw [hset.mwt]
        exact hcalm
      · rw [hset.csq, hset.rpl]
        exact hplans hwait hreset
    · have hcount : (m.returned i).returnCount ≠ 8 := by
        by_cases hg : good
        · have hm8 : m.returnCount + 1 ≠ 8 := Nat.ne_of_lt (Nat.succ_lt_succ (hfew hg))
          rw [returned_good (by exact hgood.2 hg)]
          exact hm8
        · rw [returned_bad (by exact Bool.eq_false_iff.2 (mt hgood.1 hg))]
          exact Nat.zero_ne_add_one 7
      have hdue : returnTimeoutDue s us = true := by
        have hnotDue : returnDue s us = false := by
          by_cases hg : good
          · rw [returnDue, decide_eq_false (fun h7 => hnot ⟨hg, h7⟩), Bool.and_false]
          · rw [returnDue, edgeInterval, Bool.eq_false_iff.2 (mt hgood.1 hg), Bool.and_false, Bool.false_and]
        rw [returnTimeoutDue, edgeRejected_eq_false hacc, h, hcross, hnotDue]
        rfl
      have hv := hedge
      rw [if_neg (by exact hcount), if_pos (by exact congrArg (· + 1) hcross)] at hv
      have hset := afterEdge_dark hv MainsState.noConfusion
      have hcross64 : m.returnCrossings + 1 = 64 := congrArg (· + 1) hcross
      refine ⟨_, edgeEvent_accepted hpow hdue hacc, hexec, afterEdge_evFault hv rfl, ?_⟩
      rw [← hcross64]
      exact hset

end Sys2Proof.Proofs
end

section
/-! PROOFS. The four sectors of the ring (R96) and numbers beyond them: two statements on the journal name a sector that
their hypotheses leave unbounded, and `Journal.setSector` takes every number from 3 on as sector 3. -/

namespace Sys2Proof.Machine

/-- An urgent copy of the fields after reset. -/
def urgentPending : PendingRecord :=
  { copy := recordCopy State.reset .phase .none, urgent := true, orderly := false, hurried := false, inFlight := true }

/-- A suspend of the erase of sector 3 about to take effect, with a pointer in a sector 7 that the ring has not: its
*next sector* is sector 0, which is ERASED. -/
def suspendingBeyondRing : State :=
  { State.reset with
    pjr := { Journal.reset with sector0 := .erased, sector3 := .erasing, ptrSector := 7, ptrSlot := 62,
                                pend := some urgentPending, op := .suspending 3 } }

/-- The pointer's sector 7 becomes FULL as sector 0 is opened, and so does sector 3, whose erase is halted. -/
theorem suspendingBeyondRing_full :
    (journalStep Journal.suspendEffect suspendingBeyondRing).pjr.sector 3 = .full := by decide

/-- A program at the pointer that has halted an erase of a sector 7 that the ring has not. -/
def programmingBeyondRing : State :=
  { State.reset with
    pjr := { Journal.reset with sector3 := .full, pend := some urgentPending, op := .programming 0 0 (some 7),
                                prog := some urgentPending.copy } }

/-- The erase is resumed after the program, which sets sector 3 ERASING. -/
theorem programmingBeyondRing_erasing :
    (programComplete programmingBeyondRing true).pjr.sector 3 = .erasing := by decide

end Sys2Proof.Machine

namespace Sys2Proof.Proofs

open Sys2Proof.Machine Sys2Proof.Safety

/-- Refutes O45: the sector of the halted erase is not bounded by the ring. With an erase of a sector 7 halted, a verified
program resumes it and sets sector 3 ERASING, which the statement on the pointer and the sectors leaves FULL. -/
theorem not_programRuns : ¬ Obligations.ProgramRuns := by
  unfold Obligations.ProgramRuns
  intro h
  obtain ⟨-, -, hends⟩ := h programmingBeyondRing urgentPending 0 0 (some 7) rfl rfl
  obtain ⟨t, ht, -, -, -, -, -, -, -, -, -, -, -, hptr, -⟩ := (hends _ rfl rfl rfl).1 rfl rfl
  obtain ⟨-, -, hsectors, -⟩ := hptr (by decide) (by decide)
  have hnext : exec (.programComplete true) programmingBeyondRing = .next (programComplete programmingBeyondRing true) := rfl
  have htu : t = programComplete programmingBeyondRing true := Host.Outcome.next.inj (ht.symm.trans hnext)
  have hkept : t.pjr.sector 3 = .full := hsectors 3 (by decide) (by decide)
  rw [htu, programmingBeyondRing_erasing] at hkept
  exact absurd hkept (by decide)

/-- Refutes O46: the pointer's sector is not bounded by the ring. With the pointer in a sector 7, the opening of the next
sector as the suspend takes effect leaves sector 3, whose erase is halted, FULL and not SUSPENDED. -/
theorem not_eraseRuns : ¬ Obligations.EraseRuns := by
  unfold Obligations.EraseRuns
  intro h
  obtain ⟨-, -, hpress⟩ := h suspendingBeyondRing 3 rfl (by decide)
  obtain ⟨t, ht, -, -, hhalted, -⟩ := (hpress urgentPending (0, 0) rfl rfl rfl (by decide)).2.2 rfl rfl (by decide) (by decide)
  have hnext : exec .suspendEffect suspendingBeyondRing = .next (journalStep Journal.suspendEffect suspendingBeyondRing) := rfl
  have htu : t = journalStep Journal.suspendEffect suspendingBeyondRing := Host.Outcome.next.inj (ht.symm.trans hnext)
  rw [htu, suspendingBeyondRing_full] at hhalted
  exact absurd hhalted (by decide)

end Sys2Proof.Proofs
end

section
/-! PROOFS. A step granted into the cover at the very event at which another of the same worth leaves it (R71, R168, R176):
held does not change, and the grant calls for a notice all the same (R173). -/

namespace Sys2Proof.Machine

/-- A station that is ISOLATED as without an id and yet has one, in HEAT with the motor RUNNING and a frame on the line:
its START step still stands in the cover, unwanted, and takes the room of the STAGE1 step, which is wanted. -/
def swappingSteps : State :=
  { State.reset with
    csq := { Sequencer.reset with state := .heat },
    scv := { Converter.reset with strapDone := true, stationId := 1 },
    ost := { Output.reset with motor := .running, doorOpen := false },
    mwt := { Mains.reset with state := .present },
    plp := { Port.reset with tx := .sending },
    fsu := { Feeder.reset with start := .cover, want := 1, wants := ⟨false, true, false⟩, isolated := some .noId },
    pnl := { State.reset.pnl with setupDone := true },
    settings := { Settings.reset with budget := 1, weight1 := 1, startUnits := 1, isolatedCap := 1 } }

/-- The state after the row NOTICE_SENT. -/
def stepsSwapped : State := finish false swappingSteps (noticeSent swappingSteps)

theorem stepsSwapped_held : held stepsSwapped = held swappingSteps := by decide

theorem stepsSwapped_want : stepsSwapped.fsu.want = swappingSteps.fsu.want ∧ stepsSwapped.fsu.wants = swappingSteps.fsu.wants := by
  decide

theorem stepsSwapped_steps (k : CoverStep) :
    stepOf swappingSteps.fsu k ≠ .release ∧ stepOf stepsSwapped.fsu k ≠ .pending := by
  cases k <;> decide

/-- The grant has handed a HEAT notice to the empty transmitter. -/
theorem stepsSwapped_tx : stepsSwapped.plp.tx = .pending := by decide

end Sys2Proof.Machine

namespace Sys2Proof.Proofs

open Sys2Proof.Machine Sys2Proof.Safety

/-- Refutes O49: with held and the want unchanged and no step newly pending, the statement leaves the transmitter EMPTY
after a notice sent, but a step granted straight into the cover while ISOLATED, in the room of one that has left it, hands a
notice. -/
theorem not_lineSends : ¬ Obligations.LineSends := by
  unfold Obligations.LineSends
  intro h
  obtain ⟨-, hsent, -⟩ := h swappingSteps rfl
  obtain ⟨t, ht, -, -, -, ⟨-, -, hstays⟩, -⟩ := hsent rfl
  have hnext : exec .noticeSent swappingSteps = .next stepsSwapped := mainEvent_of_due rfl (by decide)
  have htu : t = stepsSwapped := Host.Outcome.next.inj (ht.symm.trans hnext)
  rw [htu] at hstays
  have hempty := hstays stepsSwapped_held stepsSwapped_want.1 stepsSwapped_want.2 fun k =>
    ⟨(stepsSwapped_steps k).1, fun hpending => absurd hpending (stepsSwapped_steps k).2⟩
  rw [if_neg (by decide)] at hempty
  exact absurd (stepsSwapped_tx.symm.trans hempty.1) (by decide)

end Sys2Proof.Proofs
end

section
/-! PROOFS. The unit's own entry through the settling after an event: what the steps' operations leave, the want taken
(R167, R175), and what an evaluation forms (R170, R178). -/

namespace Sys2Proof.Machine

variable {s t : State}

/-! ## What the operations on the steps leave of the unit -/

/-- The unit but for its steps and the count of sheds. -/
def Feeder.apart (f : Feeder) : Feeder := { f with start := .free, stage1 := .free, stage2 := .free, sheds := 0 }

section
variable (s)

@[simp] theorem setStep_apart (k : CoverStep) (x : StepState) : (setStep s k x).fsu.apart = s.fsu.apart := by
  cases k <;> rfl

@[simp] theorem unmarkStep_fsu (k : CoverStep) : (unmarkStep s k).fsu = s.fsu := rfl

@[simp] theorem giveUp_apart (k : CoverStep) : (giveUp s k).fsu.apart = s.fsu.apart := by
  unfold giveUp
  split <;> simp

@[simp] theorem dropAll_apart : (dropAll s).fsu.apart = s.fsu.apart := by
  have drop : ∀ (v : State) (k : CoverStep), (dropUnwanted v k).fsu.apart = v.fsu.apart := fun v k => by
    unfold dropUnwanted
    split <;> simp
  simp [dropAll, drop]

@[simp] theorem confirmAll_apart : (confirmAll s).fsu.apart = s.fsu.apart := by
  have confirm : ∀ (v : State) (k : CoverStep), (confirmStep v k).fsu.apart = v.fsu.apart := fun v k => by
    unfold confirmStep
    split <;> simp
  simp [confirmAll, confirm]

@[simp] theorem shedTest_apart : (shedTest s).fsu.apart = s.fsu.apart := by
  have shed : ∀ (v : State) (k : CoverStep), (shedStep v k).fsu.apart = v.fsu.apart := fun v k => by
    unfold shedStep
    split
    · exact giveUp_apart v k
    · rfl
  unfold shedTest
  split <;> simp [shed]

@[simp] theorem grantSteps_apart (x : StepState) (ks : List CoverStep) : ∀ (s : State) (r : Nat),
    (grantSteps s x r ks).fsu.apart = s.fsu.apart := by
  induction ks with
  | nil => exact fun _ _ => rfl
  | cons k rest ih =>
    intro s r
    unfold grantSteps
    split <;> simp [ih]

@[simp] theorem grantTest_apart : (grantTest s).fsu.apart = s.fsu.apart := by
  rcases grantTest_cases s with h | ⟨r, h, -⟩ <;> simp [h]

@[simp] theorem applyTests_apart : (applyTests s).fsu.apart = s.fsu.apart := by
  unfold applyTests
  split <;> simp

end

/-! ## The want taken -/

/-- The want that the unit has taken, and its settle timer. -/
def Feeder.taken (f : Feeder) : Nat × Wants × Option Nat := (f.want, f.wants, f.settle)

theorem taken_of_apart {f g : Feeder} (h : g.apart = f.apart) : g.taken = f.taken := by
  have e : g.apart.taken = f.apart.taken := congrArg Feeder.taken h
  exact e

@[simp] theorem settleClass_taken (s : State) : (settleClass s).fsu.taken = s.fsu.taken := by
  unfold settleClass
  split <;> rfl

theorem formEvaluation_taken (s : State) : (formEvaluation s).fsu.taken = s.fsu.taken := by
  unfold formEvaluation
  dsimp only
  split <;> rfl

theorem evaluateOnce_taken (s : State) : (evaluateOnce s).fsu.taken = s.fsu.taken := by
  rw [evaluateOnce, settleClass_taken, taken_of_apart (confirmAll_apart _), taken_of_apart (applyTests_apart _),
    formEvaluation_taken]

theorem announce_taken (s0 : State) (g : Bool) (s : State) : (announce s0 g s).fsu.taken = s.fsu.taken := by
  unfold announce handNotice stopNotice
  repeat' split
  all_goals rfl

/-- The state whose want the unit takes after an event: unwanted steps given up, and releases confirmed. -/
def entryFollowed (s : State) : State := confirmAll (dropAll (syncOutputs s))

theorem settleEntry_eq (s : State) : settleEntry s = settleClass (takeWant (entryFollowed s)) := rfl

/-- After an event the want taken is that which `takeWant` takes as the entry follows it; no evaluation and no notice
changes it. -/
theorem finish_taken (ev : Bool) (s0 s : State) :
    (finish ev s0 s).fsu.taken = (takeWant (entryFollowed s)).fsu.taken := by
  have hend := settleAndEvaluate_induction (P := fun v => v.fsu.taken = (settleEntry s).fsu.taken)
    (fun v hv => (formEvaluation_taken v).trans hv) (fun v hv => (evaluateOnce_taken v).trans hv) ev s0 rfl
  rw [finish_eq, announce_taken, hend, settleEntry_eq, settleClass_taken]

/-! ## What an evaluation forms -/

/-- The effective budget and BUDGET_MISMATCH. -/
def Feeder.formed (f : Feeder) : Nat × Bool := (f.effective, f.mismatch)

theorem formed_of_apart {f g : Feeder} (h : g.apart = f.apart) : g.formed = f.formed := by
  have e : g.apart.formed = f.apart.formed := congrArg Feeder.formed h
  exact e

theorem Feeder.of_formed {f : Feeder} {x : Nat × Bool} (h : f.formed = x) : f.effective = x.1 ∧ f.mismatch = x.2 := by
  subst h
  exact ⟨rfl, rfl⟩

/-- What an evaluation of a state forms (R178). -/
def evaluationOf (s : State) : Nat × Bool := (effectiveBudget s, budgetMismatch s)

theorem feeder_of_settled {u v : State} (h : Safety.Settled u v) :
    v.fsu.peers = u.fsu.peers ∧ v.fsu.isolated = u.fsu.isolated ∧ v.fsu.listenIn = u.fsu.listenIn ∧
      v.fsu.tableFull = u.fsu.tableFull := by
  have e : Safety.blur v = Safety.blur u := h
  exact ⟨congrArg (·.fsu.peers) e, congrArg (·.fsu.isolated) e, congrArg (·.fsu.listenIn) e, congrArg (·.fsu.tableFull) e⟩

theorem evaluationOf_settled (h : Safety.Settled s t) : evaluationOf t = evaluationOf s := by
  obtain ⟨hpeers, hisolated, -, -⟩ := feeder_of_settled h
  simp only [evaluationOf, effectiveBudget, budgetMismatch, h.settings, hpeers, hisolated]

theorem formEvaluation_formed (s : State) : (formEvaluation s).fsu.formed = evaluationOf s := by
  unfold formEvaluation
  dsimp only
  split <;> rfl

@[simp] theorem settleClass_formed (s : State) : (settleClass s).fsu.formed = s.fsu.formed := by
  unfold settleClass
  split <;> rfl

theorem takeWant_formed (s : State) : (takeWant s).fsu.formed = s.fsu.formed := rfl

theorem syncOutputs_fsu (s : State) : (syncOutputs s).fsu = s.fsu := rfl

theorem evaluateOnce_formed (s : State) : (evaluateOnce s).fsu.formed = evaluationOf s := by
  rw [evaluateOnce, settleClass_formed, formed_of_apart (confirmAll_apart _), formed_of_apart (applyTests_apart _),
    formEvaluation_formed]

theorem evaluateTimes_formed (n : Nat) : ∀ s : State, (evaluateTimes n s).fsu.formed = evaluationOf s := by
  induction n with
  | zero => exact formEvaluation_formed
  | succ n ih =>
    intro s
    unfold evaluateTimes
    split
    · rw [ih, evaluationOf_settled (Safety.evaluateOnce_settled s)]
    · exact evaluateOnce_formed s

theorem announce_formed (s0 : State) (g : Bool) (s : State) : (announce s0 g s).fsu.formed = s.fsu.formed := by
  unfold announce handNotice stopNotice
  repeat' split
  all_goals rfl

/-- At an event that calls for an evaluation the effective budget and BUDGET_MISMATCH are formed anew (R175, R178). -/
theorem finish_formed (s0 s : State) : (finish true s0 s).fsu.formed = evaluationOf s := by
  have heval : settleAndEvaluate true s0 s = evaluate (settleEntry s) := if_pos rfl
  rw [finish_eq, announce_formed, heval, evaluate]
  exact (evaluateTimes_formed 4 _).trans (evaluationOf_settled (Safety.settleEntry_settled s))

theorem settleEntry_formed (s : State) : (settleEntry s).fsu.formed = s.fsu.formed := by
  rw [settleEntry_eq, settleClass_formed, takeWant_formed, entryFollowed, formed_of_apart (confirmAll_apart _),
    formed_of_apart (dropAll_apart _), syncOutputs_fsu]

theorem settleEntry_mismatch (s : State) : (settleEntry s).fsu.mismatch = s.fsu.mismatch :=
  (Feeder.of_formed (settleEntry_formed s)).2

theorem budgetMismatch_settled (h : Safety.Settled s t) : budgetMismatch t = budgetMismatch s := by
  obtain ⟨hpeers, -⟩ := feeder_of_settled h
  rw [budgetMismatch, budgetMismatch, hpeers, h.settings]

theorem formEvaluation_raises (hm : budgetMismatch s = true) (hs : s.fsu.mismatch = false) :
    (formEvaluation s).pnl.evFault = true := by
  unfold formEvaluation
  rw [hm, hs]
  rfl

/-- BUDGET_MISMATCH raises the fault event at its setting (R178). -/
theorem evaluate_raises (hm : budgetMismatch s = true) (hs : s.fsu.mismatch = false) : (evaluate s).pnl.evFault = true := by
  have honce : (evaluateOnce s).pnl.evFault = true := by simpa [evaluateOnce] using formEvaluation_raises hm hs
  unfold evaluate evaluateTimes
  split
  · exact evaluateTimes_evFault 3 honce
  · exact honce

theorem finish_raises (s0 : State) (hm : budgetMismatch s = true) (hs : s.fsu.mismatch = false) :
    (finish true s0 s).pnl.evFault = true := by
  have heval : settleAndEvaluate true s0 s = evaluate (settleEntry s) := if_pos rfl
  rw [finish_eq, announce_pnl, heval]
  exact evaluate_raises (by rw [budgetMismatch_settled (Safety.settleEntry_settled s)]; exact hm)
    (by rw [settleEntry_mismatch]; exact hs)

theorem budgetMismatch_iff (s : State) :
    budgetMismatch s = true ↔ ∃ p ∈ s.fsu.peers, p.budget < s.settings.budget := by
  simp [budgetMismatch]

/-- BUDGET_MISMATCH after an event that calls for an evaluation, from a state in which it stood as the event left it. -/
theorem finish_mismatchFormed {s0 : State} (h : s.fsu.mismatch = s0.fsu.mismatch)
    (hs : s.settings = s0.settings) (s1 : State) :
    Safety.mismatchFormed s0 (finish true s1 s) := by
  have hformed : (finish true s1 s).fsu.mismatch = budgetMismatch s := (Feeder.of_formed (finish_formed s1 s)).2
  refine ⟨?_, fun hm h0 => finish_raises s1 (hformed.symm.trans hm) (h.trans h0)⟩
  rw [hformed, ← budgetMismatch_settled (Safety.finish_settled true s1 s), budgetMismatch_iff, ← hs,
    (Safety.finish_settled true s1 s).settings]

end Sys2Proof.Machine
end

section
/-! PROOFS. Characters become notices, and notices entries of the Peer Table (R151, R152, R160 to R162, R171). -/

namespace Sys2Proof.Machine

open Safety (Settled readerAt stopRun mismatchFormed)

variable {s : State} {d : Byte} {flag ok : Bool}

/-! ## The row of a character -/

theorem hear_eq (p : Port) (warning : Bool) (d : Byte) (flag ok : Bool) : p.hear warning d flag ok = { p with
    lineHigh := ok, idleTimer := if ok then stopRun d flag ok else 0,
    stuckTimer := if ok || warning then 0 else stopRun d flag ok, reader := readerAt p.reader ok } := rfl

theorem exec_character_quiet {data : Option Byte} (hpow : s.mainPowered = true)
    (hq : characterEvaluates s data flag ok = false) :
    exec (.characterReceived data flag ok) s = .next (character s data flag ok) := by
  have h : exec (.characterReceived data flag ok) s = execCharacterReceived data flag ok s := rfl
  rw [h, execCharacterReceived, hpow, hq]
  rfl

theorem exec_character_evaluates {data : Option Byte} (hpow : s.mainPowered = true)
    (hq : characterEvaluates s data flag ok = true) :
    exec (.characterReceived data flag ok) s = .next (finish true s (character s data flag ok)) := by
  have h : exec (.characterReceived data flag ok) s = execCharacterReceived data flag ok s := rfl
  rw [h, execCharacterReceived, hpow, hq, if_pos rfl, if_pos rfl]

theorem characterEvaluates_none : characterEvaluates s none flag ok = false := Bool.and_false _

/-- Only the eighth character of a frame, good and without the address flag, can call for an evaluation. -/
theorem characterEvaluates_partial (h : s.scv.strapDone = false ∨ ok = false ∨ flag = true ∨ s.plp.rx ≠ .receiving ∨
    s.plp.gathered.length ≠ 7) (data : Option Byte) : characterEvaluates s data flag ok = false := by
  unfold characterEvaluates
  rcases h with h | rfl | rfl | h | h
  · rw [h]
    rfl
  · rw [Bool.and_false]
    rfl
  · rw [Bool.not_true, Bool.and_false]
    rfl
  · rw [decide_eq_false h, Bool.and_false]
    rfl
  · rw [decide_eq_false h, Bool.and_false]
    rfl

theorem takeCharacter_early (h : s.scv.strapDone = false) :
    takeCharacter s d flag ok = s.setPlp (s.plp.hear s.mwt.warning d flag ok) := by
  unfold takeCharacter
  rw [h]
  rfl

theorem takeCharacter_bad (h : s.scv.strapDone = true) :
    takeCharacter s d flag false = badCharacter (s.setPlp (s.plp.hear s.mwt.warning d flag false)) := by
  unfold takeCharacter
  rw [h]
  rfl

theorem takeCharacter_good (h : s.scv.strapDone = true) :
    takeCharacter s d flag true = goodCharacter (s.setPlp (s.plp.hear s.mwt.warning d flag true)) d flag := by
  unfold takeCharacter
  rw [h]
  rfl

/-! ## The receiver -/

theorem badCharacter_idle (h : s.plp.rx = .idle) :
    badCharacter s = s.setPlp { s.plp with rxErrors := satInc 255 s.plp.rxErrors, rx := .discard } := by
  rw [badCharacter, h]
  rfl

theorem badCharacter_receiving (h : s.plp.rx = .receiving) : badCharacter s = s.setPlp { s.plp with
    rxErrors := satInc 255 s.plp.rxErrors, rx := .discard, gathered := [], echo := [] } := by
  rw [badCharacter, h]
  rfl

theorem badCharacter_discard (h : s.plp.rx = .discard) : badCharacter s = s := by
  rw [badCharacter, h]

theorem goodCharacter_begins (h : s.plp.rx ≠ .receiving) :
    goodCharacter s d true = s.setPlp { s.plp with rx := .receiving, gathered := [d] } := by
  unfold goodCharacter
  dsimp only
  cases hrx : s.plp.rx with
  | receiving => exact absurd hrx h
  | idle => rfl
  | discard => rfl

theorem goodCharacter_restarts (h : s.plp.rx = .receiving) : goodCharacter s d true = s.setPlp { s.plp with
    rxErrors := satInc 255 s.plp.rxErrors, rx := .receiving, gathered := [d], echo := [] } := by
  unfold goodCharacter
  dsimp only
  rw [h]
  rfl

theorem goodCharacter_unflagged (h : s.plp.rx = .idle) : goodCharacter s d false = s.setPlp { s.plp with
    rxErrors := satInc 255 s.plp.rxErrors, rx := .discard } := by
  unfold goodCharacter
  dsimp only
  rw [h]
  rfl

theorem goodCharacter_discarded (h : s.plp.rx = .discard) : goodCharacter s d false = s := by
  unfold goodCharacter
  dsimp only
  rw [h]
  rfl

theorem goodCharacter_gathers (h : s.plp.rx = .receiving) (hlen : s.plp.gathered.length < 7) :
    goodCharacter s d false = s.setPlp { s.plp with rx := .receiving, gathered := s.plp.gathered ++ [d] } := by
  rw [← h]
  unfold goodCharacter
  dsimp only
  rw [h]
  exact (if_pos (Nat.succ_lt_succ hlen)).trans (by rw [← h])

theorem goodCharacter_judges (h : s.plp.rx = .receiving) (hlen : s.plp.gathered.length = 7) :
    goodCharacter s d false = frameJudged s (s.plp.gathered ++ [d]) := by
  unfold goodCharacter
  dsimp only
  rw [h]
  exact if_neg (Nat.not_lt.2 (Nat.le_of_eq (congrArg (· + 1) hlen.symm)))

/-! ## A frame of eight characters -/

section
variable {bs : List Byte} {n : Notice}

theorem judgeFrame_own {own : Nat} {echo : List Byte} (h : noticeOfBytes bs = some n) (hid : n.id = own) :
    judgeFrame own echo bs = if bs = echo then .echo else .clash := by
  obtain ⟨h1, -⟩ := noticeOfBytes_id h
  have hown : (decide (own ≠ 0) && decide (n.id = own)) = true := by
    rw [decide_eq_true hid, decide_eq_true (by omega : own ≠ 0)]
    rfl
  unfold judgeFrame
  rw [h]
  exact if_pos hown

theorem judgeFrame_other {own : Nat} {echo : List Byte} (h : noticeOfBytes bs = some n) (hid : n.id ≠ own) :
    judgeFrame own echo bs = .delivered n := by
  have hnot : ¬ (decide (own ≠ 0) && decide (n.id = own)) = true := by
    rw [decide_eq_false hid, Bool.and_false]
    decide
  unfold judgeFrame
  rw [h]
  exact if_neg hnot

theorem judgeFrame_none {own : Nat} {echo : List Byte} (h : noticeOfBytes bs = none) :
    judgeFrame own echo bs = .discarded := by
  unfold judgeFrame
  rw [h]

/-- The port with a frame over. -/
def Port.frameOver (p : Port) : Port := { p with rx := .idle, gathered := [], echo := [] }

theorem frameJudged_none (h : noticeOfBytes bs = none) :
    frameJudged s bs = s.setPlp { s.plp.frameOver with rxErrors := satInc 255 s.plp.rxErrors } := by
  unfold frameJudged
  rw [judgeFrame_none h]
  rfl

theorem frameJudged_echo (h : noticeOfBytes bs = some n) (hid : n.id = s.scv.stationId) (he : bs = s.plp.echo) :
    frameJudged s bs = s.setPlp s.plp.frameOver := by
  unfold frameJudged
  rw [judgeFrame_own h hid, if_pos he]
  rfl

theorem frameJudged_clash (h : noticeOfBytes bs = some n) (hid : n.id = s.scv.stationId) (he : bs ≠ s.plp.echo) :
    frameJudged s bs = { s with
      plp := { s.plp.frameOver with clashes := satInc 255 s.plp.clashes },
      pnl := { s.pnl with evFault := s.pnl.evFault || s.plp.clashes = 0 } } := by
  unfold frameJudged
  rw [judgeFrame_own h hid, if_neg he]
  dsimp only
  by_cases h0 : s.plp.clashes = 0
  · rw [if_pos h0, decide_eq_true h0, Bool.or_true]
    rfl
  · rw [if_neg h0, decide_eq_false h0, Bool.or_false]
    rfl

theorem frameJudged_other (h : noticeOfBytes bs = some n) (hid : n.id ≠ s.scv.stationId) :
    frameJudged s bs = deliverNotice (s.setPlp s.plp.frameOver) n := by
  unfold frameJudged
  rw [judgeFrame_other h hid]
  rfl

/-! ## The Peer Table -/

theorem hasPeer_iff (ps : List Peer) (id : Nat) : hasPeer ps id = true ↔ ∃ p ∈ ps, p.id = id := by
  simp [hasPeer]

theorem mem_removePeer_iff (ps : List Peer) (id : Nat) (p : Peer) : p ∈ removePeer ps id ↔ p ∈ ps ∧ p.id ≠ id := by
  simp [removePeer]

theorem deliverNotice_early (h : s.pnl.setupDone = false) : deliverNotice s n = s := by
  unfold deliverNotice
  rw [h]
  rfl

theorem deliverNotice_farewell (h : s.pnl.setupDone = true) (hf : n.farewell = true) :
    deliverNotice s n = s.setFsu { s.fsu with peers := removePeer s.fsu.peers n.id } := by
  unfold deliverNotice
  rw [h, hf]
  rfl

theorem deliverNotice_stored (h : s.pnl.setupDone = true) (hf : n.farewell = false)
    (hroom : (∃ p ∈ s.fsu.peers, p.id = n.id) ∨ s.fsu.peers.length < 30) : deliverNotice s n =
      s.setFsu { s.fsu with peers := insertPeer (removePeer s.fsu.peers n.id) (peerOfNotice n) } := by
  have hstores : (hasPeer s.fsu.peers n.id || decide (s.fsu.peers.length < peerLimit)) = true :=
    Bool.or_eq_true_iff.2 (hroom.imp (hasPeer_iff _ _).2 decide_eq_true)
  unfold deliverNotice
  rw [h, hf]
  exact if_pos hstores

theorem deliverNotice_full (h : s.pnl.setupDone = true) (hf : n.farewell = false)
    (hnew : ∀ p ∈ s.fsu.peers, p.id ≠ n.id) (hfull : 30 ≤ s.fsu.peers.length) :
    deliverNotice s n = s.setFsu { s.fsu with tableFull := satInc 255 s.fsu.tableFull } := by
  have hnone : ¬ (hasPeer s.fsu.peers n.id || decide (s.fsu.peers.length < peerLimit)) = true := by
    rw [Bool.or_eq_true_iff, hasPeer_iff, decide_eq_true_iff]
    rintro (⟨p, hp, hid⟩ | hlt)
    · exact hnew p hp hid
    · exact absurd hlt (Nat.not_lt.2 hfull)
  unfold deliverNotice
  rw [h, hf]
  exact if_neg hnone

/-- A delivered notice changes nothing but the table and the count of those that found it full. -/
theorem deliverNotice_eq (s : State) (n : Notice) : deliverNotice s n = { s with fsu := { s.fsu with
    peers := (deliverNotice s n).fsu.peers, tableFull := (deliverNotice s n).fsu.tableFull } } := by
  unfold deliverNotice
  repeat' split
  all_goals rfl

theorem deliveryChanges_of (h : s.pnl.setupDone = true)
    (hroom : (∃ p ∈ s.fsu.peers, p.id = n.id) ∨ (n.farewell = false ∧ s.fsu.peers.length < 30)) :
    deliveryChanges s n = true := by
  unfold deliveryChanges
  rw [h]
  rcases hroom with hp | ⟨hf, hlt⟩
  · rw [(hasPeer_iff _ _).2 hp]
    cases n.farewell <;> rfl
  · rw [hf]
    exact Bool.or_eq_true_iff.2 (.inr (decide_eq_true hlt))

theorem characterEvaluates_other (hstrap : s.scv.strapDone = true) (hrx : s.plp.rx = .receiving)
    (hlen : s.plp.gathered.length = 7) (hn : noticeOfBytes (s.plp.gathered ++ [d]) = some n)
    (hid : n.id ≠ s.scv.stationId) : characterEvaluates s (some d) false true = deliveryChanges s n := by
  unfold characterEvaluates
  rw [hstrap, hrx, hlen, Option.map_some, judgeFrame_other hn hid]
  rfl

theorem characterEvaluates_quiet
    (h : ∀ n, judgeFrame s.scv.stationId s.plp.echo (s.plp.gathered ++ [d]) ≠ .delivered n) :
    characterEvaluates s (some d) false true = false := by
  unfold characterEvaluates
  rw [Option.map_some]
  split
  case h_1 n hj => exact absurd (Option.some.inj hj) (h n)
  case h_2 => exact Bool.and_false _

end

/-! ## The idle line -/

/-- The port with the line idle: a frame being gathered is truncated, and DISCARD ends (R160). -/
theorem becomeIdle_eq (p : Port) : p.becomeIdle = { p with
    lineHigh := true, idleTimer := max p.idleTimer 1146, stuckTimer := 0, rx := .idle, reader := readerAt p.reader true,
    gathered := if p.rx = .receiving then [] else p.gathered,
    echo := if p.rx = .receiving then [] else p.echo,
    rxErrors := if p.rx = .receiving then satInc 255 p.rxErrors else p.rxErrors } := by
  have hrx : (p.reads true).endCharacter.rx = p.rx := rfl
  unfold Port.becomeIdle
  dsimp only
  rw [hrx]
  cases h : p.rx with
  | idle =>
    cases p
    cases h
    rfl
  | receiving => rfl
  | discard => rfl

theorem lineBecomesIdle_settled (s : State) :
    Settled (s.setPlp { s.plp.becomeIdle with fault := false }) (lineBecomesIdle s) := by
  unfold lineBecomesIdle lineRestored
  exact Safety.settled_ite (Safety.settled_ite (Safety.handNotice_settled _ _) (Safety.Settled.refl _))
    (Safety.Settled.refl _)

theorem portFault_of_settled {u t : State} (h : Settled u t) : t.plp.fault = u.plp.fault := by
  have e : Safety.blur t = Safety.blur u := h
  exact congrArg (·.plp.fault) e

/-! ## A judged frame -/

theorem exec_character_frame (hpow : s.mainPowered = true) (hstrap : s.scv.strapDone = true) (hrx : s.plp.rx = .receiving)
    (hlen : s.plp.gathered.length = 7) (hq : characterEvaluates s (some d) false true = false) :
    exec (.characterReceived (some d) false true) s =
      .next (frameJudged (s.setPlp (s.plp.hear s.mwt.warning d false true)) (s.plp.gathered ++ [d])) := by
  have hjudged := goodCharacter_judges (s := s.setPlp (s.plp.hear s.mwt.warning d false true)) (d := d) hrx hlen
  exact (exec_character_quiet hpow hq).trans (congrArg _ ((takeCharacter_good hstrap).trans hjudged))

theorem characterEvaluates_of_discarded (h : noticeOfBytes (s.plp.gathered ++ [d]) = none) :
    characterEvaluates s (some d) false true = false :=
  characterEvaluates_quiet fun n hj => by
    rw [judgeFrame_none h] at hj
    cases hj

theorem characterEvaluates_of_own {n : Notice} (h : noticeOfBytes (s.plp.gathered ++ [d]) = some n)
    (hid : n.id = s.scv.stationId) : characterEvaluates s (some d) false true = false :=
  characterEvaluates_quiet fun m hj => by
    rw [judgeFrame_own h hid] at hj
    split at hj <;> cases hj

/-- The state after a good frame of another station: the table as the notice says, and an evaluation where it has changed
(R171). -/
theorem exec_character_other {n : Notice} (hpow : s.mainPowered = true) (hstrap : s.scv.strapDone = true)
    (hsetup : s.pnl.setupDone = true) (hrx : s.plp.rx = .receiving) (hlen : s.plp.gathered.length = 7)
    (hn : noticeOfBytes (s.plp.gathered ++ [d]) = some n) (hid : n.id ≠ s.scv.stationId) {w : State}
    (hw : deliverNotice (s.setPlp (s.plp.hear s.mwt.warning d false true).frameOver) n = w) :
    ∃ t, exec (.characterReceived (some d) false true) s = .next t ∧ Settled w t ∧
      ((∃ p ∈ s.fsu.peers, p.id = n.id) ∨ (n.farewell = false ∧ s.fsu.peers.length < 30) → mismatchFormed s t) := by
  have hbody : character s (some d) false true = w := by
    have hjudged := goodCharacter_judges (s := s.setPlp (s.plp.hear s.mwt.warning d false true)) (d := d) hrx hlen
    have hother := frameJudged_other (s := s.setPlp (s.plp.hear s.mwt.warning d false true)) hn hid
    exact ((takeCharacter_good hstrap).trans (hjudged.trans hother)).trans hw
  have hsame : w.fsu.mismatch = s.fsu.mismatch ∧ w.settings = s.settings := by
    rw [← hw, deliverNotice_eq]
    exact ⟨rfl, rfl⟩
  cases hch : deliveryChanges s n with
  | true =>
    refine ⟨_, exec_character_evaluates hpow ((characterEvaluates_other hstrap hrx hlen hn hid).trans hch), ?_, fun _ => ?_⟩
    · rw [hbody]
      exact Safety.finish_settled _ _ _
    · rw [hbody]
      exact finish_mismatchFormed hsame.1 hsame.2 s
  | false =>
    refine ⟨_, exec_character_quiet hpow ((characterEvaluates_other hstrap hrx hlen hn hid).trans hch), ?_, fun hroom => ?_⟩
    · rw [hbody]
      exact Safety.Settled.refl w
    · exact absurd ((deliveryChanges_of hsetup hroom).symm.trans hch) (by decide)

end Sys2Proof.Machine

namespace Sys2Proof.Proofs

open Sys2Proof.Machine Sys2Proof.Safety

/-- Settles O48, by the state of the receiver and what the frame carries. -/
theorem lineReceives : Obligations.LineReceives := by
  unfold Obligations.LineReceives
  intro s d hpow heard h errors
  refine ⟨fun flag ok => exec_character_quiet hpow characterEvaluates_none, fun flag ok hstrap => ?_, fun hstrap =>
    ⟨fun flag => ?_, ?_, fun hmore => ?_, fun hrx hlen => ?_⟩, ?_⟩
  · exact (exec_character_quiet hpow (characterEvaluates_partial (.inl hstrap) _)).trans
      (congrArg _ (takeCharacter_early hstrap))
  · have hbad : exec (.characterReceived (some d) flag false) s = .next (badCharacter (s.setPlp (heard flag false))) :=
      (exec_character_quiet hpow (characterEvaluates_partial (.inr (.inl rfl)) _)).trans
        (congrArg _ (takeCharacter_bad hstrap))
    rw [hbad]
    cases hrx : s.plp.rx with
    | idle => rw [badCharacter_idle (by exact hrx)]; rfl
    | receiving => rw [badCharacter_receiving (by exact hrx)]; rfl
    | discard => rw [badCharacter_discard (by exact hrx)]; rfl
  · have hgood : exec (.characterReceived (some d) true true) s = .next (goodCharacter (s.setPlp (heard true true)) d true) :=
      (exec_character_quiet hpow (characterEvaluates_partial (.inr (.inr (.inl rfl))) _)).trans
        (congrArg _ (takeCharacter_good hstrap))
    rw [hgood]
    cases hrx : s.plp.rx with
    | idle => rw [goodCharacter_begins (by exact fun e => RxState.noConfusion (hrx.symm.trans e))]; rfl
    | receiving => rw [goodCharacter_restarts (by exact hrx)]; rfl
    | discard => rw [goodCharacter_begins (by exact fun e => RxState.noConfusion (hrx.symm.trans e))]; rfl
  · have hpartial : s.plp.rx ≠ .receiving ∨ s.plp.gathered.length ≠ 7 := hmore.imp_right Nat.ne_of_lt
    have hgood : exec (.characterReceived (some d) false true) s = .next (goodCharacter (s.setPlp h) d false) :=
      (exec_character_quiet hpow (characterEvaluates_partial (.inr (.inr (.inr hpartial))) _)).trans
        (congrArg _ (takeCharacter_good hstrap))
    rw [hgood]
    cases hrx : s.plp.rx with
    | idle => rw [goodCharacter_unflagged (by exact hrx)]; rfl
    | receiving => rw [goodCharacter_gathers (by exact hrx) (by exact hmore.resolve_left fun hne => hne hrx)]; rfl
    | discard => rw [goodCharacter_discarded (by exact hrx)]; rfl
  · intro bs e
    refine ⟨fun hn => ?_, fun n hn => ⟨fun hid he => ?_, fun hid he => ?_, fun hid hsetup => ?_, fun hid hsetup => ?_⟩⟩
    · rw [exec_character_frame hpow hstrap hrx hlen (characterEvaluates_of_discarded hn), frameJudged_none hn]
      rfl
    · rw [exec_character_frame hpow hstrap hrx hlen (characterEvaluates_of_own hn hid), frameJudged_echo (by exact hn) (by exact hid) (by exact he)]
      rfl
    · rw [exec_character_frame hpow hstrap hrx hlen (characterEvaluates_of_own hn hid), frameJudged_clash (by exact hn) (by exact hid) (by exact he)]
      rfl
    · have hquiet : characterEvaluates s (some d) false true = false := by
        rw [characterEvaluates_other hstrap hrx hlen hn hid, deliveryChanges, hsetup]
        rfl
      rw [exec_character_frame hpow hstrap hrx hlen hquiet, frameJudged_other (by exact hn) (by exact hid), deliverNotice_early (by exact hsetup)]
      rfl
    · obtain ⟨t, ht, hset, hmismatch⟩ := exec_character_other hpow hstrap hsetup hrx hlen hn hid rfl
      obtain ⟨hpeers, -, -, hfull⟩ := feeder_of_settled hset
      refine ⟨t, ht, ?_, hmismatch, fun hf => ?_, fun hf hroom => ?_, fun hf hnew hlen30 => ?_⟩
      · rw [hpeers, hfull]
        rw [deliverNotice_eq] at hset
        exact hset
      · rw [hpeers, hfull, deliverNotice_farewell (by exact hsetup) hf]
        exact ⟨rfl, fun p => mem_removePeer_iff _ _ p⟩
      · rw [hpeers, hfull, deliverNotice_stored (by exact hsetup) hf (by exact hroom)]
        refine ⟨rfl, fun p => ?_⟩
        exact mem_insertPeer.trans ((or_congr Iff.rfl (mem_removePeer_iff _ _ p)).trans or_comm)
      · rw [hpeers, hfull, deliverNotice_full (by exact hsetup) hf (by exact hnew) (by exact hlen30)]
        exact ⟨rfl, rfl⟩
  · have hset := lineBecomesIdle_settled s
    refine ⟨_, quietEvent_of_due hpow rfl, portFault_of_settled hset, ?_⟩
    rw [becomeIdle_eq] at hset
    exact hset

end Sys2Proof.Proofs
end

section
/-! PROOFS. What the start-up scan makes of the ring it reads (R114 to R117, R119): the newest record, the pointer, the
sectors and the erase queue. -/

namespace Sys2Proof.Machine

open Safety (Torn Blank NewestAt)

variable {m : List Host.Cell} {r : Ring} {k i : Nat} {n : Record}

/-! ## The searches -/

theorem length_readSector (m : List Host.Cell) (k : Nat) : (readSector m k).length = 64 := by
  simp [readSector]

/-- A BLANK slot stands first among those given. -/
def FirstBlank (slots : List SlotRead) (j : Nat) : Prop :=
  slots[j]? = some .blank ∧ ∀ l, l < j → slots[l]? ≠ some .blank

theorem firstBlank_cons {x : SlotRead} (h : x ≠ .blank) (i : Nat) (rest : List SlotRead) :
    firstBlank i (x :: rest) = firstBlank (i + 1) rest := by
  cases x with
  | blank => exact absurd rfl h
  | valid r => rfl
  | bad => rfl

theorem firstBlank_of_first (slots : List SlotRead) : ∀ (i j : Nat), FirstBlank slots j → firstBlank i slots = some (i + j) := by
  induction slots with
  | nil =>
    rintro i j ⟨h, -⟩
    cases h
  | cons x rest ih =>
    rintro i j ⟨hj, hbefore⟩
    cases j with
    | zero =>
      have hx : x = .blank := Option.some.inj hj
      subst hx
      rfl
    | succ j =>
      have hx : x ≠ .blank := fun e => hbefore 0 (Nat.succ_pos j) (congrArg some e)
      have hrest : FirstBlank rest j := ⟨hj, fun l hl => hbefore (l + 1) (Nat.succ_lt_succ hl)⟩
      rw [firstBlank_cons hx, ih (i + 1) j hrest, Nat.add_right_comm, Nat.add_assoc]

theorem firstBlank_of_none (slots : List SlotRead) (h : ∀ x ∈ slots, x ≠ .blank) : ∀ i, firstBlank i slots = none := by
  induction slots with
  | nil => exact fun _ => rfl
  | cons x rest ih =>
    obtain ⟨hx, hrest⟩ := List.forall_mem_cons.1 h
    exact fun i => (firstBlank_cons hx i rest).trans (ih hrest (i + 1))

/-- A place of the newest record is the place (R115). -/
theorem newestAt_unique {q j : Nat} {x : Record} (h : NewestAt m k i n) (g : NewestAt m q j x) : q = k ∧ j = i ∧ x = n := by
  obtain ⟨hk, htorn, hread, hbest⟩ := h
  obtain ⟨hq, htornq, hreadq, hbestq⟩ := g
  have h1 := hbest q j x hq htornq hreadq
  have h2 := hbestq k i n hk htorn hread
  have hqk : q = k := by omega
  have hseq : x.sequence = n.sequence := by omega
  subst hqk
  have hji : j = i := by
    rcases Nat.lt_trichotomy j i with hlt | heq | hgt
    · exact absurd (.inr ⟨j, i, x, n, hlt, hreadq, hread, Nat.le_of_eq hseq.symm⟩) htorn
    · exact heq
    · exact absurd (.inr ⟨i, j, n, x, hgt, hread, hreadq, Nat.le_of_eq hseq⟩) htorn
  subst hji
  have hsame := hreadq.symm.trans hread
  cases hsame
  exact ⟨rfl, rfl, rfl⟩

theorem ring_newest_of (h : NewestAt m k i n) : (readRing m).newest = some ⟨n, k, i⟩ := by
  cases hf : (readRing m).newest with
  | none =>
    obtain ⟨hk, htorn, hread, -⟩ := h
    exact absurd hread (Safety.newest_none hf k i n hk htorn)
  | some f =>
    obtain ⟨hsector, hslot, hrecord⟩ := newestAt_unique h (Safety.newest_some hf)
    cases f
    cases hsector
    cases hslot
    cases hrecord
    rfl

theorem ring_newest_of_none (h : ∀ (k i : Nat) (r : Record), k < 4 → ¬ Torn (readSector m k) →
    (readSector m k)[i]? ≠ some (.valid r)) : (readRing m).newest = none := by
  cases hf : (readRing m).newest with
  | none => rfl
  | some f =>
    obtain ⟨hk, htorn, hread, -⟩ := Safety.newest_some hf
    exact absurd hread (h _ _ _ hk htorn)

/-- A sector with a VALID record is not BLANK. -/
theorem not_blank_of_valid {slots : List SlotRead} (h : slots[i]? = some (.valid n)) : ¬ Blank slots := fun hb =>
  SlotRead.noConfusion (hb _ (List.mem_of_getElem? h))

theorem not_torn_of_blank {slots : List SlotRead} (h : Blank slots) : ¬ Torn slots := by
  have hat : ∀ {j : Nat} {x : SlotRead}, slots[j]? = some x → x = .blank := fun hj => h _ (List.mem_of_getElem? hj)
  rintro (⟨i, j, x, -, -, hj, hx⟩ | ⟨i, j, r, q, -, hi, -, -⟩)
  · exact hx (hat hj)
  · exact SlotRead.noConfusion (hat hi)

/-! ## The pointer -/

theorem pointer_of_newest {f : Found} (h : r.newest = some f) : r.pointer =
    (f.sector, (firstBlank (f.slot + 1) ((r.slots f.sector).drop (f.slot + 1))).getD 64) := by
  rw [Ring.pointer, h]

theorem pointer_at_blank {j : Nat} (h : NewestAt m k i n) (hij : i < j) (hj : (readSector m k)[j]? = some .blank)
    (hbefore : ∀ l, i < l → l < j → (readSector m k)[l]? ≠ some .blank) : (readRing m).pointer = (k, j) := by
  have hfirst : FirstBlank ((readSector m k).drop (i + 1)) (j - (i + 1)) := by
    refine ⟨?_, fun l hl => ?_⟩
    · rw [List.getElem?_drop, Nat.add_sub_cancel' hij]
      exact hj
    · rw [List.getElem?_drop]
      exact hbefore _ (by omega) (by omega)
  rw [pointer_of_newest (ring_newest_of h), Safety.slots_readRing m k h.1, firstBlank_of_first _ _ _ hfirst,
    Nat.add_sub_cancel' hij]
  rfl

theorem pointer_past_end (h : NewestAt m k i n) (hnone : ∀ j, i < j → (readSector m k)[j]? ≠ some .blank) :
    (readRing m).pointer = (k, 64) := by
  have hrest : ∀ x ∈ (readSector m k).drop (i + 1), x ≠ .blank := fun x hx => by
    obtain ⟨l, hl⟩ := List.mem_iff_getElem?.1 hx
    rw [List.getElem?_drop] at hl
    rintro rfl
    exact hnone _ (by omega) hl
  rw [pointer_of_newest (ring_newest_of h), Safety.slots_readRing m k h.1, firstBlank_of_none _ hrest]
  rfl

theorem pointer_of_none (h : r.newest = none) : r.pointer =
    (([0, 1, 2, 3].find? fun k => allBlank (r.slots k)).map (·, 0)).getD (3, 64) := by
  rw [Ring.pointer, h]
  dsimp only
  split <;> rename_i hfind <;> rw [hfind] <;> rfl

/-- With no valid record the pointer stands at the lowest BLANK sector (R116). -/
theorem pointer_at_sector (h : (readRing m).newest = none) (hk : k < 4) (hb : Blank (readSector m k))
    (hlow : ∀ q, q < k → ¬ Blank (readSector m q)) : (readRing m).pointer = (k, 0) := by
  have hblank : ∀ q, q < 4 → (allBlank ((readRing m).slots q) = true ↔ Blank (readSector m q)) := fun q hq => by
    rw [Safety.slots_readRing m q hq, Safety.allBlank_iff]
  have hfind : ([0, 1, 2, 3].find? fun q => allBlank ((readRing m).slots q)) = some k := by
    rw [List.find?_eq_some_iff_getElem]
    have hat : ∀ (q : Nat) (hq : q < (List.range 4).length), (List.range 4)[q] = q := fun _ _ => List.getElem_range _
    refine ⟨(hblank k hk).2 hb, k, hk, hat k hk, fun j hj => ?_⟩
    have hj4 : j < 4 := Nat.lt_trans hj hk
    have hjat : [0, 1, 2, 3][j] = j := hat j hj4
    rw [hjat, Bool.not_eq_true', Bool.eq_false_iff, ne_eq, hblank j hj4]
    exact hlow j hj
  rw [pointer_of_none h, hfind]
  rfl

theorem pointer_nowhere (h : (readRing m).newest = none) (hnone : ∀ k, k < 4 → ¬ Blank (readSector m k)) :
    (readRing m).pointer = (3, 64) := by
  have hfind : ([0, 1, 2, 3].find? fun q => allBlank ((readRing m).slots q)) = none := by
    rw [List.find?_eq_none]
    intro q hq
    have hq4 : q < 4 := by
      simp only [List.mem_cons, List.not_mem_nil, or_false] at hq
      omega
    rw [Safety.slots_readRing m q hq4, Safety.allBlank_iff]
    exact hnone q hq4
  rw [pointer_of_none h, hfind]
  rfl

/-! ## The sectors -/

theorem pointer_sector (m : List Host.Cell) : (readRing m).pointer.1 < 4 := by
  cases hf : (readRing m).newest with
  | some f =>
    rw [pointer_of_newest hf]
    exact (Safety.newest_some hf).1
  | none =>
    rw [pointer_of_none hf]
    cases hfind : [0, 1, 2, 3].find? fun k => allBlank ((readRing m).slots k) with
    | none => decide
    | some k =>
      have hmem := List.mem_of_find?_eq_some hfind
      simp only [List.mem_cons, List.not_mem_nil, or_false] at hmem
      change k < 4
      omega

theorem state_active (hk : r.pointer.1 = k) (hs : r.pointer.2 ≤ 63) : r.state k = .active := by
  rw [Ring.state, decide_eq_true hk, decide_eq_true hs]
  rfl

theorem state_read (h : r.pointer.1 ≠ k ∨ 64 ≤ r.pointer.2) : r.state k =
    if isTorn (r.slots k) then .torn else if allBlank (r.slots k) then .erased else .full := by
  have hnot : ¬ (decide (r.pointer.1 = k) && decide (r.pointer.2 ≤ 63)) = true := by
    rw [Bool.and_eq_true_iff, decide_eq_true_iff, decide_eq_true_iff]
    rintro ⟨hk, hs⟩
    rcases h with h | h
    · exact h hk
    · omega
  exact if_neg hnot

/-- What the scan makes of a sector in which the pointer does not stand (R114, R116). -/
def SectorRead (slots : List SlotRead) (x : SectorState) : Prop :=
  (Torn slots → x = .torn) ∧ (Blank slots → x = .erased) ∧ (¬ Torn slots → ¬ Blank slots → x = .full)

theorem state_sectorRead (hk : k < 4) (h : (readRing m).pointer.1 ≠ k ∨ 64 ≤ (readRing m).pointer.2) :
    SectorRead (readSector m k) ((readRing m).state k) := by
  rw [state_read h, Safety.slots_readRing m k hk]
  refine ⟨fun ht => if_pos ((Safety.isTorn_iff _).2 ht), fun hb => ?_, fun ht hb => ?_⟩
  · rw [if_neg (mt (Safety.isTorn_iff _).1 (not_torn_of_blank hb)), if_pos ((Safety.allBlank_iff _).2 hb)]
  · rw [if_neg (mt (Safety.isTorn_iff _).1 ht), if_neg (mt (Safety.allBlank_iff _).1 hb)]

/-- Every sector reads as one of these. -/
theorem state_cases (m : List Host.Cell) (k : Nat) : (readRing m).state k = .active ∨ (readRing m).state k = .torn ∨
    (readRing m).state k = .erased ∨ (readRing m).state k = .full := by
  unfold Ring.state
  repeat' split
  · exact .inl rfl
  · exact .inr (.inl rfl)
  · exact .inr (.inr (.inl rfl))
  · exact .inr (.inr (.inr rfl))

/-! ## The journal after the scan -/

/-- The scan has opened the sector after the pointer's at once: the pointer stands past its last slot, and the next is
ERASED (R116). -/
def Ring.opens (r : Ring) : Prop := r.pointer.2 = 64 ∧ r.state (nextSector r.pointer.1) = .erased


/-- The journal as read, before the next sector is opened and the queue is formed. -/
def Journal.read (j : Journal) (m : List Host.Cell) : Journal :=
  let r := readRing m
  let f := r.newest
  { j with
    sector0 := r.state 0, sector1 := r.state 1, sector2 := r.state 2, sector3 := r.state 3,
    ptrSector := r.pointer.1, ptrSlot := r.pointer.2,
    nextSeq := match f with | some f => satInc 4294967295 f.record.sequence | none => 1,
    newest := f.map Found.record,
    newestBad := match f with | some f => r.newestBad f | none => false,
    activeFound := match f with | some f => f.record.kind != RecordKind.finish | none => false,
    factoryGood := (readFactory m).isSome,
    serial := match readFactory m with | some x => x.1 | none => 0,
    product := match readFactory m with | some x => x.2 | none => 0,
    scanDone := true }

/-- The TORN sectors from the one after the pointer's on (R116). -/
def Journal.tornAhead (j : Journal) : List Nat :=
  [nextSector j.ptrSector, nextSector (nextSector j.ptrSector), nextSector (nextSector (nextSector j.ptrSector))].filter
    fun k => j.sector k = .torn

theorem scanned_eq (j : Journal) (m : List Host.Cell) :
    j.scanned m = { (j.read m).openNext with queue := (j.read m).openNext.tornAhead }.eraseAhead := rfl

/-- Opening the next sector changes the sectors and the pointer alone. -/
theorem openNext_rest (j : Journal) : j.openNext = { j with
    sector0 := j.openNext.sector0, sector1 := j.openNext.sector1, sector2 := j.openNext.sector2,
    sector3 := j.openNext.sector3, ptrSector := j.openNext.ptrSector, ptrSlot := j.openNext.ptrSlot } := by
  unfold Journal.openNext Journal.setSector Journal.setPtr
  repeat' split
  all_goals rfl

/-- The erase-ahead test changes the queue alone. -/
theorem eraseAhead_rest (j : Journal) : j.eraseAhead = { j with queue := j.eraseAhead.queue } := by
  unfold Journal.eraseAhead
  dsimp only
  split <;> rfl

/-- What a scan changes of the journal (R115, R116, R119). -/
theorem scanned_rest (j : Journal) (m : List Host.Cell) : j.scanned m = { j.read m with
    sector0 := (j.read m).openNext.sector0, sector1 := (j.read m).openNext.sector1,
    sector2 := (j.read m).openNext.sector2, sector3 := (j.read m).openNext.sector3,
    ptrSector := (j.read m).openNext.ptrSector, ptrSlot := (j.read m).openNext.ptrSlot,
    queue := (j.scanned m).queue } := by
  have h := openNext_rest (j.read m)
  rw [scanned_eq, eraseAhead_rest, h]

variable {j : Journal}

theorem read_sector (j : Journal) (m : List Host.Cell) (hk : k < 4) : (j.read m).sector k = (readRing m).state k := by
  match k, hk with
  | 0, _ => rfl
  | 1, _ => rfl
  | 2, _ => rfl
  | 3, _ => rfl

theorem nextSector_lt (k : Nat) : nextSector k < 4 := Nat.mod_lt _ (by decide)

theorem sector_setSector_of_lt (j : Journal) {k q : Nat} (hk : k < 4) (hq : q < 4) (x : SectorState) :
    (j.setSector k x).sector q = if q = k then x else j.sector q := by
  rw [sector_setSector, Nat.min_eq_left (Nat.le_of_lt_succ hk), Nat.min_eq_left (Nat.le_of_lt_succ hq)]
  exact ite_congr (propext eq_comm) (fun _ => rfl) fun _ => rfl

theorem opens_iff (j : Journal) (m : List Host.Cell) :
    ((j.read m).ptrSlot = 64 && (j.read m).sector (j.read m).next = .erased) = true ↔ (readRing m).opens := by
  have hnext : (j.read m).next = nextSector (readRing m).pointer.1 := rfl
  rw [Bool.and_eq_true_iff, decide_eq_true_iff, decide_eq_true_iff, hnext, read_sector j m (nextSector_lt _)]
  rfl

theorem scanned_place (j : Journal) (m : List Host.Cell) : (j.scanned m).ptrSector = (j.read m).openNext.ptrSector ∧
    (j.scanned m).ptrSlot = (j.read m).openNext.ptrSlot ∧ ∀ k, (j.scanned m).sector k = (j.read m).openNext.sector k := by
  rw [scanned_eq, eraseAhead_rest]
  exact ⟨rfl, rfl, fun _ => rfl⟩

/-- With the pointer past the last slot of its sector and the next sector ERASED, the next is opened (R116). -/
theorem scanned_of_opens (h : (readRing m).opens) : (j.scanned m).ptrSector = nextSector (readRing m).pointer.1 ∧
    (j.scanned m).ptrSlot = 0 ∧ ∀ k, k < 4 → (j.scanned m).sector k =
      if k = nextSector (readRing m).pointer.1 then .active else (readRing m).state k := by
  obtain ⟨hsector, hslot, hsectors⟩ := scanned_place j m
  have hopen : (j.read m).openNext = ((j.read m).setSector (j.read m).next .active).setPtr (j.read m).next 0 :=
    if_pos ((opens_iff j m).2 h)
  rw [hsector, hslot, hopen]
  refine ⟨rfl, rfl, fun k hk => ?_⟩
  have hset : ∀ q, (((j.read m).setSector (j.read m).next .active).setPtr (j.read m).next 0).sector q =
      ((j.read m).setSector (j.read m).next .active).sector q := fun _ => rfl
  rw [hsectors, hopen, hset, sector_setSector_of_lt _ (by exact nextSector_lt _) hk, read_sector j m hk]
  rfl

theorem scanned_of_not_opens (h : ¬ (readRing m).opens) : (j.scanned m).ptrSector = (readRing m).pointer.1 ∧
    (j.scanned m).ptrSlot = (readRing m).pointer.2 ∧ ∀ k, k < 4 → (j.scanned m).sector k = (readRing m).state k := by
  obtain ⟨hsector, hslot, hsectors⟩ := scanned_place j m
  have hopen : (j.read m).openNext = j.read m := if_neg (mt (opens_iff j m).1 h)
  rw [hsector, hslot, hopen]
  refine ⟨rfl, rfl, fun k hk => ?_⟩
  rw [hsectors, hopen, read_sector j m hk]

theorem nextSector_ne (k : Nat) : nextSector k ≠ k := by
  unfold nextSector
  omega

/-- Every sector has its state, but for the one in which the pointer stands at a slot (R114, R116). -/
theorem scanned_sectorRead (hk : k < 4) (h : k ≠ (j.scanned m).ptrSector ∨ (j.scanned m).ptrSlot = 64) :
    SectorRead (readSector m k) ((j.scanned m).sector k) := by
  by_cases ho : (readRing m).opens
  · obtain ⟨hsector, hslot, hsectors⟩ := scanned_of_opens (j := j) ho
    rw [hsector, hslot] at h
    rw [hsectors k hk, if_neg (h.resolve_right (by decide))]
    exact state_sectorRead hk (.inr (Nat.le_of_eq ho.1.symm))
  · obtain ⟨hsector, hslot, hsectors⟩ := scanned_of_not_opens (j := j) ho
    rw [hsector, hslot] at h
    rw [hsectors k hk]
    exact state_sectorRead hk (h.imp Ne.symm fun e => Nat.le_of_eq e.symm)

theorem SectorRead.cases {slots : List SlotRead} {x : SectorState} (h : SectorRead slots x) :
    x = .torn ∨ x = .erased ∨ x = .full := by
  obtain ⟨htorn, hblank, hfull⟩ := h
  by_cases ht : Torn slots
  · exact .inl (htorn ht)
  · by_cases hb : Blank slots
    · exact .inr (.inl (hblank hb))
    · exact .inr (.inr (hfull ht hb))

theorem scanned_ptrSector_lt (j : Journal) (m : List Host.Cell) : (j.scanned m).ptrSector < 4 := by
  by_cases ho : (readRing m).opens
  · rw [(scanned_of_opens ho).1]
    exact nextSector_lt _
  · rw [(scanned_of_not_opens ho).1]
    exact pointer_sector m

/-! ## The erase queue -/

/-- The erase-ahead test on a queue of the TORN sectors, with the next sector TORN, ERASED or FULL (R107). -/
theorem eraseAhead_torn {o : Journal} (hx : o.sector o.next = .torn ∨ o.sector o.next = .erased ∨ o.sector o.next = .full)
    (hq : o.queue = o.tornAhead) : o.eraseAhead.queue =
      o.tornAhead ++ if 32 ≤ o.ptrSlot ∧ o.sector o.next = .full then [o.next] else [] := by
  have hmem : o.tornAhead.contains o.next = true ↔ o.sector o.next = .torn := by
    rw [List.contains_iff_mem, Journal.tornAhead, List.mem_filter, decide_eq_true_iff]
    exact and_iff_right (List.mem_cons_self ..)
  have htest : (32 ≤ o.ptrSlot && !(o.sector o.next = .erased || o.sector o.next = .erasing || o.sector o.next = .suspended)
      && !o.tornAhead.contains o.next) = true ↔ 32 ≤ o.ptrSlot ∧ o.sector o.next = .full := by
    rw [Bool.and_eq_true_iff, Bool.and_eq_true_iff, decide_eq_true_iff, Bool.not_eq_true', Bool.not_eq_true',
      ← Bool.not_eq_true (o.tornAhead.contains _), hmem]
    rcases hx with hx | hx | hx <;> rw [hx] <;> simp
  unfold Journal.eraseAhead
  dsimp only
  rw [hq]
  by_cases h : 32 ≤ o.ptrSlot ∧ o.sector o.next = .full
  · rw [if_pos h, if_pos (htest.2 h)]
  · rw [if_neg h, if_neg (mt htest.1 h), hq, List.append_nil]

/-- The erase queue formed of the TORN sectors from the one after the pointer's on, and by the erase-ahead test of the next
sector (R107, R116). -/
theorem queue_formed {o J : Journal} (hJ : { o with queue := o.tornAhead }.eraseAhead = J)
    (hx : J.sector (nextSector J.ptrSector) = .torn ∨ J.sector (nextSector J.ptrSector) = .erased ∨
      J.sector (nextSector J.ptrSector) = .full) : J.queue =
    ([(J.ptrSector + 1) % 4, (J.ptrSector + 2) % 4, (J.ptrSector + 3) % 4].filter (J.sector · = .torn)) ++
      (if 32 ≤ J.ptrSlot ∧ J.sector ((J.ptrSector + 1) % 4) = .full then [(J.ptrSector + 1) % 4] else []) := by
  have hnext : ∀ p : Nat, nextSector (nextSector p) = (p + 2) % 4 ∧ nextSector (nextSector (nextSector p)) = (p + 3) % 4 :=
    fun p => by
      unfold nextSector
      omega
  have hrest : J = { o with queue := J.queue } := by
    rw [← hJ]
    exact eraseAhead_rest _
  rw [hrest] at hx
  have hqueue := eraseAhead_torn (o := { o with queue := o.tornAhead }) hx rfl
  rw [hJ] at hqueue
  rw [hqueue, hrest, ← (hnext _).1, ← (hnext _).2]
  rfl

theorem scanned_queue (j : Journal) (m : List Host.Cell) : (j.scanned m).queue =
    ([((j.scanned m).ptrSector + 1) % 4, ((j.scanned m).ptrSector + 2) % 4, ((j.scanned m).ptrSector + 3) % 4].filter
      ((j.scanned m).sector · = .torn)) ++
      (if 32 ≤ (j.scanned m).ptrSlot ∧ (j.scanned m).sector (((j.scanned m).ptrSector + 1) % 4) = .full
       then [((j.scanned m).ptrSector + 1) % 4] else []) :=
  queue_formed (scanned_eq j m).symm (scanned_sectorRead (nextSector_lt _) (.inl (nextSector_ne _))).cases

/-! ## The newest record -/

/-- What a scan leaves of the journal. -/
theorem scanned_keeps (j : Journal) (m : List Host.Cell) : (j.scanned m).fault = j.fault ∧ (j.scanned m).pend = j.pend ∧
    (j.scanned m).scanDone = true ∧ (j.scanned m).op = j.op ∧ (j.scanned m).lossMark = j.lossMark ∧
    (j.scanned m).counters = j.counters := by
  rw [scanned_rest]
  exact ⟨rfl, rfl, rfl, rfl, rfl, rfl⟩

/-- The factory record of a scan (R119). -/
theorem scanned_factory (j : Journal) (m : List Host.Cell) : (j.scanned m).factoryGood = (readFactory m).isSome ∧
    ((j.scanned m).factoryGood, (j.scanned m).serial, (j.scanned m).product) =
      ((readFactory m).map fun x => (true, x.1, x.2)).getD (false, 0, 0) := by
  have hread : (j.read m).factoryGood = (readFactory m).isSome ∧
      ((j.read m).factoryGood, (j.read m).serial, (j.read m).product) =
        ((readFactory m).map fun x => (true, x.1, x.2)).getD (false, 0, 0) := by
    unfold Journal.read
    cases readFactory m <;> exact ⟨rfl, rfl⟩
  rw [scanned_rest]
  exact hread

/-- What a scan takes from the newest record (R115). -/
theorem scanned_of_newest {f : Found} (h : (readRing m).newest = some f) : (j.scanned m).newest = some f.record ∧
    (j.scanned m).nextSeq = satInc 4294967295 f.record.sequence ∧
    (j.scanned m).activeFound = (f.record.kind != RecordKind.finish) ∧
    (j.scanned m).newestBad = (readRing m).newestBad f := by
  have hread : (j.read m).newest = some f.record ∧ (j.read m).nextSeq = satInc 4294967295 f.record.sequence ∧
      (j.read m).activeFound = (f.record.kind != RecordKind.finish) ∧ (j.read m).newestBad = (readRing m).newestBad f := by
    unfold Journal.read
    dsimp only
    rw [h]
    exact ⟨rfl, rfl, rfl, rfl⟩
  rw [scanned_rest]
  exact hread

theorem scanned_of_none (h : (readRing m).newest = none) : (j.scanned m).newest = none ∧ (j.scanned m).nextSeq = 1 ∧
    (j.scanned m).activeFound = false ∧ (j.scanned m).newestBad = false := by
  have hread : (j.read m).newest = none ∧ (j.read m).nextSeq = 1 ∧ (j.read m).activeFound = false ∧
      (j.read m).newestBad = false := by
    unfold Journal.read
    dsimp only
    rw [h]
    exact ⟨rfl, rfl, rfl, rfl⟩
  rw [scanned_rest]
  exact hread

/-- The newest-slot-bad flag of a record in one of its sector's last slots, with BLANK slots alone after it, is judged by
the next sector (R115). -/
theorem newestBad_next (hk : k < 4) (hi : 61 ≤ i) (hb : Blank ((readSector m k).drop (i + 1))) :
    (readRing m).newestBad ⟨n, k, i⟩ = true ↔ ¬ Torn (readSector m ((k + 1) % 4)) ∧
      (∀ r, SlotRead.valid r ∉ readSector m ((k + 1) % 4)) ∧ (readSector m ((k + 1) % 4))[0]? = some .bad := by
  have hnext : nextSector k < 4 := nextSector_lt k
  have hvalid : (validRecords (readSector m (nextSector k))).isEmpty = true ↔
      ∀ r, SlotRead.valid r ∉ readSector m (nextSector k) := by
    rw [List.isEmpty_iff, List.eq_nil_iff_forall_not_mem]
    exact forall_congr' fun r => not_congr (Safety.mem_validRecords r _)
  unfold Ring.newestBad
  dsimp only
  rw [Safety.slots_readRing m k hk, Safety.slots_readRing m _ hnext, if_pos (by rw [decide_eq_true hi, (Safety.allBlank_iff _).2 hb]; rfl),
    Bool.and_eq_true_iff, Bool.and_eq_true_iff, hvalid, decide_eq_true_iff, Bool.not_eq_true', Safety.isTorn_eq_false,
    List.head?_eq_getElem?, and_assoc]
  rfl

/-- Elsewhere the slot after it judges it (R115). -/
theorem newestBad_after (hk : k < 4) (h : i < 61 ∨ ¬ Blank ((readSector m k).drop (i + 1))) :
    (readRing m).newestBad ⟨n, k, i⟩ = true ↔ (readSector m k)[i + 1]? = some .bad := by
  have hnot : ¬ (decide (61 ≤ i) && allBlank ((readSector m k).drop (i + 1))) = true := by
    rw [Bool.and_eq_true_iff, decide_eq_true_iff, Safety.allBlank_iff]
    rintro ⟨hi, hb⟩
    rcases h with h | h
    · exact absurd h (Nat.not_lt.2 hi)
    · exact h hb
  unfold Ring.newestBad
  dsimp only
  rw [Safety.slots_readRing m k hk, if_neg hnot, decide_eq_true_iff, List.head?_drop]

end Sys2Proof.Machine
end

section
/-! PROOFS. The completed start-up scan (R5, R103, R106, R114 to R119). -/

namespace Sys2Proof.Machine

open Safety (Torn Blank NewestAt)

/-! ## The sequencer and the fault event -/

/-- The cycle id that a scan finds (R5). -/
def Journal.foundId (j : Journal) : Nat := (j.newest.map fun r => r.cyc.cycleId).getD 0

/-- The state after a scan but for numbers used up (R5, R117, R119). -/
def scanRead (s : State) : State :=
  let j := s.pjr.scanned s.flash
  { s with pjr := j, csq := { s.csq with cyc := { s.csq.cyc with cycleId := j.foundId } },
           pnl := { s.pnl with evFault := s.pnl.evFault || !j.factoryGood } }

theorem scanComplete_eq {s : State} (h : s.pjr.scanDone = false) : scanComplete s =
    if (s.pjr.scanned s.flash).numbersUsed then setJournalFault (scanRead s) else scanRead s := by
  have hread : ∀ (j : Journal) (id : Nat), (if j.factoryGood then (s.setPjr j).setCsq { s.csq with cyc := { s.csq.cyc with
        cycleId := id } } else raiseFault ((s.setPjr j).setCsq { s.csq with cyc := { s.csq.cyc with cycleId := id } })) =
      { s with pjr := j, csq := { s.csq with cyc := { s.csq.cyc with cycleId := id } },
               pnl := { s.pnl with evFault := s.pnl.evFault || !j.factoryGood } } := fun j id => by
    cases hg : j.factoryGood with
    | true => rw [if_pos rfl, Bool.not_true, Bool.or_false]; rfl
    | false => rw [if_neg Bool.false_ne_true, Bool.not_false, Bool.or_true]; rfl
  unfold scanComplete scanRead Journal.foundId
  rw [h, if_neg Bool.false_ne_true]
  dsimp only
  generalize s.pjr.scanned s.flash = j
  cases j.newest with
  | none => exact congrArg (fun v => if j.numbersUsed then setJournalFault v else v) (hread j 0)
  | some r => exact congrArg (fun v => if j.numbersUsed then setJournalFault v else v) (hread j r.cyc.cycleId)

section
variable (s : State)

/-- The sequencer's and the panel's part of a fault report: none from a taken RESET on (R26, R27). -/
theorem journalFaultReport_eq : journalFaultReport s = { s with
    csq := { s.csq with cyc := { s.csq.cyc with reasons := { s.csq.cyc.reasons with
      journalFault := s.csq.cyc.reasons.journalFault || !s.pnl.resetPending } } },
    pnl := { s.pnl with evFault := s.pnl.evFault || !s.pnl.resetPending } } := by
  unfold journalFaultReport
  cases hr : s.pnl.resetPending with
  | true => rw [if_pos rfl, Bool.not_true, Bool.or_false, Bool.or_false]
  | false => rw [if_neg Bool.false_ne_true, Bool.not_false, Bool.or_true, Bool.or_true]; rfl

@[simp] theorem recordDone_resetPending : (recordDone s).pnl.resetPending = s.pnl.resetPending := by
  unfold recordDone leaveLoss enterPlanning setCycle
  repeat' split
  all_goals rfl

/-- JOURNAL_FAULT set, with no record pending to be reported done (R106). -/
theorem setJournalFault_of_none (h : s.pjr.pend = none) :
    setJournalFault s = journalFaultReport (s.setPjr { s.pjr with fault := true, pend := none }) := by
  unfold setJournalFault
  dsimp only
  rw [h]
  rfl

theorem setJournalFault_pjr : (setJournalFault s).pjr = { s.pjr with fault := true, pend := none } := by
  unfold setJournalFault
  simp only [journalFaultReport_frame]
  split <;> simp

theorem setJournalFault_cyc : (setJournalFault s).csq.cyc = { s.csq.cyc with reasons := { s.csq.cyc.reasons with
    journalFault := s.csq.cyc.reasons.journalFault || !s.pnl.resetPending } } := by
  unfold setJournalFault
  rw [journalFaultReport_eq]
  split <;> simp

end

/-- What a completed scan leaves outside the journal, and of its fault and its pending record (R5, R103, R106, R119). -/
theorem scanComplete_state {s : State} (h : s.pjr.scanDone = false) {j : Journal} (hj : s.pjr.scanned s.flash = j) {told : Bool}
    (htold : told = (j.numbersUsed && !s.pnl.resetPending)) :
    (scanComplete s).pjr = { j with fault := j.fault || j.numbersUsed, pend := if j.numbersUsed then none else j.pend } ∧
    (scanComplete s).csq.cyc = { s.csq.cyc with cycleId := j.foundId, reasons := { s.csq.cyc.reasons with
      journalFault := s.csq.cyc.reasons.journalFault || told } } ∧
    (j.numbersUsed = false ∨ j.pend = none → scanComplete s = { s with
      pjr := (scanComplete s).pjr,
      csq := { s.csq with cyc := { s.csq.cyc with cycleId := j.foundId, reasons := { s.csq.cyc.reasons with
        journalFault := s.csq.cyc.reasons.journalFault || told } } },
      pnl := { s.pnl with evFault := s.pnl.evFault || !j.factoryGood || told } }) := by
  have hread : scanRead s = { s with
      pjr := j, csq := { s.csq with cyc := { s.csq.cyc with cycleId := j.foundId } },
      pnl := { s.pnl with evFault := s.pnl.evFault || !j.factoryGood } } := by rw [← hj]; rfl
  rw [scanComplete_eq h, hj, hread, htold]
  cases hu : j.numbersUsed with
  | false =>
    rw [if_neg Bool.false_ne_true, if_neg Bool.false_ne_true, Bool.or_false, Bool.false_and, Bool.or_false, Bool.or_false]
    exact ⟨rfl, rfl, fun _ => rfl⟩
  | true =>
    rw [if_pos rfl, if_pos rfl, Bool.or_true, Bool.true_and]
    refine ⟨setJournalFault_pjr _, setJournalFault_cyc _, fun hp => ?_⟩
    rw [setJournalFault_of_none _ (by exact hp.resolve_left Bool.noConfusion), journalFaultReport_eq]
    rfl

/-! ## The pointer and its sector -/

variable {m : List Host.Cell} {j : Journal} {k i : Nat} {n : Record}

theorem SectorRead.blank {slots : List SlotRead} {x : SectorState} (h : SectorRead slots x) (hx : x = .erased) : Blank slots := by
  obtain ⟨htorn, -, hfull⟩ := h
  refine Classical.byContradiction fun hb => ?_
  by_cases ht : Torn slots
  · exact SectorState.noConfusion (hx.symm.trans (htorn ht))
  · exact SectorState.noConfusion (hx.symm.trans (hfull ht hb))

/-- A pointer at a slot opens nothing, and its sector is ACTIVE (R116). -/
theorem scanned_at_slot {sector slot : Nat} (hp : (readRing m).pointer = (sector, slot)) (hslot : slot < 64) (hk : sector < 4) :
    (j.scanned m).ptrSector = sector ∧ (j.scanned m).ptrSlot = slot ∧ (j.scanned m).sector sector = .active := by
  have ho : ¬ (readRing m).opens := fun h => by
    have h64 : (readRing m).pointer.2 = 64 := h.1
    rw [hp] at h64
    exact absurd h64 (Nat.ne_of_lt hslot)
  obtain ⟨h1, h2, h3⟩ := scanned_of_not_opens (j := j) ho
  rw [h1, h2, h3 sector hk, hp]
  exact ⟨rfl, rfl, state_active (by rw [hp]) (by rw [hp]; exact Nat.le_of_lt_succ hslot)⟩

/-- A pointer past the last slot of a sector that is FULL: the next sector is opened if it is BLANK (R116). -/
theorem scanned_past_end (hp : (readRing m).pointer = (k, 64)) (hk : k < 4) :
    (Blank (readSector m ((k + 1) % 4)) → (j.scanned m).ptrSector = (k + 1) % 4 ∧ (j.scanned m).ptrSlot = 0 ∧
      (j.scanned m).sector ((k + 1) % 4) = .active) ∧
    (¬ Blank (readSector m ((k + 1) % 4)) → (j.scanned m).ptrSector = k ∧ (j.scanned m).ptrSlot = 64) ∧
    (¬ Torn (readSector m k) → ¬ Blank (readSector m k) → (j.scanned m).sector k = .full) := by
  have hp1 : (readRing m).pointer.1 = k := by rw [hp]
  have hp2 : (readRing m).pointer.2 = 64 := by rw [hp]
  have hnext : nextSector (readRing m).pointer.1 = (k + 1) % 4 := by rw [hp1]; rfl
  have hread := state_sectorRead (m := m) (nextSector_lt (readRing m).pointer.1) (.inr (Nat.le_of_eq hp2.symm))
  have hlt : (k + 1) % 4 < 4 := nextSector_lt k
  obtain ⟨-, hblank, -⟩ := hread
  rw [hnext] at hblank
  have hopens : (readRing m).opens ↔ Blank (readSector m ((k + 1) % 4)) := by
    refine ⟨fun h => ?_, fun hb => ⟨hp2, by rw [hnext]; exact hblank hb⟩⟩
    have herased := h.2
    rw [hnext] at herased
    exact (state_sectorRead hlt (.inr (Nat.le_of_eq hp2.symm))).blank herased
  refine ⟨fun hb => ?_, fun hb => ?_, fun ht hb => ?_⟩
  · obtain ⟨h1, h2, h3⟩ := scanned_of_opens (j := j) (hopens.2 hb)
    rw [h1, h2, hnext, h3 _ hlt, if_pos hnext.symm]
    exact ⟨rfl, rfl, rfl⟩
  · obtain ⟨h1, h2, -⟩ := scanned_of_not_opens (j := j) (mt hopens.1 hb)
    exact ⟨h1.trans hp1, h2.trans hp2⟩
  · have hfull : (j.scanned m).sector k = (readRing m).state k := by
      by_cases ho : (readRing m).opens
      · rw [(scanned_of_opens ho).2.2 k hk, if_neg (by rw [hnext]; exact (nextSector_ne k).symm)]
      · exact (scanned_of_not_opens ho).2.2 k hk
    rw [hfull]
    exact (state_sectorRead hk (.inr (Nat.le_of_eq hp2.symm))).2.2 ht hb

/-- The pointer after a scan that finds a newest record (R116). -/
theorem scanned_pointer (h : NewestAt m k i n) :
    (∀ j', i < j' → (readSector m k)[j']? = some .blank → (∀ l, i < l → l < j' → (readSector m k)[l]? ≠ some .blank) →
      (j.scanned m).ptrSector = k ∧ (j.scanned m).ptrSlot = j' ∧ (j.scanned m).sector k = .active) ∧
    ((∀ j', i < j' → (readSector m k)[j']? ≠ some .blank) →
      (Blank (readSector m ((k + 1) % 4)) → (j.scanned m).ptrSector = (k + 1) % 4 ∧ (j.scanned m).ptrSlot = 0 ∧
        (j.scanned m).sector ((k + 1) % 4) = .active ∧ (j.scanned m).sector k = .full) ∧
      (¬ Blank (readSector m ((k + 1) % 4)) → (j.scanned m).ptrSector = k ∧ (j.scanned m).ptrSlot = 64 ∧
        (j.scanned m).sector k = .full)) := by
  have hk : k < 4 := h.1
  have htorn : ¬ Torn (readSector m k) := h.2.1
  have hvalid : ¬ Blank (readSector m k) := not_blank_of_valid h.2.2.1
  refine ⟨fun slot hi hslot hbefore => ?_, fun hnone => ?_⟩
  · have hlt : slot < 64 := by
      have := (List.getElem?_eq_some_iff.1 hslot).1
      rwa [length_readSector] at this
    exact scanned_at_slot (pointer_at_blank h hi hslot hbefore) hlt hk
  · obtain ⟨hopens, hstays, hfull⟩ := scanned_past_end (j := j) (pointer_past_end h hnone) hk
    refine ⟨fun hb => ?_, fun hb => ?_⟩
    · obtain ⟨h1, h2, h3⟩ := hopens hb
      exact ⟨h1, h2, h3, hfull htorn hvalid⟩
    · obtain ⟨h1, h2⟩ := hstays hb
      exact ⟨h1, h2, hfull htorn hvalid⟩

/-- The pointer after a scan that finds no valid record (R116). -/
theorem scanned_pointer_of_none (h : (readRing m).newest = none) :
    (∀ k, k < 4 → Blank (readSector m k) → (∀ q, q < k → ¬ Blank (readSector m q)) →
      (j.scanned m).ptrSector = k ∧ (j.scanned m).ptrSlot = 0 ∧ (j.scanned m).sector k = .active) ∧
    ((∀ k, k < 4 → ¬ Blank (readSector m k)) → (j.scanned m).ptrSector = 3 ∧ (j.scanned m).ptrSlot = 64) := by
  refine ⟨fun k hk hb hlow => scanned_at_slot (pointer_at_sector h hk hb hlow) (by decide) hk, fun hb => ?_⟩
  exact (scanned_past_end (pointer_nowhere h hb) (by decide)).2.1 (hb _ (by decide))

/-- Setting JOURNAL_FAULT changes no sector. -/
theorem sector_of_fault (j : Journal) (b : Bool) (p : Option PendingRecord) : { j with fault := b, pend := p }.sector = j.sector :=
  rfl

end Sys2Proof.Machine

namespace Sys2Proof.Proofs

open Sys2Proof.Machine Sys2Proof.Safety

/-- Settles O47, by what the scan finds in the ring. -/
theorem scanCompletes : Obligations.ScanCompletes := by
  unfold Obligations.ScanCompletes
  intro s hpow hdone ring
  obtain ⟨hpjr, hcyc, hstate⟩ := scanComplete_state hdone rfl (told := (s.pjr.scanned s.flash).numbersUsed && !s.pnl.resetPending) rfl
  obtain ⟨hfault, hpend, hscan, hop, hloss, hcounters⟩ := scanned_keeps s.pjr s.flash
  obtain ⟨hgood, hfactory⟩ := scanned_factory s.pjr s.flash
  have hflash : (Machine.scanComplete s).flash = s.flash := by simp
  have hsectors := fun k (hk : k < 4) => scanned_sectorRead (j := s.pjr) (m := s.flash) hk
  have hqueue := scanned_queue s.pjr s.flash
  have hnew := fun f (hf : (readRing s.flash).newest = some f) => scanned_of_newest (j := s.pjr) hf
  have hpointer := fun k i n (h : NewestAt s.flash k i n) => scanned_pointer (j := s.pjr) h
  have hnothing := fun (h : (readRing s.flash).newest = none) => scanned_of_none (j := s.pjr) h
  have hnowhere := fun (h : (readRing s.flash).newest = none) => scanned_pointer_of_none (j := s.pjr) h
  refine ⟨Machine.scanComplete s, quietEvent_of_due hpow (by rw [hdone]; rfl), ?_⟩
  generalize Machine.scanComplete s = t at *
  generalize s.pjr.scanned s.flash = J at *
  intro used told
  have hused : used = J.numbersUsed := by
    dsimp only [used]
    rw [hpjr]
    rfl
  have htold : told = (J.numbersUsed && !s.pnl.resetPending) := by rw [← hused]
  have hnone : (readFactory s.flash).isNone = !J.factoryGood := by
    rw [hgood, Option.not_isSome]
  have hid : t.csq.cyc.cycleId = J.foundId := by rw [hcyc]
  refine ⟨fun h => ?_, hflash, ?_, ?_, ?_, ?_, ?_, ?_, ?_, ?_, ?_, ?_, ?_, ?_⟩
  · rw [htold, hnone, hid]
    exact hstate (h.imp hused.symm.trans hpend.trans)
  · rw [hcyc, htold]
  · rw [hpjr, hused, ← hfault]
  · rw [hpjr, hused, ← hpend]
  · rw [hpjr]; exact hscan
  · rw [hpjr]; exact hop
  · rw [hpjr]; exact hloss
  · rw [hpjr]; exact hcounters
  · intro k i n h next
    obtain ⟨h1, h2, h3, h4⟩ := hnew _ (ring_newest_of h)
    obtain ⟨hat, hpast⟩ := hpointer k i n h
    rw [hid, hpjr, sector_of_fault]
    refine ⟨h1, h2, ?_, ?_, fun hi hb => ?_, fun hrest => ?_, hat, hpast⟩
    · rw [Journal.foundId, h1]
      rfl
    · rw [h3, bne_iff_ne]
    · rw [h4]
      exact newestBad_next h.1 hi hb
    · rw [h4]
      exact newestBad_after h.1 hrest
  · intro h
    have hnewest := ring_newest_of_none h
    obtain ⟨h1, h2, h3, h4⟩ := hnothing hnewest
    obtain ⟨hat, hpast⟩ := hnowhere hnewest
    rw [hid, hpjr, sector_of_fault]
    refine ⟨h1, h4, h2, ?_, h3, hat, hpast⟩
    rw [Journal.foundId, h1]
    rfl
  · intro k hk h
    rw [hpjr] at h ⊢
    exact hsectors k hk h
  · rw [hpjr]
    exact hqueue
  · rw [hpjr]
    refine hfactory.trans ?_
    cases readFactory s.flash <;> rfl

end Sys2Proof.Proofs
end

section
/-! PROOFS. What an event does to the unit's class (R170), its want and settle timer (R175), and the notice it hands (R173). -/

namespace Sys2Proof.Machine

open Safety (Settled heatOf farewellOf mayAnnounce)

variable {s t v : State}

/-! ## The class -/

/-- A full grant: heat is wanted, and every wanted step is in the cover (R170). -/
theorem fullGrant_iff (s : State) :
    fullGrant s = true ↔ 0 < heaterWant s ∧ ∀ k, wanted s k = true → stepOf s.fsu k = .cover := by
  have hall : (∀ k, wanted s k = true → stepOf s.fsu k = .cover) ↔ (wanted s .start = true → s.fsu.start = .cover) ∧
      (wanted s .stage1 = true → s.fsu.stage1 = .cover) ∧ (wanted s .stage2 = true → s.fsu.stage2 = .cover) := by
    refine ⟨fun h => ⟨h .start, h .stage1, h .stage2⟩, fun ⟨h0, h1, h2⟩ k => ?_⟩
    cases k
    · exact h0
    · exact h1
    · exact h2
  have hstep : ∀ (b : Bool) (x : StepState), (!b || decide (x = .cover)) = true ↔ (b = true → x = .cover) := fun b x => by
    cases b <;> simp
  rw [hall, fullGrant, Bool.and_eq_true_iff, Bool.and_eq_true_iff, Bool.and_eq_true_iff, decide_eq_true_iff, hstep, hstep, hstep,
    and_assoc, and_assoc]

/-- The class of an entry that has been settled: 2 at a full grant, and moved by nothing else. -/
structure ClassFits (c : Nat) (v : State) : Prop where
  full : fullGrant v = true → v.fsu.cls = 2
  moved : v.fsu.cls = c ∨ (v.fsu.cls = 2 ∧ 0 < heaterWant v)

variable {c : Nat}

theorem settleClass_fits (h : v.fsu.cls = c ∨ (v.fsu.cls = 2 ∧ 0 < heaterWant v)) : ClassFits c (settleClass v) := by
  have hclass : ∀ x, fullGrant (setClass v x) = fullGrant v ∧ heaterWant (setClass v x) = heaterWant v := fun _ => ⟨rfl, rfl⟩
  cases hf : fullGrant v with
  | true =>
    have hset : settleClass v = setClass v 2 := if_pos hf
    rw [hset]
    exact ⟨fun _ => rfl, .inr ⟨rfl, by rw [(hclass 2).2]; exact ((fullGrant_iff v).1 hf).1⟩⟩
  | false =>
    have hset : settleClass v = v := if_neg (ne_true_of_eq_false hf)
    rw [hset]
    exact ⟨fun h => absurd (h.symm.trans hf) (by decide), h⟩

theorem formEvaluation_fits (h : ClassFits c v) : ClassFits c (formEvaluation v) := by
  have hsame : fullGrant (formEvaluation v) = fullGrant v ∧ (formEvaluation v).fsu.cls = v.fsu.cls ∧
      heaterWant (formEvaluation v) = heaterWant v := by
    unfold formEvaluation
    dsimp only
    split <;> exact ⟨rfl, rfl, rfl⟩
  obtain ⟨hfull, hcls, hheat⟩ := hsame
  exact ⟨by rw [hfull, hcls]; exact h.full, by rw [hcls, hheat]; exact h.moved⟩

theorem evaluateOnce_fits (h : ClassFits c v) : ClassFits c (evaluateOnce v) := by
  have hset : Settled v (confirmAll (applyTests (formEvaluation v))) :=
    ((Safety.formEvaluation_settled v).trans (Safety.applyTests_settled _)).trans (Safety.confirmAll_settled _)
  have hcls : (confirmAll (applyTests (formEvaluation v))).fsu.cls = v.fsu.cls := by simp [confirmAll]
  refine settleClass_fits ?_
  rw [hcls, heaterWant_of_settled hset]
  exact h.moved

theorem announce_fits (h : ClassFits c v) (s0 : State) (g : Bool) : ClassFits c (announce s0 g v) := by
  have hsame : fullGrant (announce s0 g v) = fullGrant v ∧ heaterWant (announce s0 g v) = heaterWant v := by
    unfold announce handNotice stopNotice
    repeat' split
    all_goals exact ⟨rfl, rfl⟩
  exact ⟨by rw [hsame.1, announce_cls]; exact h.full, by rw [hsame.2, announce_cls]; exact h.moved⟩

theorem entryFollowed_apart (s : State) : (entryFollowed s).fsu.apart = s.fsu.apart := by
  rw [entryFollowed, confirmAll_apart, dropAll_apart, syncOutputs_fsu]

/-- What is left of the unit by operations on its steps. -/
theorem Feeder.of_apart {f g : Feeder} (h : g.apart = f.apart) : g.want = f.want ∧ g.wants = f.wants ∧ g.settle = f.settle ∧
    g.cls = f.cls ∧ g.isolated = f.isolated ∧ g.listenIn = f.listenIn ∧ g.peers = f.peers := by
  simp only [Feeder.apart, Feeder.mk.injEq] at h
  simp only [h, and_self]

theorem takeWant_cls (s : State) : (takeWant s).fsu.cls = s.fsu.cls := rfl

theorem settleEntry_fits (s : State) : ClassFits s.fsu.cls (settleEntry s) := by
  obtain ⟨-, -, -, hcls, -⟩ := Feeder.of_apart (entryFollowed_apart s)
  have hkept : (takeWant (entryFollowed s)).fsu.cls = s.fsu.cls := by rw [takeWant_cls, hcls]
  have hfits : ClassFits s.fsu.cls (settleClass (takeWant (entryFollowed s))) := settleClass_fits (.inl hkept)
  rw [settleEntry_eq]
  exact hfits

/-- The class after an event: 2 at a full grant (R170), and otherwise as the event left it. -/
theorem finish_fits (ev : Bool) (s0 s : State) : ClassFits s.fsu.cls (finish ev s0 s) := by
  have hend := settleAndEvaluate_induction (P := ClassFits s.fsu.cls) (fun _ => formEvaluation_fits)
    (fun _ => evaluateOnce_fits) ev s0 (settleEntry_fits s)
  rw [finish_eq]
  exact announce_fits hend s0 _

/-! ## Handing a notice -/

theorem composeNotice_heat (s : State) : heatOf s (composeNotice s false) := by
  refine ⟨rfl, rfl, rfl, rfl, rfl, rfl, rfl, ?_⟩
  exact decide_eq_true_iff

theorem composeNotice_farewell (s : State) : farewellOf s (composeNotice s true) := ⟨rfl, rfl, rfl, rfl⟩

theorem takeNotice_slot (p : Port) (n : Notice) : (takeNotice p n).slot = some n := by
  unfold takeNotice
  split <;> rfl

/-- A notice that may be handed stands in the slot, and the notice timer runs anew or is stopped (R154, R173). -/
theorem handNotice_handed (h : mayAnnounce s) (farewell : Bool) :
    (handNotice s farewell).plp.slot = some (composeNotice s farewell) ∧
    (handNotice s farewell).fsu = { s.fsu with
      notice := if farewell then none else some (1000000 + s.plp.lfsr.toNat % 128 * 1000), key := claimKey s } := by
  obtain ⟨hsetup, hcalm, hstrap, hid, hid31⟩ := h
  have hmay : mayHand s = true := by
    rw [mayHand, hsetup, hcalm, hstrap, decide_eq_false (by omega : ¬ s.scv.stationId = 0)]
    rfl
  have htakes : portTakes s = true := by
    rw [portTakes, hstrap, decide_eq_true hid, decide_eq_true hid31, hsetup, hcalm]
    rfl
  unfold handNotice
  dsimp only
  rw [if_pos hmay, if_pos htakes]
  exact ⟨takeNotice_slot _ _, rfl⟩

/-- The station as it describes itself is untouched by the handing of a notice. -/
theorem handNotice_describes (s : State) (farewell : Bool) (n : Notice) :
    (heatOf (handNotice s farewell) n ↔ heatOf s n) ∧ (farewellOf (handNotice s farewell) n ↔ farewellOf s n) ∧
    held (handNotice s farewell) = held s ∧ (handNotice s farewell).fsu.want = s.fsu.want := by
  unfold handNotice
  dsimp only
  repeat' split
  all_goals exact ⟨Iff.rfl, Iff.rfl, rfl, rfl⟩

/-- The notice that a change of held or of the want hands (R173). -/
structure Announced (s : State) (lfsr : BitVec 16) (n : Notice) : Prop where
  farewell : held s = 0 → s.fsu.want = 0 → farewellOf s n ∧ s.fsu.notice = none
  heat : 0 < held s ∨ 0 < s.fsu.want → heatOf s n ∧ s.fsu.notice = some (1000000 + lfsr.toNat % 128 * 1000)

theorem silent_iff (s : State) : Feeder.silent s = true ↔ held s = 0 ∧ s.fsu.want = 0 := by
  rw [Feeder.silent, Bool.and_eq_true_iff, decide_eq_true_iff, decide_eq_true_iff]

theorem announce_announced {s0 : State} (hmay : mayAnnounce v) (h : held v ≠ held s0 ∨ v.fsu.want ≠ s0.fsu.want) (g : Bool) :
    ∃ n, (announce s0 g v).plp.slot = some n ∧ Announced (announce s0 g v) v.plp.lfsr n := by
  by_cases hsilent : Feeder.silent v = true
  · obtain ⟨hheld, hwant⟩ := (silent_iff v).1 hsilent
    have hs0 : ¬ Feeder.silent s0 = true := fun h0 => by
      obtain ⟨hheld0, hwant0⟩ := (silent_iff s0).1 h0
      rcases h with h | h
      · exact h (hheld.trans hheld0.symm)
      · exact h (hwant.trans hwant0.symm)
    have hann : announce s0 g v = stopNotice (handNotice v true) := by
      rw [announce, if_pos hsilent, if_neg hs0]
    obtain ⟨hslot, -⟩ := handNotice_handed hmay true
    obtain ⟨-, hfarewell, hheld', hwant'⟩ := handNotice_describes v true (composeNotice v true)
    rw [hann]
    refine ⟨_, hslot, fun _ _ => ⟨hfarewell.2 (composeNotice_farewell v), rfl⟩, fun hloud => ?_⟩
    have hloud' : 0 < held (handNotice v true) ∨ 0 < (handNotice v true).fsu.want := hloud
    omega
  · have hcalls : held v ≠ held s0 ∨ wantChanged s0.fsu v.fsu = true ∨ g = true := by
      refine h.imp_right fun hw => .inl ?_
      rw [wantChanged, decide_eq_true (Ne.symm hw)]
      rfl
    have hann : announce s0 g v = handNotice v false := by
      rw [announce, if_neg hsilent]
      exact if_pos (by simpa [or_assoc] using hcalls)
    obtain ⟨hslot, hfsu⟩ := handNotice_handed hmay false
    obtain ⟨hheat, -, hheld', hwant'⟩ := handNotice_describes v false (composeNotice v false)
    rw [hann]
    refine ⟨_, hslot, fun h0 hw => ?_, fun _ => ⟨hheat.2 (composeNotice_heat v), ?_⟩⟩
    · exact absurd ((silent_iff v).2 ⟨hheld'.symm.trans h0, hwant'.symm.trans hw⟩) hsilent
    · rw [hfsu]
      rfl

theorem lfsr_of_settled (h : Settled s t) : t.plp.lfsr = s.plp.lfsr := by
  have e : Safety.blur t = Safety.blur s := h
  exact congrArg (·.plp.lfsr) e

theorem link_of_settled (h : Settled s t) : t.pnl.setupDone = s.pnl.setupDone ∧ t.pnl.resetPending = s.pnl.resetPending := by
  have e : Safety.blur t = Safety.blur s := h
  exact ⟨congrArg (·.pnl.setupDone) e, congrArg (·.pnl.resetPending) e⟩

theorem mayAnnounce_of_settled (h : Settled s t) : mayAnnounce t ↔ mayAnnounce s := by
  simp only [mayAnnounce, (link_of_settled h).1, h.mwt, h.scv]

theorem held_of_steps (h : t.fsu.steps = s.fsu.steps) (hs : t.settings = s.settings) : held t = held s := by
  have hunits : ∀ k, unitsIf t (· != .free) k = unitsIf s (· != .free) k := fun k => by
    have hworth : worth t k = worth s k := by cases k <;> simp only [worth, hs]
    rw [unitsIf, unitsIf, stepOf_of_steps h, hworth]
  rw [held, held, hunits, hunits, hunits]

theorem held_announce (s0 : State) (g : Bool) (v : State) : held (announce s0 g v) = held v :=
  held_of_steps (announce_steps s0 g v) (Safety.announce_settled s0 g v).settings

theorem want_of_taken {f g : Feeder} (h : g.taken = f.taken) : g.want = f.want ∧ g.wants = f.wants ∧ g.settle = f.settle := by
  simp only [Feeder.taken, Prod.mk.injEq] at h
  exact h

/-- After an event that changes held or the want the slot holds the notice that they call for, if one may be handed
(R173). -/
theorem finish_announced {ev : Bool} {s0 : State} (ht : finish ev s0 s = t) (hmay : mayAnnounce t)
    (h : held t ≠ held s0 ∨ t.fsu.want ≠ s0.fsu.want) : ∃ n, t.plp.slot = some n ∧ Announced t s.plp.lfsr n := by
  rw [← ht, finish_eq] at hmay h ⊢
  rw [held_announce, (want_of_taken (announce_taken s0 _ _)).1] at h
  have hset := (settleAndEvaluate_keeps ev s0 s).settled
  rw [← lfsr_of_settled hset]
  exact announce_announced ((mayAnnounce_of_settled (Safety.announce_settled s0 _ _)).1 hmay) h _

/-! ## The want taken -/

theorem settled_worth (h : Settled s t) (k : CoverStep) : worth t k = worth s k := by
  cases k <;> simp only [worth, h.settings]

theorem wantUnits_congr (hw : ∀ k, wanted t k = wanted s k) (h : ∀ k, worth t k = worth s k) : wantUnits t = wantUnits s := by
  simp only [wantUnits, hw, h]

/-- The state in which the want is taken wants what the state after the event does. -/
theorem finish_wanted_entry (ev : Bool) (s0 s : State) (k : CoverStep) :
    wanted (finish ev s0 s) k = wanted (entryFollowed s) k := by
  have hset : Settled (syncOutputs s) (entryFollowed s) :=
    (Safety.dropAll_settled _).trans (Safety.confirmAll_settled _)
  have hstop : (entryFollowed s).ost.stopDue = (syncOutputs s).ost.stopDue := by
    rw [entryFollowed, confirmAll_ost]
    exact stopDue_of_follows (dropAll_follows _)
  rw [finish_wanted, wanted_of_settled hset hstop]

theorem entryFollowed_settled (s : State) : Settled s (entryFollowed s) :=
  ((Safety.syncOutputs_settled s).trans (Safety.dropAll_settled _)).trans (Safety.confirmAll_settled _)

/-- After an event the want taken is the present one (R167). -/
theorem finish_wantTaken {ev : Bool} {s0 : State} (ht : finish ev s0 s = t) : Safety.wantTaken t := by
  obtain ⟨hwant, hwants, -⟩ := want_of_taken (finish_taken ev s0 s)
  have hwanted := finish_wanted_entry ev s0 s
  have hworth : ∀ k, worth (finish ev s0 s) k = worth (entryFollowed s) k := fun k => by
    rw [settled_worth (Safety.finish_settled ev s0 s), settled_worth (entryFollowed_settled s)]
  have hunits : wantUnits (finish ev s0 s) = wantUnits (entryFollowed s) := wantUnits_congr hwanted hworth
  rw [← ht]
  refine ⟨hwant.trans hunits.symm, hwants.trans ?_⟩
  rw [hwanted, hwanted, hwanted]
  rfl

/-- A step among those of a want. -/
def Wants.has (w : Wants) : CoverStep → Bool
  | .start => w.start
  | .stage1 => w.stage1
  | .stage2 => w.stage2

theorem rises_iff (old new : Wants) : old.rises new = true ↔ ∃ k, new.has k = true ∧ old.has k = false := by
  constructor
  · intro h
    simp only [Wants.rises, Bool.or_eq_true, Bool.and_eq_true, Bool.not_eq_true'] at h
    rcases h with (⟨hn, ho⟩ | ⟨hn, ho⟩) | ⟨hn, ho⟩
    · exact ⟨.start, hn, ho⟩
    · exact ⟨.stage1, hn, ho⟩
    · exact ⟨.stage2, hn, ho⟩
  · rintro ⟨k, hn, ho⟩
    cases k <;> simp_all [Wants.has, Wants.rises]

theorem wantsNow_has (s : State) (k : CoverStep) : (wantsNow s).has k = wanted s k := by cases k <;> rfl

/-! ## The settle timer -/

theorem takeWant_settle (w : State) : (takeWant w).fsu.settle =
    if w.fsu.wants.rises (wantsNow w) = true ∨ w.fsu.want < wantUnits w then some 2500000
    else if wantUnits w < w.fsu.want ∧ wantUnits w ≤ held w then none else w.fsu.settle := by
  have hset : (takeWant w).fsu.settle =
      if w.fsu.wants.rises (wantsNow w) || decide (w.fsu.want < wantUnits w) then some 2500000
      else if decide (wantUnits w < w.fsu.want) && decide (wantUnits w ≤ held w) then none else w.fsu.settle := rfl
  simpa only [Bool.or_eq_true, Bool.and_eq_true, decide_eq_true_eq] using hset

/-- No step that was free holds units, and held does not rise. -/
theorem held_le_of_free (h : ∀ k, stepOf s.fsu k = .free → stepOf t.fsu k = .free) (hs : t.settings = s.settings) :
    held t ≤ held s := by
  have hunits : ∀ k, unitsIf t (· != .free) k ≤ unitsIf s (· != .free) k := fun k => by
    have hworth : worth t k = worth s k := by cases k <;> simp only [worth, hs]
    rw [unitsIf, unitsIf, hworth]
    by_cases hk : stepOf s.fsu k = .free
    · exact Nat.le_of_eq (by rw [hk, h k hk])
    · rw [if_pos (bne_iff_ne.2 hk)]
      split <;> omega
  have h0 := hunits .start
  have h1 := hunits .stage1
  have h2 := hunits .stage2
  rw [held, held]
  omega

theorem giveUp_free (s : State) (j : CoverStep) {k : CoverStep} (h : stepOf s.fsu k = .free) : stepOf (giveUp s j).fsu k = .free := by
  rw [stepOf_giveUp, h]
  exact ite_self _

theorem shedStep_steps (s : State) (j k : CoverStep) :
    stepOf (shedStep s j).fsu k = stepOf s.fsu k ∨ stepOf (shedStep s j).fsu k = stepOf (giveUp s j).fsu k := by
  unfold shedStep
  split
  · exact .inr (stepOf_of_steps rfl k)
  · exact .inl rfl

theorem shedTest_free {k : CoverStep} (h : stepOf s.fsu k = .free) : stepOf (shedTest s).fsu k = .free := by
  have shed : ∀ (v : State) (j : CoverStep), stepOf v.fsu k = .free → stepOf (shedStep v j).fsu k = .free := fun v j hv =>
    (shedStep_steps v j k).elim (·.trans hv) (·.trans (giveUp_free v j hv))
  unfold shedTest
  split
  · exact shed _ _ (shed _ _ h)
  · exact h

theorem confirmAll_free {k : CoverStep} (h : stepOf s.fsu k = .free) : stepOf (confirmAll s).fsu k = .free := by
  rw [stepOf_confirmAll, h]
  exact ite_self _

theorem settleClass_steps (s : State) : (settleClass s).fsu.steps = s.fsu.steps := by
  unfold settleClass
  split <;> rfl

theorem formEvaluation_steps (s : State) : (formEvaluation s).fsu.steps = s.fsu.steps := by
  unfold formEvaluation
  dsimp only
  split <;> rfl

/-- Nothing is granted while the settle timer runs (R175, R176). -/
theorem grantTest_of_settling (h : s.fsu.settle ≠ none) : grantTest s = s := by
  have hnot : unitState s ≠ .ready := by
    have hsome : s.fsu.settle.isSome = true := Option.isSome_iff_ne_none.2 h
    unfold unitState
    simp only [hsome, if_true]
    repeat' split
    all_goals decide
  exact if_neg hnot

/-- Held does not rise at an evaluation while the settle timer runs. -/
theorem evaluateOnce_settling (h : s.fsu.settle ≠ none) : held (evaluateOnce s) ≤ held s := by
  refine held_le_of_free (fun k hk => ?_) (Safety.evaluateOnce_settled s).settings
  have hform : stepOf (formEvaluation s).fsu k = .free := (stepOf_of_steps (formEvaluation_steps s) k).trans hk
  have htests : stepOf (applyTests (formEvaluation s)).fsu k = .free := by
    have hshed : (shedTest (formEvaluation s)).fsu.settle ≠ none := by
      rw [(Feeder.of_apart (shedTest_apart _)).2.2.1, (want_of_taken (formEvaluation_taken s)).2.2]
      exact h
    unfold applyTests
    split
    · exact hform
    · rw [grantTest_of_settling hshed]
      exact shedTest_free hform
  exact (stepOf_of_steps (settleClass_steps _) k).trans (confirmAll_free htests)

theorem formEvaluation_held (s : State) : held (formEvaluation s) = held s :=
  held_of_steps (formEvaluation_steps s) (Safety.formEvaluation_settled s).settings

theorem held_classTaken (w : State) : held (settleClass (takeWant w)) = held w :=
  held_of_steps (settleClass_steps _) ((Safety.takeWant_settled w).trans (Safety.settleClass_settled _)).settings

theorem settleEntry_held (s : State) : held (settleEntry s) = held (entryFollowed s) := by
  rw [settleEntry_eq, held_classTaken]

/-- While the settle timer runs, held after an event is no more than as the entry followed it. -/
theorem finish_settling {ev : Bool} {s0 : State} (ht : finish ev s0 s = t) (h : t.fsu.settle ≠ none) :
    held t ≤ held (entryFollowed s) := by
  have hentry : (settleEntry s).fsu.taken = t.fsu.taken := by
    rw [← ht, finish_taken, settleEntry_eq, settleClass_taken]
  have hsettle : (settleEntry s).fsu.settle = t.fsu.settle := (want_of_taken hentry).2.2
  have hend := settleAndEvaluate_induction
    (P := fun v => v.fsu.settle = t.fsu.settle ∧ held v ≤ held (entryFollowed s))
    (fun v hv => ⟨(want_of_taken (formEvaluation_taken v)).2.2.trans hv.1, Nat.le_trans (Nat.le_of_eq (formEvaluation_held v)) hv.2⟩)
    (fun v hv => ⟨(want_of_taken (evaluateOnce_taken v)).2.2.trans hv.1,
      Nat.le_trans (evaluateOnce_settling (by rw [hv.1]; exact h)) hv.2⟩)
    ev s0 ⟨hsettle, Nat.le_of_eq (settleEntry_held s)⟩
  rw [← ht, finish_eq, held_announce]
  exact hend.2

theorem entryFollowed_fsu (s : State) : (entryFollowed s).fsu.want = s.fsu.want ∧ (entryFollowed s).fsu.wants = s.fsu.wants ∧
    (entryFollowed s).fsu.settle = s.fsu.settle := by
  obtain ⟨h1, h2, h3, -⟩ := Feeder.of_apart (entryFollowed_apart s)
  exact ⟨h1, h2, h3⟩

theorem finish_wantsNow {ev : Bool} {s0 : State} (ht : finish ev s0 s = t) : wantsNow (entryFollowed s) = wantsNow t := by
  have hwanted := finish_wanted_entry ev s0 s
  rw [ht] at hwanted
  simp only [wantsNow, hwanted]

/-- The settle timer after an event (R175). -/
theorem finish_settle {ev : Bool} {s0 : State} (ht : finish ev s0 s = t) : t.fsu.settle =
    if s.fsu.wants.rises (wantsNow t) = true ∨ s.fsu.want < t.fsu.want then some 2500000
    else if t.fsu.want < s.fsu.want ∧ t.fsu.want ≤ held (entryFollowed s) then none else s.fsu.settle := by
  obtain ⟨hwant, -, hsettle⟩ := want_of_taken (finish_taken ev s0 s)
  obtain ⟨h1, h2, h3⟩ := entryFollowed_fsu s
  have hunits : t.fsu.want = wantUnits (entryFollowed s) := by
    rw [← ht, hwant]
    rfl
  rw [hunits, ← finish_wantsNow ht, ← ht, hsettle, takeWant_settle, h1, h2, h3]

/-- A step newly wanted starts the settle timer. -/
theorem finish_settle_risen {ev : Bool} {s0 : State} (ht : finish ev s0 s = t) {k : CoverStep} (hk : wanted t k = true)
    (hs : s.fsu.wants.has k = false) : t.fsu.settle = some 2500000 := by
  rw [finish_settle ht, if_pos (.inl ((rises_iff _ _).2 ⟨k, (wantsNow_has t k).trans hk, hs⟩))]

theorem not_rises (hk : ∀ k, wanted t k = true → s.fsu.wants.has k = true) : ¬ s.fsu.wants.rises (wantsNow t) = true := by
  rw [rises_iff]
  rintro ⟨k, hw, hs⟩
  exact absurd ((hk k ((wantsNow_has t k).symm.trans hw)).symm.trans hs) (by decide)

/-- A fall of the want to held or below stops it. -/
theorem finish_settle_fallen {ev : Bool} {s0 : State} (ht : finish ev s0 s = t)
    (hk : ∀ k, wanted t k = true → s.fsu.wants.has k = true) (hfall : t.fsu.want < s.fsu.want) (hheld : t.fsu.want ≤ held t) :
    t.fsu.settle = none := by
  refine Classical.byContradiction fun hne => ?_
  have hle := Nat.le_trans hheld (finish_settling ht hne)
  rw [finish_settle ht, if_neg (not_or.2 ⟨not_rises hk, Nat.not_lt.2 (Nat.le_of_lt hfall)⟩), if_pos ⟨hfall, hle⟩] at hne
  exact hne rfl

end Sys2Proof.Machine
end

section
/-! PROOFS. What follows every row that may move the want (R7, R8, R167 to R169, R173, R175), from one fact about the row: it
leaves the want, the generator, and every step whose load draws as they are. -/

namespace Sys2Proof.Machine

open Safety (Covered Settled heatOf farewellOf mayAnnounce wantTaken loadDraws)

/-- What the unit asks for and what it has: the want, its steps, and the states of the three steps. -/
def Feeder.claim (f : Feeder) : Nat × Wants × StepState × StepState × StepState := (f.want, f.wants, f.steps)

section
variable (s : State)

/-! ## The claim is left alone -/

@[simp] theorem setClass_claim (c : Nat) : (setClass s c).fsu.claim = s.fsu.claim := rfl

@[simp] theorem takeStart_claim (d : Descriptor) : (takeStart s d).fsu.claim = s.fsu.claim := by simp [takeStart]

@[simp] theorem executeHeat_claim : (executeHeat s).fsu.claim = s.fsu.claim := by simp [executeHeat]

@[simp] theorem executeExtend_claim (n : Nat) : (executeExtend s n).fsu.claim = s.fsu.claim := by simp [executeExtend]

@[simp] theorem applyRemembered_claim (p : Plan) : (applyRemembered s p).fsu.claim = s.fsu.claim := by
  unfold applyRemembered
  split <;> simp

@[simp] theorem executePlan_claim (p : Plan) : (executePlan s p).fsu.claim = s.fsu.claim := by
  unfold executePlan
  dsimp only
  repeat' split
  all_goals simp [executeCool, executeGuard, executePaused]

@[simp] theorem takeConfirm_claim : (takeConfirm s).fsu.claim = s.fsu.claim := by simp [takeConfirm]

@[simp] theorem takeForce_claim (r : Record) : (takeForce s r).fsu.claim = s.fsu.claim := by simp [takeForce]

@[simp] theorem actOnPlan_claim : (actOnPlan s).fsu.claim = s.fsu.claim := by
  unfold actOnPlan
  repeat' split
  all_goals simp

@[simp] theorem deliverPlan_claim (src : Option Record) : (deliverPlan s src).fsu.claim = s.fsu.claim := by
  unfold deliverPlan
  split <;> simp

@[simp] theorem makePlan_claim (v : Bool) : (makePlan s v).fsu.claim = s.fsu.claim := by
  unfold makePlan
  split <;> simp

@[simp] theorem completePair_claim (ch : Channel) (v : Bool) : (completePair s ch v).fsu.claim = s.fsu.claim := by
  unfold completePair
  split <;> simp

@[simp] theorem endMeasurement_claim (m : Bool) (c p : Nat) (w : Option Nat) :
    (endMeasurement s m c p w).fsu.claim = s.fsu.claim := by simp [endMeasurement]

@[simp] theorem exhEnds_claim (e : ExhEnd) : (exhEnds s e).fsu.claim = s.fsu.claim := by
  unfold exhEnds gateEnd periodEnds periodExpires
  dsimp only
  repeat' split
  all_goals simp

@[simp] theorem feederBack_claim : (feederBack s).fsu.claim = s.fsu.claim := by
  unfold feederBack
  split <;> rfl

@[simp] theorem enterPresent_claim (c : LineClass) : (enterPresent s c).fsu.claim = s.fsu.claim := by
  unfold enterPresent
  dsimp only
  split <;> simp

@[simp] theorem judgeBlock_claim (n : Nat) : (judgeBlock s n).fsu.claim = s.fsu.claim := by
  unfold judgeBlock
  split <;> simp

@[simp] theorem blockCrossing_claim (n : Nat) : (blockCrossing s n).fsu.claim = s.fsu.claim := by
  unfold blockCrossing
  repeat' split
  all_goals simp

@[simp] theorem returnCrossing_claim (n : Nat) : (returnCrossing s n).fsu.claim = s.fsu.claim := by
  unfold returnCrossing
  dsimp only
  repeat' split
  all_goals simp

@[simp] theorem mainsEdge_claim (us : Nat) : (mainsEdge s us).fsu.claim = s.fsu.claim := by
  unfold mainsEdge settleCrossing
  split <;> simp

end

/-! ## What a row leaves for the settling -/

variable {s t u : State}

/-- A row's own effect leaves the want taken, the generator, and whether a step stands under a load that draws. -/
structure Undisturbed (s u : State) : Prop where
  want : u.fsu.want = s.fsu.want
  wants : u.fsu.wants = s.fsu.wants
  lfsr : u.plp.lfsr = s.plp.lfsr
  steps : ∀ k, drawsNothing u k = false → (Covered (stepOf u.fsu k) ↔ Covered (stepOf s.fsu k))

theorem claim_eq_iff {f g : Feeder} : g.claim = f.claim ↔ g.want = f.want ∧ g.wants = f.wants ∧ g.steps = f.steps := by
  rw [Feeder.claim, Feeder.claim, Prod.mk.injEq, Prod.mk.injEq]

theorem Undisturbed.of_claim (h : u.fsu.claim = s.fsu.claim) (hplp : u.plp = s.plp) : Undisturbed s u := by
  obtain ⟨hwant, hwants, hsteps⟩ := claim_eq_iff.1 h
  exact ⟨hwant, hwants, by rw [hplp], fun k _ => by rw [stepOf_of_steps hsteps]⟩

theorem Undisturbed.of_fsu (h : u.fsu = s.fsu) (hplp : u.plp = s.plp) : Undisturbed s u := .of_claim (by rw [h]) hplp

/-- What a row does before leaves the claim and the port alone. -/
theorem Undisturbed.after {v : State} (h : Undisturbed v u) (hclaim : v.fsu.claim = s.fsu.claim) (hplp : v.plp = s.plp) :
    Undisturbed s u := by
  obtain ⟨hwant, hwants, hsteps⟩ := claim_eq_iff.1 hclaim
  exact ⟨h.want.trans hwant, h.wants.trans hwants, by rw [h.lfsr, hplp], fun k hk => by
    rw [h.steps k hk, stepOf_of_steps hsteps]⟩

theorem loadDraws_eq (s : State) (k : CoverStep) : loadDraws s k = !drawsNothing s k := by
  have hne : ∀ {α : Type} [DecidableEq α] (x y : α), (x != y) = !decide (x = y) := fun x y => by
    by_cases h : x = y <;> simp [h]
  cases k <;> simp [loadDraws, drawsNothing, hne]

/-- What follows a row that may move the want. -/
structure Follows (s t : State) : Prop where
  taken : wantTaken s → wantTaken t
  risen : wantTaken s → ∀ k, wanted s k = false → wanted t k = true → t.fsu.settle = some 2500000
  fallen : wantTaken s → t.fsu.want < s.fsu.want → (∀ k, wanted t k = true → wanted s k = true) → t.fsu.want ≤ held t →
    t.fsu.settle = none
  unwanted : ∀ k, wanted t k = false → wanted s k = true ∨ (stepOf s.fsu k = .release ∧ loadDraws s k = true) →
    stepOf t.fsu k = if (stepOf s.fsu k = .cover ∨ stepOf s.fsu k = .release) ∧ loadDraws t k = true then .release else .free
  announced : mayAnnounce t → held t ≠ held s ∨ t.fsu.want ≠ s.fsu.want →
    ∃ n, t.plp.slot = some n ∧ Announced t s.plp.lfsr n

theorem has_of_wantTaken (h : wantTaken s) (k : CoverStep) : s.fsu.wants.has k = wanted s k := by
  obtain ⟨-, hwants⟩ := h
  rw [hwants]
  cases k <;> rfl

/-- The settling after a row that leaves the claim undisturbed makes all of it follow. -/
theorem follows_of_finish {ev : Bool} (h : Undisturbed s u) (ht : finish ev s u = t) : Follows s t where
  taken _ := finish_wantTaken ht
  risen htaken k hs hk := finish_settle_risen ht hk (by rw [h.wants, has_of_wantTaken htaken, hs])
  fallen htaken hfall hk hheld := finish_settle_fallen ht
    (fun k hw => by rw [h.wants, has_of_wantTaken htaken]; exact hk k hw) (by rw [h.want]; exact hfall) hheld
  unwanted k hk _ := by
    have hwanted : wanted (syncOutputs u) k = false := by rw [← finish_wanted ev s u, ht, hk]
    have hdraws : loadDraws t k = !drawsNothing u k := by
      rw [loadDraws_eq, ← ht, settled_draws (Safety.finish_settled ev s u)]
    rw [← ht, finish_unwanted ev s u k hwanted, ht]
    cases hd : drawsNothing u k with
    | true => simp [hdraws, hd]
    | false =>
      have hsteps := h.steps k hd
      rw [Covered, Covered] at hsteps
      simp [hsteps, hdraws, hd]
  announced hmay hmoved := by
    have := finish_announced ht hmay hmoved
    rwa [h.lfsr] at this

/-- A row that leaves the unit, its want and its loads as they are. -/
theorem follows_of_same (hfsu : t.fsu = s.fsu) (hset : t.settings = s.settings) (hwanted : ∀ k, wanted t k = wanted s k)
    (hdraws : ∀ k, loadDraws t k = loadDraws s k) : Follows s t where
  taken h := by
    obtain ⟨hwant, hwants⟩ := h
    have hunits : wantUnits t = wantUnits s := wantUnits_congr hwanted fun k => by cases k <;> simp only [worth, hset]
    exact ⟨by rw [hfsu, hwant, hunits], by rw [hfsu, hwants, hwanted, hwanted, hwanted]⟩
  risen _ k hs ht := absurd (hs.symm.trans ((hwanted k).symm.trans ht)) (by decide)
  fallen _ hfall _ _ := absurd (hfsu ▸ hfall) (Nat.lt_irrefl _)
  unwanted k hk h := by
    obtain ⟨hrel, hd⟩ := h.resolve_left fun hs => absurd (hs.symm.trans ((hwanted k).symm.trans hk)) (by decide)
    rw [hfsu, hrel, if_pos ⟨.inr rfl, (hdraws k).trans hd⟩]
  announced _ h := by
    have hheld : held t = held s := held_of_steps (by rw [hfsu]) hset
    rw [hfsu] at h
    exact absurd hheld (h.resolve_right fun hw => hw rfl)

/-! ## The rows -/

theorem releaseStart_covered (s : State) (k : CoverStep) :
    Covered (stepOf (releaseStart s).fsu k) ↔ Covered (stepOf s.fsu k) := by
  unfold releaseStart
  by_cases h : (decide (s.ost.motor = .starting) && decide (s.fsu.start = .cover)) = true
  · rw [if_pos h, stepOf_setStep]
    by_cases hk : k = .start
    · have hcover : stepOf s.fsu k = .cover := by
        rw [hk]
        exact of_decide_eq_true (Bool.and_eq_true_iff.1 h).2
      rw [if_pos hk, hcover]
      exact ⟨fun _ => .inl rfl, fun _ => .inr rfl⟩
    · rw [if_neg hk]
  · rw [if_neg h]

theorem releaseStart_want (s : State) :
    (releaseStart s).fsu.want = s.fsu.want ∧ (releaseStart s).fsu.wants = s.fsu.wants := by
  unfold releaseStart
  split <;> exact ⟨rfl, rfl⟩

theorem crossMotorStop_fsu (s : State) : (crossMotorStop s).fsu = s.fsu ∨ (crossMotorStop s).fsu = (releaseStart s).fsu := by
  unfold crossMotorStop
  split
  · exact .inr rfl
  · exact .inl rfl

/-- A crossing touches the unit in one thing: an interrupted start goes from the cover under release (R75). -/
theorem crossing_undisturbed (s : State) : Undisturbed s (crossing s) := by
  have hbefore : ∃ v, v.fsu = s.fsu ∧ v.plp = s.plp ∧ (crossing s).fsu = (crossMotorStop v).fsu := by
    refine ⟨advancePosition (if s.ost.dropTimer.isSome then s.setOst s.ost.drop else s), ?_, ?_, ?_⟩
    all_goals simp [crossing]
  obtain ⟨v, hfsu, hplp, hcross⟩ := hbefore
  have hport : (crossing s).plp = s.plp := by simp
  have hstop : Undisturbed v (crossing s) := by
    rcases crossMotorStop_fsu v with h | h
    · exact .of_fsu (hcross.trans h) (hport.trans hplp.symm)
    · obtain ⟨hwant, hwants⟩ := releaseStart_want v
      rw [h] at hcross
      exact ⟨by rw [hcross, hwant], by rw [hcross, hwants], by rw [hport, hplp], fun k _ => by
        rw [hcross]
        exact releaseStart_covered v k⟩
  exact hstop.after (by rw [hfsu]) hplp

theorem edge_undisturbed (s : State) (us : Nat) : Undisturbed s (crossing (mainsEdge s us)) :=
  (crossing_undisturbed _).after (mainsEdge_claim s us) (by simp)

/-- The loss of mains frees every step, and no load draws outside PRESENT (R81, R181). -/
theorem raiseWarning_undisturbed (opens : Bool) (h : s.mwt.state = .lossWarning) : Undisturbed s (raiseWarning s opens) := by
  have hfsu : (raiseWarning s opens).fsu = s.fsu.lose := by simp [raiseWarning]
  have hplp : (raiseWarning s opens).plp = s.plp.lose := by simp [raiseWarning]
  have hmwt : (raiseWarning s opens).mwt.state = .lossWarning := by simp [raiseWarning, h]
  refine ⟨by rw [hfsu]; rfl, by rw [hfsu]; rfl, by rw [hplp]; rfl, fun k hk => ?_⟩
  cases k <;> simp [drawsNothing, hmwt] at hk

theorem enterLossWarning_undisturbed (opens : Bool) : Undisturbed s (enterLossWarning s opens) := by
  unfold enterLossWarning
  dsimp only
  split
  · exact .of_fsu rfl rfl
  · exact (raiseWarning_undisturbed opens rfl).after rfl rfl

theorem missingCrossing_undisturbed : Undisturbed s (missingCrossing s) := by
  unfold missingCrossing
  split
  · exact (enterLossWarning_undisturbed true).after rfl rfl
  all_goals exact .of_fsu rfl rfl

theorem railTripped_undisturbed : Undisturbed s (railTripped s) := by
  unfold railTripped
  dsimp only
  split
  · exact .of_fsu rfl rfl
  · split
    · exact .of_fsu rfl rfl
    · exact (enterLossWarning_undisturbed false).after rfl rfl

theorem Follows.refl (s : State) : Follows s s := follows_of_same rfl rfl (fun _ => rfl) fun _ => rfl

theorem mainEvent_follows {due ev : Bool} {body : State → State} (h : Undisturbed s (body s)) :
    ∃ t, mainEvent due ev body s = .next t ∧ Follows s t := by
  refine ⟨_, rfl, ?_⟩
  split
  · exact follows_of_finish h rfl
  · exact .refl s

theorem edgeEvent_follows (due : Bool) (us : Nat) : ∃ t, edgeEvent due us s = .next t ∧ Follows s t := by
  refine ⟨_, rfl, ?_⟩
  split
  · split
    · exact follows_of_same (by simp) (by simp) (fun k => by cases k <;> rfl) fun k => by cases k <;> rfl
    case isFalse h =>
      refine follows_of_finish (u := edge s us) ?_ rfl
      rw [edge, if_neg h]
      exact edge_undisturbed s us
  · exact .refl s

/-! ## The commands on the cycle -/

variable {q : Panel}

theorem setPnl_wanted (h : q.resetPending = s.pnl.resetPending) (k : CoverStep) : wanted (s.setPnl q) k = wanted s k := by
  have hrun : motorRun (s.setPnl q) = motorRun s := by
    unfold motorRun
    rw [State.setPnl_pnl, h]
    rfl
  have hheat : heaterWanted (s.setPnl q) = heaterWanted s := by
    unfold heaterWanted
    rw [State.setPnl_pnl, h]
    rfl
  cases k
  · simp only [wanted, startWant, startPending, hrun]
    rfl
  · simp only [wanted, heaterWant, hheat]
    rfl
  · simp only [wanted, heaterWant, hheat]
    rfl

/-- What follows on the panel link as the frame left it follows for the state before the frame. -/
theorem Follows.of_setPnl (h : q.resetPending = s.pnl.resetPending) (hf : Follows (s.setPnl q) t) : Follows s t := by
  have hw := setPnl_wanted h
  have htaken : wantTaken (s.setPnl q) ↔ wantTaken s := by
    have hunits : wantUnits (s.setPnl q) = wantUnits s := wantUnits_congr hw fun k => by cases k <;> rfl
    simp only [wantTaken, hunits, hw]
    rfl
  have hdraws : ∀ k, loadDraws (s.setPnl q) k = loadDraws s k := fun k => by cases k <;> rfl
  refine ⟨fun hs => hf.taken (htaken.2 hs), fun hs k hk => hf.risen (htaken.2 hs) k ((hw k).trans hk), ?_, ?_, ?_⟩
  · exact fun hs hfall hk => hf.fallen (htaken.2 hs) hfall fun k h => (hw k).trans (hk k h)
  · exact fun k hk h => hf.unwanted k hk (by rw [hw, hdraws]; exact h)
  · exact hf.announced

theorem follows_respond {v : State} (h : Follows s v) (st : Status) (pl : List Byte) : Follows s (respond v st pl) := by
  refine ⟨h.taken, h.risen, h.fallen, h.unwanted, fun hmay hmoved => ?_⟩
  obtain ⟨n, hslot, hn⟩ := h.announced hmay hmoved
  exact ⟨n, hslot, hn.farewell, hn.heat⟩

/-- A command's frame leaves everything but the panel link, or what its own rule makes follow. -/
theorem command_follows {tail : Tail} {len : Nat} {keeps : Bool} {body : State → List Byte → State}
    (hb : ∀ v payload, Follows v (body v payload)) :
    ∃ t, command s tail len keeps body = .next t ∧ Follows s t := by
  obtain ⟨q, hq, -, hreset⟩ := openFrame_eq s tail keeps
  refine ⟨_, rfl, ?_⟩
  split
  · rw [hq]
    refine Follows.of_setPnl hreset ?_
    dsimp only
    split
    · exact follows_respond (.refl _) _ _
    · split
      · exact follows_respond (.refl _) _ _
      · exact hb _ _
  · exact .refl s

theorem taken_follows (h : Undisturbed s u) (st : Status) (pl : List Byte) : Follows s (taken s u st pl) :=
  follows_respond (follows_of_finish h rfl) st pl

theorem refused_follows (s : State) (st : Status) (pl : List Byte) : Follows s (respond s st pl) :=
  follows_respond (.refl s) st pl

theorem startBody_follows (s : State) (payload : List Byte) : Follows s (startBody s payload) := by
  have hstart : ∀ d, Undisturbed s (takeStart s d) := fun d => .of_claim (takeStart_claim s d) (by simp)
  unfold startBody
  split
  · split
    · exact refused_follows s _ _
    · dsimp only
      split <;> exact taken_follows (hstart _) _ _
  · exact refused_follows s _ _

theorem pauseBody_follows (s : State) (payload : List Byte) : Follows s (pauseBody s payload) := by
  unfold pauseBody
  split
  · exact taken_follows (.of_fsu (by simp) (by simp)) _ _
  · exact refused_follows s _ _

theorem continueBody_follows (s : State) (payload : List Byte) : Follows s (continueBody s payload) := by
  unfold continueBody
  split
  · split
    · exact refused_follows s _ _
    · split
      · exact taken_follows (.of_fsu (by simp) (by simp)) _ _
      · exact refused_follows s _ _
  · exact refused_follows s _ _

theorem cancelBody_follows (s : State) (payload : List Byte) : Follows s (cancelBody s payload) := by
  unfold cancelBody
  split
  · exact taken_follows (.of_fsu (by simp) (by simp)) _ _
  · exact refused_follows s _ _

theorem confirmBody_follows (s : State) (payload : List Byte) : Follows s (confirmBody s payload) := by
  unfold confirmBody
  split
  · split
    · exact refused_follows s _ _
    · exact taken_follows (.of_claim (takeConfirm_claim s) (by simp)) _ _
  · exact refused_follows s _ _

theorem declineBody_follows (s : State) (payload : List Byte) : Follows s (declineBody s payload) := by
  unfold declineBody
  split
  · exact taken_follows (.of_fsu (by simp) (by simp)) _ _
  · exact refused_follows s _ _

theorem forceBody_follows (s : State) (payload : List Byte) : Follows s (forceBody s payload) := by
  unfold forceBody
  split
  · split
    · exact refused_follows s _ _
    · split
      case h_1 r _ =>
        split
        · exact taken_follows (.of_claim (takeForce_claim s r) (by simp)) _ _
        · exact refused_follows s _ _
      case h_2 => exact refused_follows s _ _
  · exact refused_follows s _ _

theorem resetBody_follows (s : State) (payload : List Byte) : Follows s (resetBody s payload) := by
  unfold resetBody
  split
  · exact taken_follows (.of_fsu (by simp [clearEnable]) (by simp [clearEnable])) _ _
  · exact refused_follows s _ _

/-- Every row that may move the want has what the unit makes of it follow. -/
theorem exec_follows {c : Instr} (h : Safety.movesWant c = true) (s : State) : ∃ t, exec c s = .next t ∧ Follows s t := by
  cases c with
  | sequencerSecond => exact mainEvent_follows (.of_fsu (by simp) (by simp))
  | makePlan e => exact mainEvent_follows (body := (exhEnds · e)) (.of_claim (exhEnds_claim s e) (by simp))
  | refGateEnd n => exact mainEvent_follows (body := (refEnd · n)) (.of_fsu (by simp) (by simp))
  | sensorGateEnd n => exact mainEvent_follows (body := (gateEnd · n)) (.of_claim (exhEnds_claim s (.gate n)) (by simp))
  | periodEnd us => exact mainEvent_follows (body := (periodEnds · us)) (.of_claim (exhEnds_claim s (.period us)) (by simp))
  | periodTimeout => exact mainEvent_follows (.of_claim (exhEnds_claim s .timeout) (by simp))
  | zeroCrossEdge us => exact edgeEvent_follows true us
  | startWindowEnd => exact mainEvent_follows (.of_fsu (by simp) (by simp))
  | doorOpened => exact mainEvent_follows (.of_fsu (by simp) (by simp))
  | doorClosed => exact mainEvent_follows (.of_fsu (by simp) (by simp))
  | missingCrossingTimeout => exact mainEvent_follows missingCrossing_undisturbed
  | railTrip => exact mainEvent_follows railTripped_undisturbed
  | start tail => exact command_follows startBody_follows
  | pause tail => exact command_follows pauseBody_follows
  | continueCycle tail => exact command_follows continueBody_follows
  | cancel tail => exact command_follows cancelBody_follows
  | confirmResume tail => exact command_follows confirmBody_follows
  | declineResume tail => exact command_follows declineBody_follows
  | forceResume tail => exact command_follows forceBody_follows
  | reset tail => exact command_follows resetBody_follows
  | _ => exact absurd h Bool.false_ne_true

end Sys2Proof.Machine
end

section
/-! PROOFS. The settle timer's end, evaluation by evaluation: what a READY unit is granted, and what an overrun sheds (R175 to
R178). -/

namespace Sys2Proof.Machine

open Safety (Settled wantTaken)

variable {s t v w : State}

/-! ## The want at the end of the settle window -/

theorem wanted_start_iff (s : State) : wanted s .start = true ↔ startPending s = true ∧ 0 < s.settings.startUnits := by
  rw [wanted, decide_eq_true_iff, startWant]
  split <;> simp [*]

/-- As the outputs follow what is asked a pending start may come to its early end, and nothing comes to be wanted (R7, R76). -/
theorem wanted_of_syncOutputs {k : CoverStep} (h : wanted (syncOutputs s) k = true) : wanted s k = true := by
  cases k
  · rw [wanted_start_iff] at h ⊢
    refine ⟨?_, h.2⟩
    have hpending : startPending (syncOutputs s) = true → startPending s = true := by
      simp only [startPending, Bool.and_eq_true, Bool.or_eq_true]
      rintro ⟨hrun, hstill⟩
      refine ⟨hrun, hstill.imp id fun ⟨hstarting, hdue⟩ => ⟨hstarting, ?_⟩⟩
      have hstop : (!(s.ost.stopDue || (s.ost.motor != .stopped && (!motorRun s || s.ost.doorOpen)))) = true := hdue
      rw [Bool.not_or, Bool.and_eq_true_iff] at hstop
      exact hstop.1
    exact hpending h.1
  · exact h
  · exact h

theorem wanted_syncOutputs (h : s.ost.motor ≠ .starting) (k : CoverStep) : wanted (syncOutputs s) k = wanted s k := by
  have hpending : startPending (syncOutputs s) = startPending s := by
    simp [startPending, syncOutputs, motorRun, h]
  cases k
  · simp only [wanted, startWant, hpending]
    rfl
  · rfl
  · rfl

theorem wantUnits_le (hw : ∀ k, wanted t k = true → wanted s k = true) (h : ∀ k, worth t k = worth s k) :
    wantUnits t ≤ wantUnits s := by
  have hunits : ∀ k, (if wanted t k then worth t k else 0) ≤ if wanted s k then worth s k else 0 := fun k => by
    rw [h]
    by_cases ht : wanted t k = true
    · exact Nat.le_of_eq (by rw [if_pos ht, if_pos (hw k ht)])
    · rw [if_neg ht]
      exact Nat.zero_le _
  exact Nat.add_le_add (Nat.add_le_add (hunits _) (hunits _)) (hunits _)

theorem settleEnds_settled (s : State) : Settled s (settleEnds s) := rfl

/-- The settle timer's end moves no want, so that the timer stays stopped (R175). -/
theorem settle_of_settleEnds (h : wantTaken s) (ht : finish true s (settleEnds s) = t) :
    t.fsu.settle = none ∧ t.fsu.want ≤ s.fsu.want := by
  have hset : Settled s t := (settleEnds_settled s).trans (ht ▸ Safety.finish_settled true s (settleEnds s))
  have hwanted : ∀ k, wanted t k = true → wanted s k = true := fun k hk => by
    refine wanted_of_syncOutputs (s := settleEnds s) ?_
    rw [← finish_wanted true s, ht, hk]
  have hle : t.fsu.want ≤ s.fsu.want := by
    rw [(finish_wantTaken ht).1, h.1]
    exact wantUnits_le hwanted fun k => settled_worth hset k
  have hrises : ¬ (settleEnds s).fsu.wants.rises (wantsNow t) = true :=
    not_rises fun k hk => (has_of_wantTaken h k).trans (hwanted k hk)
  have hsame : ¬ (settleEnds s).fsu.want < t.fsu.want := Nat.not_lt.2 hle
  rw [finish_settle ht, if_neg (not_or.2 ⟨hrises, hsame⟩)]
  exact ⟨ite_self _, hle⟩

/-! ## The entry as an evaluation forms it -/

theorem settleClass_cls (v : State) : (settleClass v).fsu.cls = if fullGrant (settleClass v) = true then 2 else v.fsu.cls := by
  have hclass : ∀ x, fullGrant (setClass v x) = fullGrant v := fun _ => rfl
  by_cases h : fullGrant v = true
  · have hset : settleClass v = setClass v 2 := if_pos h
    rw [hset, hclass, if_pos h]
    rfl
  · have hset : settleClass v = v := if_neg h
    rw [hset, if_neg h]

theorem claimKey_of_settled (h : Settled s t) (hcls : t.fsu.cls = s.fsu.cls) : claimKey t = claimKey s := by
  simp only [claimKey, hcls, remSeconds, h.csq, h.scv]

theorem steps_of_stepOf {f g : Feeder} (h : ∀ k, stepOf g k = stepOf f k) : g.steps = f.steps := by
  have h0 := h .start
  have h1 := h .stage1
  have h2 := h .stage2
  exact Prod.ext h0 (Prod.ext h1 h2)

/-- The entry as the settle timer's end leads it into its evaluation: nothing has moved but the timer. -/
structure Entered (s w : State) : Prop where
  settled : Settled s w
  steps : ∀ k, stepOf w.fsu k = stepOf s.fsu k
  wanted : ∀ k, wanted w k = wanted s k
  settle : w.fsu.settle = none
  want : w.fsu.want = wantUnits s
  cls : w.fsu.cls = s.fsu.cls
  follows : w.ost.follows = (syncOutputs s).ost.follows

/-- A unit whose class is settled as a full grant would settle it: one of its wanted steps is free, or its class is 2. -/
def ClassSettled (s : State) : Prop := (∃ k, wanted s k = true ∧ stepOf s.fsu k = .free) ∨ s.fsu.cls = 2

theorem entered_of_settleEnds (htaken : wantTaken s) (hmotor : s.ost.motor ≠ .starting)
    (hsteps : ∀ k, stepOf s.fsu k = .free ∨ stepOf s.fsu k = .cover ∧ wanted s k = true) (hcls : ClassSettled s) :
    Entered s (settleEntry (settleEnds s)) := by
  obtain ⟨hsettle, -⟩ := settle_of_settleEnds htaken rfl
  have hentry : (settleEntry (settleEnds s)).fsu.taken = (finish true s (settleEnds s)).fsu.taken := by
    rw [finish_taken, settleEntry_eq, settleClass_taken]
  obtain ⟨hwant', -, hsettle'⟩ := want_of_taken hentry
  have hset : Settled s (settleEntry (settleEnds s)) := (settleEnds_settled s).trans (Safety.settleEntry_settled _)
  have hwanted : ∀ k, wanted (syncOutputs (settleEnds s)) k = wanted s k := fun k =>
    wanted_syncOutputs (s := settleEnds s) hmotor k
  have hkept : ∀ k, stepOf (settleEntry (settleEnds s)).fsu k = stepOf s.fsu k := fun k => by
    have hk : stepOf (settleEnds s).fsu k = stepOf s.fsu k := stepOf_of_steps rfl k
    rw [stepOf_settleEntry, hk, hwanted]
    dsimp only
    rcases hsteps k with h | ⟨h, hw⟩
    · rw [h]
      cases wanted s k <;> rfl
    · rw [h, hw]
      rfl
  have hentered : ∀ k, wanted (settleEntry (settleEnds s)) k = wanted s k := fun k => by rw [settleEntry_wanted, hwanted]
  refine ⟨hset, hkept, hentered, hsettle'.trans hsettle, ?_, ?_, settleEntry_follows _⟩
  · rw [hwant', (finish_wantTaken (t := finish true s (settleEnds s)) rfl).1]
    refine wantUnits_congr (fun k => ?_) fun k => settled_worth ?_ k
    · rw [finish_wanted, hwanted]
    · exact (settleEnds_settled s).trans (Safety.finish_settled true s _)
  · obtain ⟨hfull, hmoved⟩ := settleEntry_fits (settleEnds s)
    have hsame : (settleEnds s).fsu.cls = s.fsu.cls := rfl
    rcases hcls with ⟨k, hk, hfree⟩ | h2
    · have hnot : ¬ fullGrant (settleEntry (settleEnds s)) = true := fun h => by
        have hcover := ((fullGrant_iff _).1 h).2 k ((hentered k).trans hk)
        rw [hkept, hfree] at hcover
        exact absurd hcover (by decide)
      have hclass := settleClass_cls (takeWant (entryFollowed (settleEnds s)))
      obtain ⟨-, -, -, hbefore, -⟩ := Feeder.of_apart (entryFollowed_apart (settleEnds s))
      rw [← settleEntry_eq, if_neg hnot, takeWant_cls, hbefore] at hclass
      exact hclass
    · rw [hsame, h2] at hmoved
      rw [h2]
      exact hmoved.elim id (·.1)

theorem effectiveBudget_of_settled (h : Settled s t) : effectiveBudget t = effectiveBudget s :=
  congrArg Prod.fst (evaluationOf_settled h)

/-- The entry once its evaluation is formed (R170, R175, R178). -/
structure Formed (s v : State) : Prop extends Entered s v where
  key : v.fsu.key = claimKey s
  effective : v.fsu.effective = effectiveBudget s

theorem Entered.formed (h : Entered s w) : Formed s (formEvaluation w) := by
  have hset : Settled s (formEvaluation w) := h.settled.trans (Safety.formEvaluation_settled w)
  have hkey : (formEvaluation w).fsu.key = claimKey w ∧ (formEvaluation w).fsu.cls = w.fsu.cls := by
    unfold formEvaluation
    dsimp only
    split <;> exact ⟨rfl, rfl⟩
  obtain ⟨hwant, -, hsettle⟩ := want_of_taken (formEvaluation_taken w)
  refine ⟨⟨hset, fun k => ?_, fun k => ?_, hsettle.trans h.settle, hwant.trans h.want, hkey.2.trans h.cls, ?_⟩, ?_, ?_⟩
  · rw [stepOf_of_steps (formEvaluation_steps w), h.steps]
  · rw [wanted_of_settled (Safety.formEvaluation_settled w) (by rw [formEvaluation_ost]), h.wanted]
  · rw [formEvaluation_ost, h.follows]
  · rw [hkey.1, claimKey_of_settled h.settled h.cls]
  · obtain ⟨heff, -⟩ := Feeder.of_formed (formEvaluation_formed w)
    rw [heff]
    exact effectiveBudget_of_settled h.settled

/-! ## One evaluation -/

theorem stepOf_evaluateOnce (w : State) (k : CoverStep) : stepOf (evaluateOnce w).fsu k =
    if stepOf (applyTests (formEvaluation w)).fsu k = .release ∧ drawsNothing w k = true then .free
    else stepOf (applyTests (formEvaluation w)).fsu k := by
  have hdraws : drawsNothing (applyTests (formEvaluation w)) k = drawsNothing w k :=
    settled_draws ((Safety.formEvaluation_settled w).trans (Safety.applyTests_settled _)) k
  rw [evaluateOnce, stepOf_of_steps (settleClass_steps _), stepOf_confirmAll, hdraws]

theorem evaluateOnce_cls_eq (w : State) : (evaluateOnce w).fsu.cls = if fullGrant (evaluateOnce w) = true then 2 else w.fsu.cls := by
  have hkept : (confirmAll (applyTests (formEvaluation w))).fsu.cls = w.fsu.cls := by
    obtain ⟨-, -, -, hconfirm, -⟩ := Feeder.of_apart (confirmAll_apart (applyTests (formEvaluation w)))
    obtain ⟨-, -, -, htests, -⟩ := Feeder.of_apart (applyTests_apart (formEvaluation w))
    have hform : (formEvaluation w).fsu.cls = w.fsu.cls := by
      unfold formEvaluation
      dsimp only
      split <;> rfl
    rw [hconfirm, htests, hform]
  have h := settleClass_cls (confirmAll (applyTests (formEvaluation w)))
  rw [hkept] at h
  exact h

theorem confirmed_of_kept {f g : Feeder} (h : ∀ k, Safety.Covered (stepOf f k) → stepOf g k ≠ .free) : confirmed f g = false := by
  have hstep : ∀ (x y : StepState), (Safety.Covered x → y ≠ .free) → (x.covered && decide (y = .free)) = false := by
    intro x y hxy
    by_cases hy : y = .free
    · have hx : ¬ Safety.Covered x := fun hx => hxy hx hy
      cases x <;> simp_all [StepState.covered, Safety.Covered]
    · simp [hy]
  have h0 : (f.start.covered && decide (g.start = .free)) = false := hstep _ _ (h .start)
  have h1 : (f.stage1.covered && decide (g.stage1 = .free)) = false := hstep _ _ (h .stage1)
  have h2 : (f.stage2.covered && decide (g.stage2 = .free)) = false := hstep _ _ (h .stage2)
  rw [confirmed, h0, h1, h2]
  rfl

/-- An evaluation that confirms nothing and does not move the class is the only one (R175). -/
theorem settleAndEvaluate_once {s0 : State} (hkept : ∀ k, Safety.Covered (stepOf (settleEntry s).fsu k) →
      stepOf (evaluateOnce (settleEntry s)).fsu k ≠ .free)
    (hcls : (evaluateOnce (settleEntry s)).fsu.cls = (settleEntry s).fsu.cls) :
    settleAndEvaluate true s0 s = evaluateOnce (settleEntry s) := by
  have hagain : ¬ evaluatesAgain (settleEntry s) (evaluateOnce (settleEntry s)) = true := by
    rw [evaluatesAgain, confirmed_of_kept hkept, hcls]
    simp
  have heval : settleAndEvaluate true s0 s = evaluate (settleEntry s) := if_pos rfl
  rw [heval, evaluate, evaluateTimes, if_neg hagain]

/-- The unit listens no longer, and no loss warning stands (R166). -/
def Hears (s : State) : Prop :=
  s.pnl.setupDone = true ∧ s.mwt.warning = false ∧ s.fsu.listenIn = none ∧ s.scv.strapDone = true

theorem Hears.of_settled (h : Hears s) (hset : Settled s t) : Hears t := by
  obtain ⟨hsetup, hcalm, hlisten, hstrap⟩ := h
  obtain ⟨-, -, hlistenIn, -⟩ := feeder_of_settled hset
  exact ⟨(link_of_settled hset).1.trans hsetup, by rw [hset.mwt, hcalm], hlistenIn.trans hlisten, by rw [hset.scv, hstrap]⟩

theorem Hears.applyTests (h : Hears v) : applyTests v = grantTest (shedTest v) := by
  obtain ⟨hsetup, hcalm, hlisten, hstrap⟩ := h
  have hnot : ¬ (listening v || v.mwt.warning) = true := by simp [listening, hsetup, hcalm, hlisten, hstrap]
  rw [Machine.applyTests, if_neg hnot]

theorem Hears.ready (h : Hears v) (hsettle : v.fsu.settle = none) (hheld : held v < v.fsu.want) : unitState v = .ready := by
  obtain ⟨hsetup, hcalm, hlisten, hstrap⟩ := h
  have hloud : ¬ (decide (held v = 0) && decide (v.fsu.want = 0)) = true := by
    rw [Bool.and_eq_true_iff, decide_eq_true_iff, decide_eq_true_iff]
    omega
  have hhears : listening v = false := by simp [listening, hsetup, hlisten, hstrap]
  simp [unitState, hcalm, hhears, hloud, hheld, hsettle]

/-! ## The shedding test -/

theorem shedStep_of_kept {k : CoverStep} (h : overrun v = false ∨ sheddable v k = false) : shedStep v k = v := by
  refine if_neg ?_
  rcases h with h | h <;> simp [h]

theorem shedTest_of_kept (h : largestKey v.fsu.key v.fsu.peers = false ∨ overrun v = false ∨ ∀ k, sheddable v k = false) :
    shedTest v = v := by
  unfold shedTest
  rcases h with h | h | h
  · rw [if_neg (ne_true_of_eq_false h)]
  · rw [shedStep_of_kept (.inl h), shedStep_of_kept (.inl h), ite_self]
  · rw [shedStep_of_kept (.inr (h .stage2)), shedStep_of_kept (.inr (h .stage1)), ite_self]

theorem sheddable_of_free {k : CoverStep} (h : stepOf v.fsu k = .free) : sheddable v k = false := by
  rw [sheddable, h]
  rfl

/-! ## The grant test -/

/-- What the grant test finds used: what peers hold, what better-placed ones still wait for, and what is held (R176). -/
def used (s : State) : Nat := committed s.fsu.peers + ahead s.fsu.key s.fsu.peers + held s

theorem grantTest_of_ready (h : unitState v = .ready) : grantTest v =
    if used v ≤ v.fsu.effective then grantSteps v (grantedState v) (v.fsu.effective - used v) (freeWanted v) else v := by
  have hroom : room v = if used v ≤ v.fsu.effective then some (v.fsu.effective - used v) else none := rfl
  rw [grantTest, if_pos h, hroom]
  by_cases hfits : used v ≤ v.fsu.effective
  · rw [if_pos hfits, if_pos hfits]
    rfl
  · rw [if_neg hfits, if_neg hfits]

theorem grantTest_of_none_free (h : ∀ k, wanted v k = true → stepOf v.fsu k ≠ .free) : grantTest v = v := by
  have hnil : freeWanted v = [] := List.eq_nil_iff_forall_not_mem.2 fun k hk => by
    obtain ⟨hw, hf⟩ := mem_freeWanted.1 hk
    exact h k hw hf
  rcases grantTest_cases v with hg | ⟨r, hg, -⟩
  · exact hg
  · rw [hg, hnil]
    rfl

/-! ## A START granted -/

/-- The unit as the settle timer runs out on it: its want is the present one, and it listens no longer. -/
structure Expires (s : State) : Prop where
  taken : wantTaken s
  hears : Hears s

theorem held_of_free (h : ∀ k, stepOf s.fsu k = .free) : held s = 0 := by
  have hunits : ∀ k, unitsIf s (· != .free) k = 0 := fun k => by rw [unitsIf, h]; rfl
  rw [held, hunits, hunits, hunits]

theorem stages_unwanted (h : heaterWant s = 0) : wanted s .stage1 = false ∧ wanted s .stage2 = false := by
  simp [wanted, h]

theorem heaterWant_of_motor (h : s.ost.motor ≠ .running) : heaterWant s = 0 := by
  have hnot : heaterWanted s = false := by simp [heaterWanted, h]
  rw [heaterWant, hnot]
  rfl

theorem freeWanted_of_start (h0 : wanted v .start = true) (hfree : v.fsu.start = .free) (h1 : wanted v .stage1 = false)
    (h2 : wanted v .stage2 = false) : freeWanted v = [.start] := by
  have hstart : stepOf v.fsu .start = .free := hfree
  simp [freeWanted, h0, h1, h2, hstart]

/-- The units used, at an evaluation of an entry that holds nothing (R176). -/
theorem Formed.used (h : Formed s v) (hfree : ∀ k, stepOf s.fsu k = .free) :
    used v = committed s.fsu.peers + ahead (claimKey s) s.fsu.peers := by
  have hheld : held v = 0 := held_of_free fun k => (h.steps k).trans (hfree k)
  obtain ⟨hpeers, -⟩ := feeder_of_settled h.settled
  rw [Machine.used, hheld, hpeers, h.key]
  rfl

theorem Formed.ready (h : Formed s v) (hs : Hears s) (hfree : ∀ k, stepOf s.fsu k = .free) (hwant : 0 < wantUnits s) :
    unitState v = .ready := by
  have hheld : held v = 0 := held_of_free fun k => (h.steps k).trans (hfree k)
  exact (hs.of_settled h.settled).ready h.settle (by rw [hheld, h.want]; exact hwant)

/-- The tests of an entry that holds nothing are its grant test. -/
theorem Formed.applyTests (h : Formed s v) (hs : Hears s) (hfree : ∀ k, stepOf s.fsu k = .free) :
    applyTests v = grantTest v := by
  rw [(hs.of_settled h.settled).applyTests,
    shedTest_of_kept (.inr (.inr fun k => sheddable_of_free ((h.steps k).trans (hfree k))))]

theorem Formed.grantedState (h : Formed s v) : grantedState v = grantedState s := by
  obtain ⟨-, hisolated, -⟩ := feeder_of_settled h.settled
  rw [Machine.grantedState, Machine.grantedState, hisolated]

theorem worth_le_wantUnits {k : CoverStep} (h : wanted s k = true) : worth s k ≤ wantUnits s := by
  rw [wantUnits]
  cases k <;> rw [h, if_pos rfl] <;> omega

/-- A START that fits is granted, and nothing else (R168, R176). -/
theorem tests_of_start (h : Formed s v) (hs : Hears s) (hfree : ∀ k, stepOf s.fsu k = .free) (hstart : wanted s .start = true)
    (hheat : heaterWant s = 0)
    (hfits : committed s.fsu.peers + ahead (claimKey s) s.fsu.peers + s.settings.startUnits ≤ effectiveBudget s) (k : CoverStep) :
    stepOf (applyTests v).fsu k = if k = .start then grantedState s else .free := by
  obtain ⟨h1, h2⟩ := stages_unwanted hheat
  have hunits : 0 < s.settings.startUnits := ((wanted_start_iff s).1 hstart).2
  have hworth : worth v .start = s.settings.startUnits := settled_worth h.settled .start
  have hready := h.ready hs hfree (Nat.lt_of_lt_of_le hunits (worth_le_wantUnits hstart))
  have hlist : freeWanted v = [.start] :=
    freeWanted_of_start ((h.wanted _).trans hstart) ((h.steps .start).trans (hfree .start)) ((h.wanted _).trans h1)
      ((h.wanted _).trans h2)
  have hused := h.used hfree
  rw [h.applyTests hs hfree, grantTest_of_ready hready, if_pos (by rw [hused, h.effective]; omega), hlist, grantSteps,
    if_pos (by rw [hworth, hused, h.effective]; omega), grantSteps, stepOf_setStep, h.grantedState, h.steps, hfree]

theorem announce_of_held {s0 : State} (g : Bool) (hloud : 0 < held v) (hne : held v ≠ held s0) :
    announce s0 g v = handNotice v false := by
  have hsilent : ¬ Feeder.silent v = true := fun h => by
    obtain ⟨hheld, -⟩ := (silent_iff v).1 h
    omega
  rw [announce, if_neg hsilent]
  exact if_pos (by simp [hne])

theorem held_of_start (hstart : stepOf s.fsu .start ≠ .free) (h1 : stepOf s.fsu .stage1 = .free) (h2 : stepOf s.fsu .stage2 = .free) :
    held s = s.settings.startUnits := by
  have hunits : ∀ k, stepOf s.fsu k = .free → unitsIf s (· != .free) k = 0 := fun k hk => by rw [unitsIf, hk]; rfl
  rw [held, hunits _ h1, hunits _ h2, unitsIf, if_pos (bne_iff_ne.2 hstart)]
  rfl

/-- A notice announces a pending START alone, with the units that it holds and wants. -/
structure StartAnnounced (units : Nat) (n : Notice) : Prop where
  farewell : n.farewell = false
  start : n.annStart = true
  stage1 : n.annStage1 = false
  stage2 : n.annStage2 = false
  held : n.held = units
  want : n.want = units

theorem composeNotice_of_start (h0 : s.fsu.start = .pending) (h1 : s.fsu.stage1 = .free) (h2 : s.fsu.stage2 = .free)
    (hwant : s.fsu.want = s.settings.startUnits) : StartAnnounced s.settings.startUnits (composeNotice s false) where
  farewell := rfl
  start := decide_eq_true h0
  stage1 := decide_eq_false (by rw [h1]; decide)
  stage2 := decide_eq_false (by rw [h2]; decide)
  held := held_of_start (by rw [stepOf, h0]; decide) h1 h2
  want := hwant

theorem announce_start {s0 : State} (g : Bool) (hmay : Safety.mayAnnounce v) (hs0 : held s0 = 0) (h0 : v.fsu.start = .pending)
    (h1 : v.fsu.stage1 = .free) (h2 : v.fsu.stage2 = .free) (hwant : v.fsu.want = v.settings.startUnits)
    (hunits : 0 < v.settings.startUnits) :
    ∃ n, (announce s0 g v).plp.slot = some n ∧ StartAnnounced v.settings.startUnits n := by
  have hheld : held v = v.settings.startUnits := held_of_start (by rw [stepOf, h0]; decide) h1 h2
  obtain ⟨hslot, -⟩ := handNotice_handed hmay false
  rw [announce_of_held g (by omega) (by omega)]
  exact ⟨_, hslot, composeNotice_of_start h0 h1 h2 hwant⟩

theorem wantUnits_of_start (hstart : wanted s .start = true) (hheat : heaterWant s = 0) :
    wantUnits s = s.settings.startUnits := by
  obtain ⟨h1, h2⟩ := stages_unwanted hheat
  rw [wantUnits, hstart, h1, h2]
  simp [worth]

/-- A START wanted that fits the room, at the end of the settle window of a unit that holds nothing. -/
structure StartFits (s : State) : Prop extends Expires s where
  free : ∀ k, stepOf s.fsu k = .free
  start : wanted s .start = true
  motor : s.ost.motor = .stopped
  fits : committed s.fsu.peers + ahead (claimKey s) s.fsu.peers + s.settings.startUnits ≤ effectiveBudget s

namespace StartFits

variable (h : StartFits s)
include h

theorem heat : heaterWant s = 0 := heaterWant_of_motor (by rw [h.motor]; decide)

theorem entered : Entered s (settleEntry (settleEnds s)) :=
  entered_of_settleEnds h.taken (by rw [h.motor]; decide) (fun k => .inl (h.free k)) (.inl ⟨.start, h.start, h.free _⟩)

/-- One evaluation grants the START. -/
theorem evaluated (k : CoverStep) : stepOf (evaluateOnce (settleEntry (settleEnds s))).fsu k =
    if k = .start then grantedState s else .free := by
  have hnot : (if k = .start then grantedState s else .free) ≠ .release := by
    unfold grantedState
    repeat' split
    all_goals decide
  rw [stepOf_evaluateOnce, tests_of_start h.entered.formed h.hears h.free h.start h.heat h.fits, if_neg fun hk => hnot hk.1]

theorem once : settleAndEvaluate true s (settleEnds s) = evaluateOnce (settleEntry (settleEnds s)) := by
  refine settleAndEvaluate_once (fun k hk => ?_) (evaluateOnce_cls ((heaterWant_of_settled h.entered.settled).trans h.heat))
  rw [h.entered.steps, h.free] at hk
  exact absurd hk (by simp [Safety.Covered])

theorem steps (k : CoverStep) : stepOf (finish true s (settleEnds s)).fsu k = if k = .start then grantedState s else .free := by
  rw [finish_eq, stepOf_of_steps (announce_steps _ _ _), h.once, h.evaluated]

/-- Outside an isolation the grant is announced (R168, R173). -/
theorem announced (hiso : s.fsu.isolated = none) (hid : 1 ≤ s.scv.stationId) (hid31 : s.scv.stationId ≤ 31) :
    ∃ n, (finish true s (settleEnds s)).plp.slot = some n ∧ StartAnnounced s.settings.startUnits n := by
  have hset : Settled s (evaluateOnce (settleEntry (settleEnds s))) := h.entered.settled.trans (Safety.evaluateOnce_settled _)
  have hpending : grantedState s = .pending := by rw [grantedState, hiso]; rfl
  obtain ⟨hsetup, hcalm, -, hstrap⟩ := h.hears
  have hmay := (mayAnnounce_of_settled hset).2 ⟨hsetup, hcalm, hstrap, hid, hid31⟩
  have hwant : (evaluateOnce (settleEntry (settleEnds s))).fsu.want = s.settings.startUnits := by
    rw [(want_of_taken (evaluateOnce_taken _)).1, h.entered.want, wantUnits_of_start h.start h.heat]
  rw [← hset.settings] at hwant ⊢
  rw [finish_eq, h.once]
  refine announce_start _ hmay (held_of_free h.free) ((h.evaluated .start).trans hpending) (h.evaluated .stage1)
    (h.evaluated .stage2) hwant ?_
  rw [hset.settings]
  exact ((wanted_start_iff s).1 h.start).2

end StartFits

/-! ## Evaluating again -/

/-- A unit for which an evaluation changes no step: its wanted steps are in the cover, none is under release, and what it
and its peers hold stays within the budget. -/
structure Steady (s : State) : Prop where
  cover : ∀ k, wanted s k = true → stepOf s.fsu k = .cover
  stands : ∀ k, stepOf s.fsu k ≠ .release
  within : held s + committed s.fsu.peers ≤ effectiveBudget s

theorem Steady.of_kept (h : Steady s) (hset : Settled s t) (hsteps : ∀ k, stepOf t.fsu k = stepOf s.fsu k)
    (hwanted : ∀ k, wanted t k = wanted s k) : Steady t := by
  obtain ⟨hpeers, -⟩ := feeder_of_settled hset
  have hbudget := effectiveBudget_of_settled hset
  refine ⟨fun k hk => ?_, fun k => ?_, ?_⟩
  · rw [hsteps]
    exact h.cover k ((hwanted k).symm.trans hk)
  · rw [hsteps]
    exact h.stands k
  · rw [held_of_steps (steps_of_stepOf hsteps) hset.settings, hpeers, hbudget]
    exact h.within

theorem heldKept_le_held (s : State) : heldKept s ≤ held s := by
  have hunits : ∀ k, unitsIf s (fun x => x = .pending || x = .cover) k ≤ unitsIf s (· != .free) k := fun k => by
    rw [unitsIf, unitsIf]
    cases stepOf s.fsu k <;> simp
  exact Nat.add_le_add (Nat.add_le_add (hunits _) (hunits _)) (hunits _)

theorem formEvaluation_kept (v : State) (k : CoverStep) :
    stepOf (formEvaluation v).fsu k = stepOf v.fsu k ∧ wanted (formEvaluation v) k = wanted v k :=
  ⟨stepOf_of_steps (formEvaluation_steps v) k,
    wanted_of_settled (Safety.formEvaluation_settled v) (by rw [formEvaluation_ost]) k⟩

theorem Steady.formEvaluation (h : Steady v) : Steady (formEvaluation v) :=
  h.of_kept (Safety.formEvaluation_settled v) (fun k => (formEvaluation_kept v k).1) fun k => (formEvaluation_kept v k).2

theorem Steady.applyTests (h : Steady v) (heff : v.fsu.effective = effectiveBudget v) : applyTests v = v := by
  have hover : overrun v = false := by
    have hle := heldKept_le_held v
    have hwithin := h.within
    exact decide_eq_false (by rw [heff]; omega)
  have hgrant : grantTest v = v := grantTest_of_none_free fun k hk => by rw [h.cover k hk]; decide
  rw [Machine.applyTests, shedTest_of_kept (.inr (.inl hover)), hgrant, ite_self]

theorem Steady.stepOf_evaluateOnce (h : Steady v) (k : CoverStep) : stepOf (evaluateOnce v).fsu k = stepOf v.fsu k := by
  have hform := h.formEvaluation
  have heff : (Machine.formEvaluation v).fsu.effective = effectiveBudget (Machine.formEvaluation v) := by
    rw [(Feeder.of_formed (formEvaluation_formed v)).1]
    exact (effectiveBudget_of_settled (Safety.formEvaluation_settled v)).symm
  rw [Machine.stepOf_evaluateOnce, hform.applyTests heff, if_neg fun hk => hform.stands k hk.1, (formEvaluation_kept v k).1]

theorem Steady.evaluateOnce (h : Steady v) : Steady (evaluateOnce v) :=
  h.of_kept (Safety.evaluateOnce_settled v) h.stepOf_evaluateOnce
    (wanted_of_settled (Safety.evaluateOnce_settled v) (stopDue_of_follows (evaluateOnce_follows v)))

theorem Steady.stepOf_evaluateTimes (h : Steady v) (n : Nat) (k : CoverStep) :
    stepOf (evaluateTimes n v).fsu k = stepOf v.fsu k := by
  have hend := evaluateTimes_induction (P := fun w => Steady w ∧ stepOf w.fsu k = stepOf v.fsu k)
    (fun w hw => ⟨hw.1.formEvaluation, (formEvaluation_kept w k).1.trans hw.2⟩)
    (fun w hw => ⟨hw.1.evaluateOnce, (hw.1.stepOf_evaluateOnce k).trans hw.2⟩) n v ⟨h, rfl⟩
  exact hend.2

/-- One evaluation settles the steps, if all that another may be called for by is a full grant. -/
theorem stepOf_settleAndEvaluate {s0 : State} (hkept : ∀ k, Safety.Covered (stepOf (settleEntry s).fsu k) →
      stepOf (evaluateOnce (settleEntry s)).fsu k ≠ .free)
    (hfull : fullGrant (evaluateOnce (settleEntry s)) = true → Steady (evaluateOnce (settleEntry s))) (k : CoverStep) :
    stepOf (settleAndEvaluate true s0 s).fsu k = stepOf (evaluateOnce (settleEntry s)).fsu k := by
  by_cases hgrant : fullGrant (evaluateOnce (settleEntry s)) = true
  · have heval : settleAndEvaluate true s0 s = evaluate (settleEntry s) := if_pos rfl
    rw [heval, evaluate, evaluateTimes]
    split
    · exact (hfull hgrant).stepOf_evaluateTimes 3 k
    · rfl
  · have hcls := evaluateOnce_cls_eq (settleEntry s)
    rw [if_neg hgrant] at hcls
    rw [settleAndEvaluate_once hkept hcls]

/-! ## The stages granted -/

theorem motor_of_heat (h : 0 < heaterWant s) : s.ost.motor = .running := by
  refine Classical.byContradiction fun hmotor => ?_
  rw [heaterWant_of_motor hmotor] at h
  exact Nat.lt_irrefl _ h

theorem start_unwanted (h : s.ost.motor = .running) : wanted s .start = false :=
  decide_eq_false (by rw [startWant_of_running h]; decide)

/-- The room that the peers leave a unit which holds nothing (R176). -/
def roomLeft (s : State) : Nat := effectiveBudget s - (committed s.fsu.peers + ahead (claimKey s) s.fsu.peers)

/-- The steps as the stages are granted in their order while they fit a room. -/
def stagesGranted (s : State) (r : Nat) : CoverStep → StepState
  | .start => .free
  | .stage1 => if s.settings.weight1 ≤ r then grantedState s else .free
  | .stage2 => if wanted s .stage2 = true ∧ s.settings.weight1 + s.settings.weight2 ≤ r then grantedState s else .free

theorem grantSteps_stages (hfree : ∀ k, stepOf v.fsu k = .free) (h0 : wanted v .start = false) (h1 : wanted v .stage1 = true)
    (r : Nat) (k : CoverStep) : stepOf (grantSteps v (grantedState v) r (freeWanted v)).fsu k = stagesGranted v r k := by
  have hlist : freeWanted v = .stage1 :: [CoverStep.stage2].filter fun k => wanted v k := by
    simp [freeWanted, h0, h1, hfree]
  have hw1 : worth v .stage1 = v.settings.weight1 := rfl
  have hw2 : worth (setStep v .stage1 (grantedState v)) .stage2 = v.settings.weight2 := rfl
  by_cases hfits1 : v.settings.weight1 ≤ r
  · by_cases h2 : wanted v .stage2 = true
    · have hrest : [CoverStep.stage2].filter (fun k => wanted v k) = [.stage2] := by simp [h2]
      by_cases hfits2 : v.settings.weight1 + v.settings.weight2 ≤ r
      · rw [hlist, hrest, grantSteps, hw1, if_pos hfits1, grantSteps, hw2, if_pos (by omega), grantSteps, stepOf_setStep,
          stepOf_setStep, hfree]
        cases k <;> simp [stagesGranted, hfits1, hfits2, h2]
      · rw [hlist, hrest, grantSteps, hw1, if_pos hfits1, grantSteps, hw2, if_neg (by omega), stepOf_setStep, hfree]
        cases k <;> simp [stagesGranted, hfits1, hfits2]
    · have hrest : [CoverStep.stage2].filter (fun k => wanted v k) = [] := by simp [h2]
      rw [hlist, hrest, grantSteps, hw1, if_pos hfits1, grantSteps, stepOf_setStep, hfree]
      cases k <;> simp [stagesGranted, hfits1, h2]
  · rw [hlist, grantSteps, hw1, if_neg hfits1, hfree]
    have hnot : ¬ v.settings.weight1 + v.settings.weight2 ≤ r := by omega
    cases k <;> simp [stagesGranted, hfits1, hnot]

theorem stagesGranted_ne_release (s : State) (r : Nat) (k : CoverStep) : stagesGranted s r k ≠ .release := by
  cases k <;> simp only [stagesGranted, grantedState] <;> repeat' split
  all_goals decide

theorem Formed.stagesGranted (h : Formed s v) (r : Nat) (k : CoverStep) : stagesGranted v r k = stagesGranted s r k := by
  cases k <;> simp [Machine.stagesGranted, h.settled.settings, h.grantedState, h.wanted]

/-- STAGE1 wanted, and perhaps STAGE2, at the end of the settle window of a unit that holds nothing. -/
structure StagesExpire (s : State) : Prop extends Expires s where
  free : ∀ k, stepOf s.fsu k = .free
  stage1 : wanted s .stage1 = true
  units : 0 < s.settings.weight1

namespace StagesExpire

variable (h : StagesExpire s)
include h

theorem motor : s.ost.motor = .running := motor_of_heat (of_decide_eq_true h.stage1)

theorem entered : Entered s (settleEntry (settleEnds s)) :=
  entered_of_settleEnds h.taken (by rw [h.motor]; decide) (fun k => .inl (h.free k)) (.inl ⟨.stage1, h.stage1, h.free _⟩)

theorem tests (hv : Formed s v) (k : CoverStep) : stepOf (applyTests v).fsu k = stagesGranted s (roomLeft s) k := by
  have hfree : ∀ k, stepOf v.fsu k = .free := fun k => (hv.steps k).trans (h.free k)
  have hwant : 0 < wantUnits s := Nat.lt_of_lt_of_le h.units (worth_le_wantUnits h.stage1)
  rw [hv.applyTests h.hears h.free, grantTest_of_ready (hv.ready h.hears h.free hwant), hv.used h.free, hv.effective]
  by_cases hroom : committed s.fsu.peers + ahead (claimKey s) s.fsu.peers ≤ effectiveBudget s
  · rw [if_pos hroom, grantSteps_stages hfree ((hv.wanted _).trans (start_unwanted h.motor)) ((hv.wanted _).trans h.stage1),
      hv.stagesGranted]
    rfl
  · have hnone : roomLeft s = 0 := Nat.sub_eq_zero_of_le (Nat.le_of_not_le hroom)
    have hunits := h.units
    rw [if_neg hroom, hfree, hnone]
    cases k <;> simp [stagesGranted] <;> omega

theorem evaluated (k : CoverStep) :
    stepOf (evaluateOnce (settleEntry (settleEnds s))).fsu k = stagesGranted s (roomLeft s) k := by
  rw [stepOf_evaluateOnce, h.tests h.entered.formed, if_neg fun hk => stagesGranted_ne_release s _ k hk.1]

/-- What is held once a stage has been granted stays within the budget (R176). -/
theorem within (hgranted : stagesGranted s (roomLeft s) .stage1 ≠ .free) :
    held (evaluateOnce (settleEntry (settleEnds s))) + committed s.fsu.peers ≤ effectiveBudget s := by
  have hform := h.entered.formed
  have htests := hform.applyTests h.hears h.free
  have hheld : held (evaluateOnce (settleEntry (settleEnds s))) = held (grantTest (formEvaluation (settleEntry (settleEnds s)))) := by
    refine held_of_steps (steps_of_stepOf fun k => ?_) ?_
    · rw [h.evaluated, ← htests, h.tests hform]
    · rw [(Safety.evaluateOnce_settled _).settings, (Safety.grantTest_settled _).settings,
        (Safety.formEvaluation_settled _).settings]
  have hmoved : grantTest (formEvaluation (settleEntry (settleEnds s))) ≠ formEvaluation (settleEntry (settleEnds s)) := fun heq => by
    have hstep := h.tests hform .stage1
    rw [htests, heq, hform.steps, h.free] at hstep
    exact hgranted hstep.symm
  obtain ⟨hbudget, -⟩ := Proofs.grantKeepsBudget _ _ (Eq.refl (grantTest (formEvaluation (settleEntry (settleEnds s)))))
  obtain ⟨hpeers, -⟩ := feeder_of_settled hform.settled
  have hfits := hbudget hmoved
  rw [hform.effective, hpeers] at hfits
  rw [hheld]
  omega

/-- A full grant leaves nothing to evaluate again: it stays within the budget (R176). -/
theorem steady (hfull : fullGrant (evaluateOnce (settleEntry (settleEnds s))) = true) :
    Steady (evaluateOnce (settleEntry (settleEnds s))) := by
  obtain ⟨-, hcover⟩ := (fullGrant_iff _).1 hfull
  have hset : Settled s (evaluateOnce (settleEntry (settleEnds s))) := h.entered.settled.trans (Safety.evaluateOnce_settled _)
  have hwanted : ∀ k, wanted (evaluateOnce (settleEntry (settleEnds s))) k = wanted s k := fun k => by
    rw [wanted_of_settled (Safety.evaluateOnce_settled _) (stopDue_of_follows (evaluateOnce_follows _)), h.entered.wanted]
  obtain ⟨hpeers, -⟩ := feeder_of_settled hset
  refine ⟨hcover, fun k => ?_, ?_⟩
  · rw [h.evaluated]
    exact stagesGranted_ne_release s _ k
  · have hbudget := effectiveBudget_of_settled hset
    have hgranted := hcover .stage1 ((hwanted _).trans h.stage1)
    rw [h.evaluated] at hgranted
    rw [hpeers, hbudget]
    exact h.within (by rw [hgranted]; decide)

theorem steps (k : CoverStep) : stepOf (finish true s (settleEnds s)).fsu k = stagesGranted s (roomLeft s) k := by
  rw [finish_eq, stepOf_of_steps (announce_steps _ _ _), stepOf_settleAndEvaluate (fun k hk => ?_) h.steady, h.evaluated]
  rw [h.entered.steps, h.free] at hk
  exact absurd hk (by simp [Safety.Covered])

end StagesExpire

end Sys2Proof.Machine
end

section
/-! PROOFS. An overrun at the end of the settle window: what the station of the largest key sheds (R177), and the unit's timers
and evaluations together. -/

namespace Sys2Proof.Machine

open Safety (Covered Settled)

variable {s t v w : State}

/-! ## The count of sheds -/

section
variable (s)

@[simp] theorem setStep_sheds (k : CoverStep) (x : StepState) : (setStep s k x).fsu.sheds = s.fsu.sheds := by
  cases k <;> rfl

@[simp] theorem giveUp_sheds (k : CoverStep) : (giveUp s k).fsu.sheds = s.fsu.sheds := by
  unfold giveUp
  split <;> simp

@[simp] theorem dropAll_sheds : (dropAll s).fsu.sheds = s.fsu.sheds := by
  have drop : ∀ (v : State) (k : CoverStep), (dropUnwanted v k).fsu.sheds = v.fsu.sheds := fun v k => by
    unfold dropUnwanted
    split <;> simp
  simp [dropAll, drop]

@[simp] theorem confirmAll_sheds : (confirmAll s).fsu.sheds = s.fsu.sheds := by
  have confirm : ∀ (v : State) (k : CoverStep), (confirmStep v k).fsu.sheds = v.fsu.sheds := fun v k => by
    unfold confirmStep
    split <;> simp
  simp [confirmAll, confirm]

@[simp] theorem settleClass_sheds : (settleClass s).fsu.sheds = s.fsu.sheds := by
  unfold settleClass
  split <;> rfl

theorem settleEntry_sheds : (settleEntry s).fsu.sheds = s.fsu.sheds := by
  have htake : ∀ v, (takeWant v).fsu.sheds = v.fsu.sheds := fun _ => rfl
  rw [settleEntry, settleClass_sheds, htake, confirmAll_sheds, dropAll_sheds, syncOutputs_fsu]

theorem formEvaluation_sheds : (formEvaluation s).fsu.sheds = s.fsu.sheds := by
  unfold formEvaluation
  dsimp only
  split <;> rfl

theorem announce_sheds (s0 : State) (g : Bool) : (announce s0 g s).fsu.sheds = s.fsu.sheds := by
  unfold announce handNotice stopNotice
  repeat' split
  all_goals rfl

end

/-! ## One step shed -/

/-- A step is shed: an overrun stands, and it is pending or in the cover and of some worth (R177). -/
def shedsStep (v : State) (k : CoverStep) : Bool := overrun v && sheddable v k && 0 < worth v k

theorem shedStep_of_sheds {j : CoverStep} (h : shedsStep v j = true) : shedStep v j =
    (giveUp v j).setFsu { (giveUp v j).fsu with sheds := satInc 255 v.fsu.sheds } := by
  have hshed : shedStep v j = (giveUp v j).setFsu { (giveUp v j).fsu with sheds := satInc 255 (giveUp v j).fsu.sheds } := if_pos h
  rw [hshed, giveUp_sheds]

theorem shedStep_of_not {j : CoverStep} (h : ¬ shedsStep v j = true) : shedStep v j = v := if_neg h

theorem stepOf_shedStep (v : State) (j k : CoverStep) : stepOf (shedStep v j).fsu k =
    if k = j ∧ shedsStep v j = true then (stepOf v.fsu k).givenUp else stepOf v.fsu k := by
  by_cases h : shedsStep v j = true
  · simp only [h, and_true]
    rw [shedStep_of_sheds h, ← stepOf_giveUp]
    exact stepOf_of_steps rfl k
  · rw [shedStep_of_not h, if_neg fun hk => h hk.2]

theorem shedStep_sheds (v : State) (j : CoverStep) :
    (shedStep v j).fsu.sheds = if shedsStep v j = true then satInc 255 v.fsu.sheds else v.fsu.sheds := by
  by_cases h : shedsStep v j = true
  · rw [shedStep_of_sheds h, if_pos h]
    rfl
  · rw [shedStep_of_not h, if_neg h]

theorem shedStep_apart (v : State) (j : CoverStep) : (shedStep v j).fsu.apart = v.fsu.apart := by
  unfold shedStep
  split
  · exact giveUp_apart v j
  · rfl

theorem shedStep_follows (v : State) (j : CoverStep) : (shedStep v j).ost.follows = v.ost.follows := by
  unfold shedStep
  split
  · exact giveUp_follows v j
  · rfl

theorem overrun_iff (v : State) : overrun v = true ↔ v.fsu.effective < heldKept v + committed v.fsu.peers := decide_eq_true_iff

/-- The units of the steps in the cover, of a unit whose START is free. -/
theorem heldKept_of_stages (h0 : stepOf v.fsu .start = .free) (h1 : stepOf v.fsu .stage1 = .cover) :
    heldKept v = v.settings.weight1 + if stepOf v.fsu .stage2 = .cover ∨ stepOf v.fsu .stage2 = .pending then v.settings.weight2 else 0 := by
  rw [heldKept, unitsIf, unitsIf, unitsIf, h0, h1]
  cases stepOf v.fsu .stage2 <;> simp [worth]

theorem shedsStep_iff {k : CoverStep} (h : stepOf v.fsu k = .cover) :
    shedsStep v k = true ↔ v.fsu.effective < heldKept v + committed v.fsu.peers ∧ 0 < worth v k := by
  have hsheddable : sheddable v k = true := by rw [sheddable, h]; rfl
  rw [shedsStep, hsheddable, Bool.and_true, Bool.and_eq_true_iff, overrun_iff, decide_eq_true_iff]

theorem shedStep_covered (j : CoverStep) {k : CoverStep} (h : Covered (stepOf v.fsu k)) :
    Covered (stepOf (shedStep v j).fsu k) := by
  rw [stepOf_shedStep]
  split
  · rcases h with h | h <;> rw [h] <;> exact .inr rfl
  · exact h

theorem shedTest_covered {k : CoverStep} (h : Covered (stepOf v.fsu k)) : Covered (stepOf (shedTest v).fsu k) := by
  unfold shedTest
  split
  · exact shedStep_covered _ (shedStep_covered _ h)
  · exact h

theorem giveUp_leaves (h : stepOf v.fsu .stage2 = .cover) (hstate : v.ost.stage2.state = .firing) :
    (giveUp v .stage2).ost.stage2.leaves = true := by
  have hgive : giveUp v .stage2 = loseHold (setStep v .stage2 .release) .stage2 := by rw [giveUp, h]
  have hleaves : (loseHold (setStep v .stage2 .release) .stage2).ost.stage2.leaves =
      (v.ost.stage2.leaves || decide (v.ost.stage2.state = .firing)) := rfl
  rw [hgive, hleaves, hstate]
  exact Bool.or_true _

theorem shedStep_stage2 (v : State) : (shedStep v .stage1).ost.stage2 = v.ost.stage2 := by
  by_cases h : shedsStep v .stage1 = true
  · rw [shedStep_of_sheds h, State.setFsu_ost]
    unfold giveUp
    split <;> rfl
  · rw [shedStep_of_not h]

theorem syncOutputs_firing (h : s.ost.stage2.state = .firing) : (syncOutputs s).ost.stage2.state = .firing := by
  have hsync : ∀ asked, syncStage asked s.ost.stage2 = s.ost.stage2 := fun asked => by rw [syncStage, h]
  have hfollow : (syncOutputs s).ost.stage2 = followStage s 2 s.fsu.stage2 s.ost.stage2 := rfl
  rw [hfollow, followStage, hsync]
  split <;> exact h

/-! ## An overrun that falls to the station -/

/-- Both stages in the cover at the end of the settle window, conducting and of class 2. -/
structure StagesCovered (s : State) : Prop extends Expires s where
  cls : s.fsu.cls = 2
  start : stepOf s.fsu .start = .free
  stage1 : stepOf s.fsu .stage1 = .cover
  stage2 : stepOf s.fsu .stage2 = .cover
  wanted2 : wanted s .stage2 = true
  draws1 : drawsNothing s .stage1 = false
  draws2 : drawsNothing s .stage2 = false

/-- An overrun falls to the station: it has the largest key of those that hold units (R177). -/
def Falls (s : State) : Prop := largestKey (claimKey s) s.fsu.peers = true ∧
  effectiveBudget s < s.settings.weight1 + s.settings.weight2 + committed s.fsu.peers

/-- The overrun still stands once STAGE2 is gone. -/
def FallsFurther (s : State) : Prop :=
  0 < s.settings.weight1 ∧ effectiveBudget s < s.settings.weight1 + committed s.fsu.peers

theorem Formed.largestKey (h : Formed s v) : largestKey v.fsu.key v.fsu.peers = largestKey (claimKey s) s.fsu.peers := by
  obtain ⟨hpeers, -⟩ := feeder_of_settled h.settled
  rw [hpeers, h.key]

theorem Formed.shedTest (h : Formed s v) (hf : Falls s) : shedTest v = shedStep (shedStep v .stage2) .stage1 :=
  if_pos (h.largestKey.trans hf.1)

theorem falls_iff (s : State) : Falls s ↔ (∀ p ∈ s.fsu.peers, p.held = 0 ∨ p.key ≤ claimKey s) ∧
    effectiveBudget s < s.settings.weight1 + s.settings.weight2 + committed s.fsu.peers := by
  simp [Falls, Machine.largestKey]

namespace StagesCovered

variable (h : StagesCovered s)
include h

theorem heat : 0 < heaterWant s := by
  have hw := h.wanted2
  rw [wanted, Bool.and_eq_true_iff, Bool.and_eq_true_iff, decide_eq_true_iff] at hw
  exact hw.1.1

theorem units2 : 0 < s.settings.weight2 := by
  have hw := h.wanted2
  rw [wanted, Bool.and_eq_true_iff, decide_eq_true_iff (p := 0 < s.settings.weight2)] at hw
  exact hw.2

theorem motor : s.ost.motor = .running := motor_of_heat h.heat

theorem entered : Entered s (settleEntry (settleEnds s)) := by
  refine entered_of_settleEnds h.taken (by rw [h.motor]; decide) (fun k => ?_) (.inr h.cls)
  cases k
  · exact .inl h.start
  · exact .inr ⟨h.stage1, decide_eq_true h.heat⟩
  · exact .inr ⟨h.stage2, h.wanted2⟩

variable (hv : Formed s v)
include hv

theorem overruns : v.fsu.effective < heldKept v + committed v.fsu.peers ↔
    effectiveBudget s < s.settings.weight1 + s.settings.weight2 + committed s.fsu.peers := by
  obtain ⟨hpeers, -⟩ := feeder_of_settled hv.settled
  have hkept := heldKept_of_stages ((hv.steps _).trans h.start) ((hv.steps _).trans h.stage1)
  rw [hv.steps, h.stage2, if_pos (.inl rfl), hv.settled.settings] at hkept
  rw [hv.effective, hpeers, hkept]

/-- STAGE2 is shed. -/
theorem sheds2 (hf : Falls s) : shedsStep v .stage2 = true := by
  refine (shedsStep_iff ((hv.steps _).trans h.stage2)).2 ⟨(h.overruns hv).2 hf.2, ?_⟩
  rw [settled_worth hv.settled]
  exact h.units2

/-- STAGE1 is shed after it, if the overrun still stands. -/
theorem sheds1 (hf : Falls s) : shedsStep (shedStep v .stage2) .stage1 = true ↔ FallsFurther s := by
  obtain ⟨-, -, -, -, -, -, hpeers'⟩ := Feeder.of_apart (shedStep_apart v .stage2)
  obtain ⟨heff, -⟩ := Feeder.of_formed (formed_of_apart (shedStep_apart v .stage2))
  obtain ⟨hpeers, -⟩ := feeder_of_settled hv.settled
  have hset : Settled v (shedStep v .stage2) := Safety.shedStep_settled v .stage2
  have h0 : stepOf (shedStep v .stage2).fsu .start = .free := by
    rw [stepOf_shedStep, if_neg (fun hk => absurd hk.1 (by decide)), hv.steps, h.start]
  have h1 : stepOf (shedStep v .stage2).fsu .stage1 = .cover := by
    rw [stepOf_shedStep, if_neg (fun hk => absurd hk.1 (by decide)), hv.steps, h.stage1]
  have h2 : stepOf (shedStep v .stage2).fsu .stage2 = .release := by
    rw [stepOf_shedStep, if_pos ⟨rfl, h.sheds2 hv hf⟩, hv.steps, h.stage2]
    rfl
  have hkept := heldKept_of_stages h0 h1
  rw [h2, if_neg (by decide), Nat.add_zero, hset.settings, hv.settled.settings] at hkept
  have hworth : worth (shedStep v .stage2) .stage1 = s.settings.weight1 := by
    rw [settled_worth hset, settled_worth hv.settled]
    rfl
  rw [shedsStep_iff h1, hworth, hkept, hpeers', hpeers, heff, and_comm]
  have heff' : v.fsu.formed.1 = effectiveBudget s := hv.effective
  rw [heff']
  rfl

theorem shedTest_of_not_falls (hf : ¬ Falls s) : shedTest v = v := by
  refine shedTest_of_kept ?_
  by_cases hkey : largestKey (claimKey s) s.fsu.peers = true
  · refine .inr (.inl (Bool.eq_false_iff.2 fun hover => hf ⟨hkey, ?_⟩))
    exact (h.overruns hv).1 ((overrun_iff v).1 hover)
  · exact .inl (hv.largestKey.trans (Bool.eq_false_iff.2 hkey))

/-- Nothing is granted beside what is shed: no wanted step is free. -/
theorem applyTests_formed : applyTests v = shedTest v := by
  rw [(h.hears.of_settled hv.settled).applyTests]
  refine grantTest_of_none_free fun k hk hfree => ?_
  have hwanted : wanted (shedTest v) k = wanted s k := by
    have hstop : (shedTest v).ost.stopDue = v.ost.stopDue := stopDue_of_follows (shedTest_follows v)
    rw [wanted_of_settled (Safety.shedTest_settled v) hstop, hv.wanted]
  have hnot : ¬ Covered (stepOf (shedTest v).fsu k) := by rw [hfree]; simp [Covered]
  cases k
  · rw [hwanted, start_unwanted h.motor] at hk
    exact absurd hk (by decide)
  · exact hnot (shedTest_covered (.inl ((hv.steps _).trans h.stage1)))
  · exact hnot (shedTest_covered (.inl ((hv.steps _).trans h.stage2)))

theorem shedTest_start : stepOf (shedTest v).fsu .start = .free := shedTest_free ((hv.steps _).trans h.start)

omit hv

/-- The one evaluation sheds, and no load has stopped. -/
theorem evaluated (k : CoverStep) : stepOf (evaluateOnce (settleEntry (settleEnds s))).fsu k =
    stepOf (shedTest (formEvaluation (settleEntry (settleEnds s)))).fsu k := by
  have hform := h.entered.formed
  rw [stepOf_evaluateOnce, h.applyTests_formed hform, if_neg]
  rintro ⟨hrel, hdraws⟩
  rw [settled_draws h.entered.settled] at hdraws
  cases k
  · rw [h.shedTest_start hform] at hrel
    exact absurd hrel (by decide)
  · exact absurd (hdraws.symm.trans h.draws1) (by decide)
  · exact absurd (hdraws.symm.trans h.draws2) (by decide)

theorem once : settleAndEvaluate true s (settleEnds s) = evaluateOnce (settleEntry (settleEnds s)) := by
  refine settleAndEvaluate_once (fun k hk hfree => ?_) ?_
  · rw [h.evaluated] at hfree
    have hcovered : Covered (stepOf (shedTest (formEvaluation (settleEntry (settleEnds s)))).fsu k) :=
      shedTest_covered (by rw [(formEvaluation_kept _ k).1]; exact hk)
    rw [hfree] at hcovered
    exact absurd hcovered (by simp [Covered])
  · rw [evaluateOnce_cls_eq, h.entered.cls, h.cls, ite_self]

theorem finish_steps (k : CoverStep) : stepOf (finish true s (settleEnds s)).fsu k =
    stepOf (shedTest (formEvaluation (settleEntry (settleEnds s)))).fsu k := by
  rw [finish_eq, stepOf_of_steps (announce_steps _ _ _), h.once, h.evaluated]

theorem finish_sheds : (finish true s (settleEnds s)).fsu.sheds =
    (shedTest (formEvaluation (settleEntry (settleEnds s)))).fsu.sheds := by
  rw [finish_eq, announce_sheds, h.once, evaluateOnce, settleClass_sheds, confirmAll_sheds, h.applyTests_formed h.entered.formed]

theorem finish_ost : (finish true s (settleEnds s)).ost = (shedTest (formEvaluation (settleEntry (settleEnds s)))).ost := by
  rw [finish_eq, announce_ost, h.once, evaluateOnce, settleClass_ost, confirmAll_ost, h.applyTests_formed h.entered.formed]

theorem start_after : stepOf (finish true s (settleEnds s)).fsu .start = .free :=
  (h.finish_steps _).trans (h.shedTest_start h.entered.formed)

/-- Without an overrun that falls to it the station keeps its stages. -/
theorem kept (hf : ¬ Falls s) (k : CoverStep) : stepOf (finish true s (settleEnds s)).fsu k = stepOf s.fsu k := by
  rw [h.finish_steps, h.shedTest_of_not_falls h.entered.formed hf, h.entered.formed.steps]

theorem before_stage1 : stepOf (shedStep (formEvaluation (settleEntry (settleEnds s))) .stage2).fsu .stage1 = .cover := by
  rw [stepOf_shedStep, if_neg (fun hk => absurd hk.1 (by decide)), h.entered.formed.steps, h.stage1]

variable (hf : Falls s)
include hf

theorem shed_stage2 : stepOf (finish true s (settleEnds s)).fsu .stage2 = .release := by
  have hform := h.entered.formed
  rw [h.finish_steps, hform.shedTest hf, stepOf_shedStep, if_neg (fun hk => absurd hk.1 (by decide)), stepOf_shedStep,
    if_pos ⟨rfl, h.sheds2 hform hf⟩, hform.steps, h.stage2]
  rfl

theorem shed_stage1 (hfurther : FallsFurther s) : stepOf (finish true s (settleEnds s)).fsu .stage1 = .release := by
  have hform := h.entered.formed
  rw [h.finish_steps, hform.shedTest hf, stepOf_shedStep, h.before_stage1,
    if_pos ⟨rfl, (h.sheds1 hform hf).2 hfurther⟩]
  rfl

theorem kept_stage1 (hfurther : ¬ FallsFurther s) : stepOf (finish true s (settleEnds s)).fsu .stage1 = .cover := by
  have hform := h.entered.formed
  rw [h.finish_steps, hform.shedTest hf, stepOf_shedStep, h.before_stage1,
    if_neg fun hk => hfurther ((h.sheds1 hform hf).1 hk.2)]

/-- Each step shed counts (R177). -/
theorem sheds_once : (shedStep (formEvaluation (settleEntry (settleEnds s))) .stage2).fsu.sheds = satInc 255 s.fsu.sheds := by
  have hends : (settleEnds s).fsu.sheds = s.fsu.sheds := rfl
  rw [shedStep_sheds, if_pos (h.sheds2 h.entered.formed hf), formEvaluation_sheds, settleEntry_sheds, hends]

theorem sheds_both (hfurther : FallsFurther s) :
    (finish true s (settleEnds s)).fsu.sheds = satInc 255 (satInc 255 s.fsu.sheds) := by
  have hform := h.entered.formed
  rw [h.finish_sheds, hform.shedTest hf, shedStep_sheds, if_pos ((h.sheds1 hform hf).2 hfurther), h.sheds_once hf]

theorem sheds_one (hfurther : ¬ FallsFurther s) : (finish true s (settleEnds s)).fsu.sheds = satInc 255 s.fsu.sheds := by
  have hform := h.entered.formed
  rw [h.finish_sheds, hform.shedTest hf, shedStep_sheds, if_neg (fun hk => hfurther ((h.sheds1 hform hf).1 hk)),
    h.sheds_once hf]

/-- A firing stage that is shed leaves at the next crossing (R65, R71). -/
theorem leaves_stage2 (hfiring : s.ost.stage2.state = .firing) : (finish true s (settleEnds s)).ost.stage2.leaves = true := by
  have hform := h.entered.formed
  have hstate : (formEvaluation (settleEntry (settleEnds s))).ost.stage2.state = .firing := by
    have hfollows := hform.follows
    simp only [Output.follows, Prod.mk.injEq] at hfollows
    rw [hfollows.2.2, syncOutputs_firing hfiring]
  rw [h.finish_ost, hform.shedTest hf, shedStep_stage2,
    shedStep_of_sheds (h.sheds2 hform hf), State.setFsu_ost]
  exact giveUp_leaves ((hform.steps _).trans h.stage2) hstate

end StagesCovered

/-! ## The timers -/

theorem noticeTimerEnds_silent (h : s.fsu.notice ≠ none) (hheld : held s = 0) (hwant : s.fsu.want = 0) :
    noticeTimerEnds s = s.setFsu { s.fsu with notice := none } := by
  have hsilent : Feeder.silent (s.setFsu { s.fsu with notice := none }) = true := (silent_iff _).2 ⟨hheld, hwant⟩
  rw [noticeTimerEnds, if_pos (Option.isSome_iff_ne_none.2 h)]
  dsimp only
  rw [if_pos hsilent]

theorem noticeTimerEnds_heat (h : s.fsu.notice ≠ none) (hloud : 0 < held s ∨ 0 < s.fsu.want) :
    noticeTimerEnds s = handNotice (s.setFsu { s.fsu with notice := none }) false := by
  have hsilent : ¬ Feeder.silent (s.setFsu { s.fsu with notice := none }) = true := fun hs => by
    obtain ⟨hheld, hwant⟩ := (silent_iff _).1 hs
    have hheld' : held s = 0 := hheld
    have hwant' : s.fsu.want = 0 := hwant
    omega
  rw [noticeTimerEnds, if_pos (Option.isSome_iff_ne_none.2 h)]
  dsimp only
  rw [if_neg hsilent]

/-- The notice timer's end hands a HEAT notice with the key formed anew (R173). -/
theorem noticeTimerEnds_hands (h : s.fsu.notice ≠ none) (hloud : 0 < held s ∨ 0 < s.fsu.want) (hmay : Safety.mayAnnounce s) :
    Settled s (noticeTimerEnds s) ∧ ∃ n, (noticeTimerEnds s).plp.slot = some n ∧ Safety.heatOf s n ∧
      (noticeTimerEnds s).fsu.notice = some (1000000 + s.plp.lfsr.toNat % 128 * 1000) ∧
      (noticeTimerEnds s).fsu.key = claimKey s := by
  have hstopped : Settled s (s.setFsu { s.fsu with notice := none }) := rfl
  obtain ⟨hslot, hfsu⟩ := handNotice_handed ((mayAnnounce_of_settled hstopped).2 hmay) false
  rw [noticeTimerEnds_heat h hloud]
  exact ⟨hstopped.trans (Safety.handNotice_settled _ _), _, hslot, composeNotice_heat _, by rw [hfsu]; rfl, by rw [hfsu]; rfl⟩

theorem coverIf_cls (v : State) (a : Bool) (k : CoverStep) : (coverIf v a k).fsu.cls = v.fsu.cls := by
  unfold coverIf
  split
  · cases k <;> rfl
  · rfl

theorem coverAnnounced_cls (v : State) : (coverAnnounced v).fsu.cls = v.fsu.cls := by
  unfold coverAnnounced
  split
  · rw [coverIf_cls, coverIf_cls, coverIf_cls]
  · rfl

theorem endIsolation_cls (v : State) : (endIsolation v).fsu.cls = v.fsu.cls := by
  unfold endIsolation
  split <;> rfl

theorem noticeSent_cls (s : State) : (noticeSent s).fsu.cls = s.fsu.cls := by
  unfold noticeSent
  split
  · rw [endIsolation_cls, coverAnnounced_cls]
    rfl
  · rfl

/-- A row that calls for an evaluation forms the effective budget and BUDGET_MISMATCH anew (R178). -/
theorem finish_evaluated {u : State} (hmismatch : u.fsu.mismatch = s.fsu.mismatch) (hset : u.settings = s.settings) :
    Settled u (finish true s u) ∧ (finish true s u).fsu.effective = effectiveBudget u ∧
      Safety.mismatchFormed s (finish true s u) :=
  ⟨Safety.finish_settled true s u, (Feeder.of_formed (finish_formed s u)).1, finish_mismatchFormed hmismatch hset s⟩

/-- The class after a row that leaves it alone (R170). -/
theorem finish_class {u : State} (ev : Bool) (hcls : u.fsu.cls = s.fsu.cls) (ht : finish ev s u = t) :
    (0 < heaterWant t → (∀ k, wanted t k = true → stepOf t.fsu k = .cover) → t.fsu.cls = 2) ∧
      (t.fsu.cls = s.fsu.cls ∨ (t.fsu.cls = 2 ∧ 0 < heaterWant t)) := by
  obtain ⟨hfull, hmoved⟩ := finish_fits ev s u
  rw [ht] at hfull hmoved
  rw [hcls] at hmoved
  exact ⟨fun hheat hcover => hfull ((fullGrant_iff t).2 ⟨hheat, hcover⟩), hmoved⟩

end Sys2Proof.Machine

namespace Sys2Proof.Proofs

open Sys2Proof.Machine Sys2Proof.Safety

/-- Settles O50: the timers and evaluations by the one event each makes, the grants and sheds by the evaluation that the settle
timer's end calls for, and the rows that move the want by what each leaves undisturbed. -/
theorem unitTimers : Obligations.UnitTimers := by
  unfold Obligations.UnitTimers
  intro s hpow
  dsimp only
  refine ⟨fun hnotice hheld hwant => ?_, fun hnotice hloud hmay => ?_, fun hsettle => ?_, fun hsettled hlistens h0 h1 h2 => ?_,
    fun hsettled hlistens hcls h0 h1 h2 hw2 hpresent hon1 hon2 => ?_, fun hlisten => ?_, fun id hpeer => ?_, fun c hc => ?_,
    fun c hc => ?_⟩
  · refine (quietEvent_of_due hpow (isSome_of_ne_none hnotice)).trans ?_
    rw [noticeTimerEnds_silent hnotice hheld hwant]
    rfl
  · obtain ⟨hset, n, hslot, hheat, hnotice', hkey⟩ := noticeTimerEnds_hands hnotice hloud hmay
    exact ⟨_, n, quietEvent_of_due hpow (isSome_of_ne_none hnotice), hset, hslot, hheat, hnotice', hkey⟩
  · obtain ⟨hset, heff, hmismatch⟩ := finish_evaluated (s := s) (u := settleEnds s) rfl rfl
    exact ⟨_, mainEvent_of_due hpow (isSome_of_ne_none hsettle), hset, heff, hmismatch,
      fun hs => (settle_of_settleEnds hs.2 rfl).1⟩
  · obtain ⟨hsettle, htaken⟩ := hsettled
    have hnext : exec .settleExpiry s = .next (finish true s (settleEnds s)) :=
      mainEvent_of_due hpow (isSome_of_ne_none hsettle)
    have hfree : ∀ k, stepOf s.fsu k = .free := fun k => by
      cases k
      · exact h0
      · exact h1
      · exact h2
    refine ⟨fun hw hmotor hfits => ?_, fun hw hunits => ?_⟩
    · have h : StartFits s := ⟨⟨htaken, hlistens⟩, hfree, hw, hmotor, hfits⟩
      refine ⟨_, hnext, h.steps .start, h.steps .stage1, h.steps .stage2, fun hiso hid hid31 => ?_⟩
      obtain ⟨n, hslot, hn⟩ := h.announced hiso hid hid31
      exact ⟨n, hslot, hn.farewell, hn.start, hn.stage1, hn.stage2, hn.held, hn.want⟩
    · have h : StagesExpire s := ⟨⟨htaken, hlistens⟩, hfree, hw, hunits⟩
      exact ⟨_, hnext, h.steps .start, h.steps .stage1, h.steps .stage2⟩
  · obtain ⟨hsettle, htaken⟩ := hsettled
    have hdraws : drawsNothing s .stage1 = false ∧ drawsNothing s .stage2 = false := by
      simp [drawsNothing, hpresent, hon1, hon2]
    have h : StagesCovered s := ⟨⟨htaken, hlistens⟩, hcls, h0, h1, h2, hw2, hdraws.1, hdraws.2⟩
    refine ⟨_, mainEvent_of_due hpow (isSome_of_ne_none hsettle), h.start_after, ?_, ?_, fun hf hunits => ?_,
      fun hf hfiring => h.leaves_stage2 ((falls_iff s).2 hf) hfiring⟩
    · by_cases hfalls : Falls s
      · exact (h.shed_stage2 hfalls).trans (if_pos ((falls_iff s).1 hfalls)).symm
      · exact ((h.kept hfalls .stage2).trans h2).trans (if_neg fun hf => hfalls ((falls_iff s).2 hf)).symm
    · by_cases hfalls : Falls s
      · by_cases hfurther : FallsFurther s
        · exact (h.shed_stage1 hfalls hfurther).trans (if_pos ⟨(falls_iff s).1 hfalls, hfurther⟩).symm
        · exact (h.kept_stage1 hfalls hfurther).trans (if_neg fun hf => hfurther hf.2).symm
      · exact ((h.kept hfalls .stage1).trans h1).trans (if_neg fun hf => hfalls ((falls_iff s).2 hf.1)).symm
    · by_cases hfurther : FallsFurther s
      · exact (h.sheds_both ((falls_iff s).2 hf) hfurther).trans (if_pos hfurther.2).symm
      · exact (h.sheds_one ((falls_iff s).2 hf) hfurther).trans (if_neg fun hmore => hfurther ⟨hunits, hmore⟩).symm
  · obtain ⟨hset, heff, hmismatch⟩ := finish_evaluated (s := s) (u := listenInEnds s) rfl rfl
    exact ⟨_, mainEvent_of_due hpow (isSome_of_ne_none hlisten), hset, heff, hmismatch⟩
  · obtain ⟨hset, heff, hmismatch⟩ := finish_evaluated (s := s) (u := agePeerOut s id) rfl rfl
    exact ⟨_, mainEvent_of_due (body := (agePeerOut · id)) hpow ((hasPeer_iff _ _).2 hpeer), hset, heff, hmismatch⟩
  · rcases hc with ⟨rfl, hsettle⟩ | ⟨rfl, hsending⟩
    · have hclass := finish_class (s := s) (u := settleEnds s) true rfl rfl
      exact ⟨_, mainEvent_of_due hpow (isSome_of_ne_none hsettle), hclass⟩
    · have hclass := finish_class (u := noticeSent s) false (noticeSent_cls s) rfl
      exact ⟨_, mainEvent_of_due hpow (decide_eq_true hsending), hclass⟩
  · obtain ⟨t, ht, hf⟩ := exec_follows hc s
    refine ⟨t, ht, fun hs => ⟨hf.taken hs, fun _ => ⟨hf.risen hs, hf.fallen hs⟩⟩, hf.unwanted, fun hmay hmoved => ?_⟩
    obtain ⟨n, hslot, hn⟩ := hf.announced hmay hmoved
    exact ⟨n, hslot, hn.farewell, hn.heat⟩

end Sys2Proof.Proofs
end
